-- ==== Sys2Proof/Word.lean ====
section
/-! DEFINITION. The plain data types the whole model is written over: a byte, a 64-bit machine word, a byte string and
a sparse table keyed by numbers. -/

namespace Sys2Proof

/-- A byte of a frame, a packet or a store. -/
abbrev Byte := BitVec 8

/-- A 64-bit word: a working register, a scratchpad or common-store word (R167, R173). -/
abbrev Word := BitVec 64

/-- A byte string, byte 0 first: a frame, a packet, an operand. -/
abbrev Bytes := List Byte

/-- A sparse table from numbers to values, kept in rising key order. -/
abbrev NMap (α : Type) := List (Nat × α)

end Sys2Proof
end

