-- ==== Sys2Proof/Syntax.lean ====
section
/-! DEFINITION. The commands of the block: one constructor of `Instr` per row of spec/opcode_table.json, with the operands
the row's event carries. Where an event's instant depends on something outside the device (a link partner, a sensor, the age of a
laser, an upset memory bit), the operand says what was found; what the device makes of it is the meaning's matter. -/

namespace Sys2Proof

/-- What the error-correcting code of a memory word or block finds when it is read (R178, R265). -/
inductive Ecc where
  | good
  | single
  | double
deriving DecidableEq, Repr

/-- How the read of a work-queue entry or chain record ends (Table 15.4, source 0x20). -/
inductive FetchEnd where
  | ok
  | uncorrectable
  | timeout
deriving DecidableEq, Repr

/-- Why a link falls (R75). -/
inductive LinkLoss where
  | pcsLock
  | localFault
  | remoteFault
  | faultEnds
deriving DecidableEq, Repr

/-- The FIFO a slice's parser takes a pass from (R96). -/
inductive PassSource where
  | receive (port : Nat)
  | recirculation
  | inject
deriving DecidableEq, Repr

/-- What the TCAM scrub finds in a row (R152, R153). -/
inductive RowFinding where
  | clean
  | parity
  | dataSingle
  | dataDouble
deriving DecidableEq, Repr

/-- What a TCAM search finds as it checks its winning row (R154): nothing wrong or an error corrected, a parity error of a component, or
uncorrectable associated data. -/
inductive WinnerCheck where
  | good
  | parity (component : Nat)
  | data
deriving DecidableEq, Repr

/-- What the egress stage finds as it reads a word of a frame's cells, or a link word: of a link word, what the code finds in each of its
two copies (R228, R246, R265). -/
inductive CellFinding where
  | clean
  | single (cell : Nat)
  | dataBad (cell : Nat)
  | link (cell : Nat) (first second : Ecc)
deriving DecidableEq, Repr

/-- What a training sweep finds of a byte lane: the first passing step and the number of passing steps of its read and its write
delay, in steps of 1/64 unit interval (R252). -/
structure LaneWindow where
  readFirst : Nat
  readSteps : Nat
  writeFirst : Nat
  writeSteps : Nat
deriving DecidableEq, Repr

/-- A byte lane's read and write delay, in 1/128 unit interval, and its read and write margin in ps (R252, R253). -/
structure LaneTrim where
  readDelay : Nat
  writeDelay : Nat
  readMargin : Nat
  writeMargin : Nat
deriving DecidableEq, Repr

/-- What the error-correcting code finds as a table block of segment 0 is read from a stack; `otherBad` says that the copy it is healed
from fails too (R265, R267). -/
structure BlockFound where
  stack : Nat
  block : Nat
  ecc : Ecc
  otherBad : Bool
deriving DecidableEq, Repr

/-- A request of the pipeline to a stack that gets no response: a read or write of a table block, or a read of a Vat cell (R342); or a
parity error that a pseudo-channel's controller finds in its command path (Table 15.4, source 0x16). -/
inductive HbmRequest where
  | tableRead (block : Nat)
  | tableWrite (block : Nat)
  | vatRead (cell : Nat)
  | commandParity (pc : Nat)
deriving DecidableEq, Repr

/-- The fields of an SX_CMD scan other than its Op (Table 20.4). -/
structure SxFields where
  unit : Nat
  context : Nat
  space : Nat
  address : Nat
  count : Nat
  data : Nat
deriving DecidableEq, Repr

/-- The commands of the block, in the order of spec/opcode_table.json. Unit numbers are those of Table 0.2; a context is
named by engine × 8 + context; a work queue by function × 16 + queue and a ring by function × 8 + ring (R43). -/
inductive Instr where
  | bdpFrameReceive (port : Nat) (frame : Bytes) (fcsOk : Bool)
  | chainForwardTransmit (port : Nat)
  | managementLinkChange (port : Nat) (up : Bool)
  | bdpRead (badWords : List Nat)
  | bdpWrite
  | readBulk (found : List BlockFound)
  | writeBulk
  | helmTake
  | helmGive
  | injectToQueue (aboveRate : Bool)
  | injectToPipeline (aboveRate : Bool)
  | puntFrameSend
  | descriptorFetch (queue : Nat) (found : FetchEnd) (blocks : List BlockFound)
  | tableNop (queue count : Nat)
  | tableInsert (queue count : Nat) (found : List BlockFound)
  | tableUpdate (queue count : Nat) (found : List BlockFound)
  | tableDelete (queue count : Nat) (found : List BlockFound)
  | tableSearch (queue count : Nat) (found : List BlockFound)
  | tableNext (queue count : Nat) (found : List BlockFound)
  | flushByPort (queue count : Nat)
  | bulkWrite (queue count : Nat)
  | chainRecordExecute (queue count : Nat) (found : FetchEnd) (blocks : List BlockFound)
  | fence (queue count : Nat)
  | fenceComplete (queue count : Nat)
  | flexRead (queue count : Nat) (found : List BlockFound)
  | tcamInsertControl (queue count : Nat) (found : List BlockFound)
  | tcamUpdateControl (queue count : Nat) (found : List BlockFound)
  | tcamDeleteControl (queue count : Nat)
  | tcamUpdateKey (queue count : Nat) (found : List BlockFound)
  | tcamSearchControl (queue count : Nat)
  | tcamSearchKey (queue count : Nat)
  | tcamSearchLookup (queue count : Nat) (winner : WinnerCheck) (found : List BlockFound)
  | completionPost (queue count : Nat)
  | heldCompletionMove (ring : Nat)
  | laneLockChange (lane rxState : Nat)
  | linkUp (port : Nat)
  | linkDown (port : Nat) (why : LinkLoss)
  | macFrameReceive (port : Nat) (frame : Bytes) (fcsOk bufferBad : Bool)
  | pauseFrameReceive (port : Nat) (frame : Bytes)
  | pauseExpiry (port cls : Nat)
  | pfcXoffTransmit (port : Nat)
  | pauseRepeat (port : Nat)
  | pauseResumeTransmit (port cls : Nat)
  | biasRatioReached (oe source : Nat)
  | laserSwapSettled (oe : Nat)
  | laserSwapFullShare (oe : Nat)
  | laserSwapComplete (oe : Nat)
  | laserSourceFailed (oe source : Nat)
  | spareFullPower (oe source : Nat)
  | biasRatioLimit (oe source : Nat) (held : Bool)
  | parsePass (slice : Nat) (src : PassSource) (winners : NMap WinnerCheck)
  | learnWrite (slice : Nat)
  | l2NotifyFlush (slice : Nat)
  | l2SweepVisit (slice index : Nat)
  | barrierRelease (slice bucket : Nat)
  | barrierTimeout (slice bucket : Nat)
  | contextDispatch (cluster : Nat) (found : List BlockFound)
  | microwordExecute (engine badCopies : Nat)
  | memoryAccessPerform (accesses : List (Nat × Nat)) (ecc : Ecc)
  | loadResult (context access : Nat)
  | lookupResultArrive (context slot : Nat) (winner : WinnerCheck) (found : List BlockFound)
  | policeResult (contexts : List Nat)
  | cstoreCopyRewrite (cluster address : Nat)
  | watchdogExpiry (context : Nat)
  | packetRelease (cluster bucket : Nat)
  | clusterIdle (cluster : Nat)
  | clusterWakeDone (cluster : Nat)
  | clusterHang (cluster : Nat)
  | stageVerifyDone (slot : Nat)
  | imageLoadStart
  | imageLoadDone (firstBad secondBad : Bool)
  | pilotRestart
  | pilotRevert
  | separatorEvaluate (queue : Nat)
  | stackClosed (stack : Nat)
  | bufferSegmentRetired (segment : Nat)
  | hbmTrainingComplete (stack : Nat) (sweep : List (List LaneWindow))
  | driftTrack (stack : Nat) (trims : List (List LaneTrim))
  | marginCheck (stack : Nat)
  | refreshInterval (pc : Nat) (requestsWaiting : Bool)
  | hbmTempSample (stack : Nat) (tenths : Int)
  | drainTimeout (stack : Nat)
  | parkPrepare (stack : Nat)
  | parkCommit (stack : Nat)
  | retrainSweepDone (stack : Nat) (sweep : List (List LaneWindow))
  | wakeRelock (stack : Nat)
  | replayComplete (stack : Nat)
  | hbmScrubVisit (found : BlockFound)
  | pcRetired (pc : Nat)
  | hbmResponseTimeout (stack : Nat) (request : HbmRequest)
  | schedulerSelect (inst : Nat)
  | shaperRefill
  | flushComplete
  | tasChangeTime (port : Nat)
  | gateEntryStart (port : Nat)
  | frameTransmitStart (port : Nat) (found : List CellFinding)
  | frameTransmitEnd (port : Nat)
  | ppsOutRise
  | ppsOutFall
  | ppsCapture
  | lookoutEventAccept
  | reactionShadowEnd (target : Nat)
  | copyMismatch
  | lookoutParity
  | dumpStart
  | onChipDumpDone
  | hbmDumpDone
  | tcamScrubVisit (slice row component : Nat) (found : RowFinding)
  | crossingAccessTimeout (crossing object : Nat)
  | lateAcknowledge (crossing : Nat)
  | crossingPulse (crossing signal : Nat) (acknowledged arrived : Bool)
  | reference (present : Bool)
  | pilotLockstep
  | pilotMemory
  | pilotWatchdog
  | pllUnlock (domain : Nat)
  | pllRelock (domain : Nat)
  | loglineCycle
  | snapshotTake
  | snapshotDone
  | flexWriteback (slice counter : Nat) (found : List BlockFound)
  | powerGood
  | powerFailReset
  | vauxLoss
  | resetReleaseBoot (straps : Nat)
  | pilotSelfTestDone
  | trainingEnd
  | opticsSettled
  | deviceRestartBegin
  | restartResetEntry
  | restartResetRelease (straps : Nat)
  | resetNAssert (lowNs : Nat)
  | resetNRelease (straps : Nat)
  | regulatorPhaseFail (rail : Nat)
  | supply (code : Nat) (present : Bool)
  | coreTrimUpdate (die needed : Nat)
  | thermalSample (die0 die1 optics : Int)
  | thermalTrip
  | tapReset (byPin : Bool)
  | tapIdcode
  | tapBypass (code : Nat)
  | sxNop (op : Nat) (fields : SxFields)
  | sxHalt (fields : SxFields)
  | sxResume (fields : SxFields)
  | sxStep (fields : SxFields)
  | sxRead (fields : SxFields) (ecc : Ecc) (blocks : List BlockFound)
  | sxWrite (fields : SxFields)
  | sxBlockRead (fields : SxFields)
  | sxBlockWrite (fields : SxFields)
  | sxSetPoint (fields : SxFields)
  | sxClearPoint (fields : SxFields)
  | sxStart (fields : SxFields)
  | sxHaltAll (fields : SxFields)
  | sxResumeAll (fields : SxFields)
  | sxCommandComplete (words : NMap Ecc) (blocks : List BlockFound)
  | sxResultCapture
  | sxStreamWrite (word : Word)
  | sxStreamRead
  | debugClockAbsent
  | timeTick
  | cachePrefetch (queue : Nat) (blocks : List BlockFound)
  | countPerformed (context : Nat) (found : List BlockFound)
  | replayBlockCopy (stack : Nat) (found : List BlockFound)
  | pilotRestartEnd
  | vauxPresent
  | instructionSelect (code : Nat)
deriving DecidableEq, Repr

end Sys2Proof
end

