-- ==== Sys2Proof/Machine/Bits.lean ====
section
/-! DEFINITION. Bit fields, sign extension and byte order (R4): a field is named by its most and least significant bit, and the
most significant byte of a value stands at the lowest byte offset. -/

namespace Sys2Proof.Machine

/-- Field [msb:lsb] of a value. -/
def fld (v msb lsb : Nat) : Nat := v / 2 ^ lsb % 2 ^ (msb + 1 - lsb)

/-- A value with its field [msb:lsb] replaced by the low bits of `x`. -/
def putFld (v msb lsb x : Nat) : Nat :=
  v - fld v msb lsb * 2 ^ lsb + x % 2 ^ (msb + 1 - lsb) * 2 ^ lsb

/-- Bit `i` of a value. -/
def bit (v i : Nat) : Bool := v / 2 ^ i % 2 == 1

/-- A Bool as the bit the tables show. -/
def b2n (b : Bool) : Nat := if b then 1 else 0

/-- A value with bit `i` set or cleared. -/
def putBit (v i : Nat) (b : Bool) : Nat := putFld v i i (b2n b)

/-- A field laid at its place, for building a record as a sum of its fields. -/
def at_ (msb lsb x : Nat) : Nat := x % 2 ^ (msb + 1 - lsb) * 2 ^ lsb

/-- A number of `w` bits read as two's complement. -/
def toSigned (w v : Nat) : Int := if v % 2 ^ w < 2 ^ (w - 1) then (v % 2 ^ w : Nat) else (v % 2 ^ w : Nat) - (2 ^ w : Nat)

/-- The `w` low bits of an integer, two's complement. -/
def ofSigned (w : Nat) (i : Int) : Nat := (i % (2 ^ w : Nat)).toNat

/-- Addition modulo 2^w. -/
def addMod (w a b : Nat) : Nat := (a + b) % 2 ^ w

/-- Subtraction modulo 2^w. -/
def subMod (w a b : Nat) : Nat := (a + 2 ^ w - b % 2 ^ w) % 2 ^ w

/-- Addition that stays at the largest value of `w` bits. -/
def addSat (w a b : Nat) : Nat := min (a + b) (2 ^ w - 1)

/-- A big-endian byte string as a number. -/
def beNat (bs : Bytes) : Nat := bs.foldl (fun a b => a * 256 + b.toNat) 0

/-- A number as `n` big-endian bytes. -/
def natBe (n v : Nat) : Bytes := (List.range n).map fun i => BitVec.ofNat 8 (v / 2 ^ (8 * (n - 1 - i)))

/-- `n` bytes from byte offset `o`; bytes beyond the end read as zero. -/
def slice (bs : Bytes) (o n : Nat) : Bytes :=
  let s := (bs.drop o).take n
  s ++ List.replicate (n - s.length) 0

/-- The big-endian number in `n` bytes from byte offset `o`. -/
def beAt (bs : Bytes) (o n : Nat) : Nat := beNat (slice bs o n)

/-- A byte string with the bytes from offset `o` overwritten; it never grows. -/
def overwrite (bs : Bytes) (o : Nat) (new : Bytes) : Bytes :=
  bs.take o ++ (new.take (bs.length - o)) ++ bs.drop (o + new.length)

/-- Padded with zero bytes up to length `n`. -/
def padTo (n : Nat) (bs : Bytes) : Bytes := bs ++ List.replicate (n - bs.length) 0

/-- `a` rounded up to a multiple of `m`. -/
def roundUp (m a : Nat) : Nat := (a + m - 1) / m * m

/-- Integer division rounded up. -/
def ceilDiv (a b : Nat) : Nat := (a + b - 1) / b

/-- The first element that satisfies `p`, with its place. -/
def findFrom {α : Type} (p : α → Bool) : Nat → List α → Option (Nat × α)
  | _, [] => none
  | i, x :: xs => if p x then some (i, x) else findFrom p (i + 1) xs

/-- A list with the element at place `i` replaced. -/
def setAt {α : Type} (xs : List α) (i : Nat) (x : α) : List α := xs.set i x

/-- An element put into a list ordered by a key, before those of the same key. -/
def insertOn {α : Type} (key : α → Nat) (a : α) : List α → List α
  | [] => [a]
  | b :: bs => if key a ≤ key b then a :: b :: bs else b :: insertOn key a bs

/-- A list in increasing order of a key, its equals in their own order. -/
def sortOn {α : Type} (key : α → Nat) : List α → List α
  | [] => []
  | a :: as => insertOn key a (sortOn key as)

end Sys2Proof.Machine
end

