-- ==== Sys2Proof/Machine/Objects.lean ====
section
/-! DEFINITION. The Chart's objects by name and number, and the table of their type, element size, element count, access, observer
flag, guarding Helm token and fixed default, from the object tables of every chapter (R15 to R19, R21). -/

namespace Sys2Proof.Machine

/-- An access code (R17). -/
inductive AccessCode where
  | ro
  | rw
  | wo
  | w1c
deriving DecidableEq, Repr

/-- One row of an object table: number, type code (Table 2.1), bytes per element, elements, access code, the observer-readable flag
(R18), the guarding Helm token (R38), and the fixed default (0 where the default is per element or set at start-up). -/
structure ObjInfo where
  number : Nat
  ty : Nat
  size : Nat
  count : Nat
  access : AccessCode
  obs : Bool
  token : Option Nat
  dflt : Nat
deriving DecidableEq, Repr

/-- DEV.PartId (02). -/
abbrev Obj.devPartId : Nat := 0x0001
/-- DEV.Stepping (02). -/
abbrev Obj.devStepping : Nat := 0x0002
/-- DEV.Serial (02). -/
abbrev Obj.devSerial : Nat := 0x0003
/-- DEV.Straps (02). -/
abbrev Obj.devStraps : Nat := 0x0004
/-- DEV.State (02). -/
abbrev Obj.devState : Nat := 0x0005
/-- DEV.ChartLock (02). -/
abbrev Obj.devChartLock : Nat := 0x0010
/-- DEV.Restart (02). -/
abbrev Obj.devRestart : Nat := 0x0020
/-- HELM.Token (02). -/
abbrev Obj.helmToken : Nat := 0x0100
/-- HELM.Timeout (02). -/
abbrev Obj.helmTimeout : Nat := 0x0101
/-- BDP.HopLimit (02). -/
abbrev Obj.bdpHopLimit : Nat := 0x0200
/-- BDP.NotifyTarget (02). -/
abbrev Obj.bdpNotifyTarget : Nat := 0x0201
/-- BDP.StationAddress (02). -/
abbrev Obj.bdpStationAddress : Nat := 0x0202
/-- BDP.PuntTarget (02). -/
abbrev Obj.bdpPuntTarget : Nat := 0x0203
/-- BDP.SupervisorPort (02). -/
abbrev Obj.bdpSupervisorPort : Nat := 0x0204
/-- BDP.Epoch (02). -/
abbrev Obj.bdpEpoch : Nat := 0x0205
/-- BDP.LastHeard (02). -/
abbrev Obj.bdpLastHeard : Nat := 0x0206
/-- BDP.Count (02). -/
abbrev Obj.bdpCount : Nat := 0x0210
/-- UCODE.Stage (10). -/
abbrev Obj.ucodeStage : Nat := 0x1000
/-- UCODE.StageStatus (10). -/
abbrev Obj.ucodeStageStatus : Nat := 0x1001
/-- UCODE.ApplyConstants (10). -/
abbrev Obj.ucodeApplyConstants : Nat := 0x1002
/-- UCODE.KeyHash (10). -/
abbrev Obj.ucodeKeyHash : Nat := 0x1010
/-- UCODE.KeyPolicy (10). -/
abbrev Obj.ucodeKeyPolicy : Nat := 0x1011
/-- UCODE.FuseOwner (10). -/
abbrev Obj.ucodeFuseOwner : Nat := 0x1012
/-- UCODE.Version (10). -/
abbrev Obj.ucodeVersion : Nat := 0x1100
/-- UCODE.ImageHash (10). -/
abbrev Obj.ucodeImageHash : Nat := 0x1101
/-- UCODE.CompatClass (10). -/
abbrev Obj.ucodeCompatClass : Nat := 0x1102
/-- UCODE.Load (10). -/
abbrev Obj.ucodeLoad : Nat := 0x1103
/-- UCODE.LoadStatus (10). -/
abbrev Obj.ucodeLoadStatus : Nat := 0x1104
/-- UCODE.ActiveClass (10). -/
abbrev Obj.ucodeActiveClass : Nat := 0x1105
/-- UCODE.PendingClass (10). -/
abbrev Obj.ucodePendingClass : Nat := 0x1106
/-- PILOT.Status (10). -/
abbrev Obj.pilotStatus : Nat := 0x1200
/-- PILOT.Stage (10). -/
abbrev Obj.pilotStage : Nat := 0x1201
/-- PILOT.Switch (10). -/
abbrev Obj.pilotSwitch : Nat := 0x1202
/-- PILOT.Confirm (10). -/
abbrev Obj.pilotConfirm : Nat := 0x1203
/-- PILOT.ConfirmTimeout (10). -/
abbrev Obj.pilotConfirmTimeout : Nat := 0x1204
/-- PORT.Config (04). -/
abbrev Obj.portConfig : Nat := 0x2000
/-- PORT.Enable (04). -/
abbrev Obj.portEnable : Nat := 0x2001
/-- PORT.Status (04). -/
abbrev Obj.portStatus : Nat := 0x2002
/-- PORT.Counters (04). -/
abbrev Obj.portCounters : Nat := 0x2003
/-- PORT.Notify (04). -/
abbrev Obj.portNotify : Nat := 0x2004
/-- PORT.Event (04). -/
abbrev Obj.portEvent : Nat := 0x2005
/-- LANE.Status (04). -/
abbrev Obj.laneStatus : Nat := 0x2010
/-- LASER.Status (04). -/
abbrev Obj.laserStatus : Nat := 0x2020
/-- LASER.SwapRequest (04). -/
abbrev Obj.laserSwapRequest : Nat := 0x2021
/-- LASER.SparesLeft (04). -/
abbrev Obj.laserSparesLeft : Nat := 0x2022
/-- PARSE.Counters (05). -/
abbrev Obj.parseCounters : Nat := 0x3000
/-- KEY.ClassMap (05). -/
abbrev Obj.keyClassMap : Nat := 0x3100
/-- KEY.Segment (05). -/
abbrev Obj.keySegment : Nat := 0x3101
/-- KEY.Lookup (05). -/
abbrev Obj.keyLookup : Nat := 0x3102
/-- KEY.Hash (05). -/
abbrev Obj.keyHash : Nat := 0x3103
/-- HASH.ToeplitzKey (05). -/
abbrev Obj.hashToeplitzKey : Nat := 0x3110
/-- STEER.Indirection (05). -/
abbrev Obj.steerIndirection : Nat := 0x3200
/-- STEER.FenceTarget (05). -/
abbrev Obj.steerFenceTarget : Nat := 0x3201
/-- STEER.BarrierCount (05). -/
abbrev Obj.steerBarrierCount : Nat := 0x3202
/-- STEER.ClusterBuckets (05). -/
abbrev Obj.steerClusterBuckets : Nat := 0x3203
/-- STEER.BarrierPending (05). -/
abbrev Obj.steerBarrierPending : Nat := 0x3204
/-- L2.AgePeriod (06). -/
abbrev Obj.l2AgePeriod : Nat := 0x4000
/-- L2.Notify (06). -/
abbrev Obj.l2Notify : Nat := 0x4001
/-- L2.Event (06). -/
abbrev Obj.l2Event : Nat := 0x4002
/-- L2.Generation (06). -/
abbrev Obj.l2Generation : Nat := 0x4003
/-- TBL.Counters (06). -/
abbrev Obj.tblCounters : Nat := 0x4010
/-- TBL.Shared (06). -/
abbrev Obj.tblShared : Nat := 0x4011
/-- TCAM.Table (07). -/
abbrev Obj.tcamTable : Nat := 0x4800
/-- TCAM.SegmentTag (07). -/
abbrev Obj.tcamSegmentTag : Nat := 0x4801
/-- TCAM.BankStatus (07). -/
abbrev Obj.tcamBankStatus : Nat := 0x4802
/-- TCAM.Counters (07). -/
abbrev Obj.tcamCounters : Nat := 0x4803
/-- TCAM.ErrorLog (07). -/
abbrev Obj.tcamErrorLog : Nat := 0x4804
/-- TCAM.ErrorCount (07). -/
abbrev Obj.tcamErrorCount : Nat := 0x4805
/-- TCAM.Notify (07). -/
abbrev Obj.tcamNotify : Nat := 0x4806
/-- TCAM.BankErrorLimit (07). -/
abbrev Obj.tcamBankErrorLimit : Nat := 0x4807
/-- CL.Status (08). -/
abbrev Obj.clStatus : Nat := 0x5000
/-- CL.Fence (08). -/
abbrev Obj.clFence : Nat := 0x5001
/-- CL.EngineFence (08). -/
abbrev Obj.clEngineFence : Nat := 0x5002
/-- CL.Dispatch (08). -/
abbrev Obj.clDispatch : Nat := 0x5003
/-- CL.Watchdog (08). -/
abbrev Obj.clWatchdog : Nat := 0x5004
/-- CL.Counters (08). -/
abbrev Obj.clCounters : Nat := 0x5005
/-- CL.TrapLog (08). -/
abbrev Obj.clTrapLog : Nat := 0x5006
/-- CL.TrapCount (08). -/
abbrev Obj.clTrapCount : Nat := 0x5007
/-- ENG.DiscardCount (08). -/
abbrev Obj.engDiscardCount : Nat := 0x5008
/-- ENG.PuntPool (08). -/
abbrev Obj.engPuntPool : Nat := 0x5009
/-- MIRROR.Session (08). -/
abbrev Obj.mirrorSession : Nat := 0x500A
/-- MEM.Address (08). -/
abbrev Obj.memAddress : Nat := 0x5010
/-- MEM.Data (08). -/
abbrev Obj.memData : Nat := 0x5011
/-- CS.Segments (08). -/
abbrev Obj.csSegments : Nat := 0x5012
/-- TM.Port (13). -/
abbrev Obj.tmPort : Nat := 0x6000
/-- TM.Service (13). -/
abbrev Obj.tmService : Nat := 0x6001
/-- TM.Subscriber (13). -/
abbrev Obj.tmSubscriber : Nat := 0x6002
/-- TM.ClassProfile (13). -/
abbrev Obj.tmClassProfile : Nat := 0x6003
/-- TM.Flush (13). -/
abbrev Obj.tmFlush : Nat := 0x6004
/-- TM.FlushStatus (13). -/
abbrev Obj.tmFlushStatus : Nat := 0x6005
/-- TM.PortClassCounters (13). -/
abbrev Obj.tmPortClassCounters : Nat := 0x6006
/-- TM.PuntPolicer (13). -/
abbrev Obj.tmPuntPolicer : Nat := 0x6010
/-- TM.PuntDrops (13). -/
abbrev Obj.tmPuntDrops : Nat := 0x6011
/-- POL.Config0 (13). -/
abbrev Obj.polConfig0 : Nat := 0x6020
/-- POL.Config1 (13). -/
abbrev Obj.polConfig1 : Nat := 0x6021
/-- POL.Config2 (13). -/
abbrev Obj.polConfig2 : Nat := 0x6022
/-- POL.Config3 (13). -/
abbrev Obj.polConfig3 : Nat := 0x6023
/-- POL.Counters (13). -/
abbrev Obj.polCounters : Nat := 0x6024
/-- TAS.Admin (13). -/
abbrev Obj.tasAdmin : Nat := 0x6040
/-- TAS.Entry (13). -/
abbrev Obj.tasEntry : Nat := 0x6041
/-- TAS.Apply (13). -/
abbrev Obj.tasApply : Nat := 0x6042
/-- TAS.Status (13). -/
abbrev Obj.tasStatus : Nat := 0x6043
/-- TM.HistEdges (13). -/
abbrev Obj.tmHistEdges : Nat := 0x6050
/-- TM.Histogram (13). -/
abbrev Obj.tmHistogram : Nat := 0x6051
/-- BUF.PoolConfig (11). -/
abbrev Obj.bufPoolConfig : Nat := 0x7000
/-- BUF.ClassAdmit (11). -/
abbrev Obj.bufClassAdmit : Nat := 0x7001
/-- BUF.ClassPool (11). -/
abbrev Obj.bufClassPool : Nat := 0x7002
/-- BUF.PoolStatus (11). -/
abbrev Obj.bufPoolStatus : Nat := 0x7003
/-- BUF.PoolCounters (11). -/
abbrev Obj.bufPoolCounters : Nat := 0x7004
/-- BUF.PortDiscard (11). -/
abbrev Obj.bufPortDiscard : Nat := 0x7005
/-- BUF.PairState (11). -/
abbrev Obj.bufPairState : Nat := 0x7006
/-- BUF.SegmentState (11). -/
abbrev Obj.bufSegmentState : Nat := 0x7007
/-- BUF.Status (11). -/
abbrev Obj.bufStatus : Nat := 0x7008
/-- BUF.EntryDiscard (11). -/
abbrev Obj.bufEntryDiscard : Nat := 0x7009
/-- SEP.Config (11). -/
abbrev Obj.sepConfig : Nat := 0x7040
/-- SEP.Stack (11). -/
abbrev Obj.sepStack : Nat := 0x7041
/-- SEP.QueueSelect (11). -/
abbrev Obj.sepQueueSelect : Nat := 0x7042
/-- SEP.QueueState (11). -/
abbrev Obj.sepQueueState : Nat := 0x7043
/-- HBM.Config (12). -/
abbrev Obj.hbmConfig : Nat := 0x7080
/-- HBM.Request (12). -/
abbrev Obj.hbmRequest : Nat := 0x7081
/-- HBM.StackStatus (12). -/
abbrev Obj.hbmStackStatus : Nat := 0x7082
/-- HBM.PcStatus (12). -/
abbrev Obj.hbmPcStatus : Nat := 0x7083
/-- HBM.Counters (12). -/
abbrev Obj.hbmCounters : Nat := 0x7084
/-- TIME.Now (14). -/
abbrev Obj.timeNow : Nat := 0x8000
/-- TIME.Increment (14). -/
abbrev Obj.timeIncrement : Nat := 0x8001
/-- TIME.Step (14). -/
abbrev Obj.timeStep : Nat := 0x8002
/-- TIME.JumpLimit (14). -/
abbrev Obj.timeJumpLimit : Nat := 0x8003
/-- TIME.Status (14). -/
abbrev Obj.timeStatus : Nat := 0x8004
/-- TIME.JumpRefused (14). -/
abbrev Obj.timeJumpRefused : Nat := 0x8005
/-- TIME.PortDelay (14). -/
abbrev Obj.timePortDelay : Nat := 0x8006
/-- TIME.RxStamp (14). -/
abbrev Obj.timeRxStamp : Nat := 0x8007
/-- TIME.Counters (14). -/
abbrev Obj.timeCounters : Nat := 0x8008
/-- PPS.OutConfig (14). -/
abbrev Obj.ppsOutConfig : Nat := 0x8010
/-- PPS.Capture (14). -/
abbrev Obj.ppsCapture : Nat := 0x8011
/-- PPS.Notify (14). -/
abbrev Obj.ppsNotify : Nat := 0x8012
/-- TSQ.Pop (14). -/
abbrev Obj.tsqPop : Nat := 0x8100
/-- TSQ.Config (14). -/
abbrev Obj.tsqConfig : Nat := 0x8101
/-- TSQ.Status (14). -/
abbrev Obj.tsqStatus : Nat := 0x8102
/-- TSQ.Overflow (14). -/
abbrev Obj.tsqOverflow : Nat := 0x8103
/-- LOOK.Status (15). -/
abbrev Obj.lookStatus : Nat := 0x9000
/-- LOOK.Config (15). -/
abbrev Obj.lookConfig : Nat := 0x9001
/-- LOOK.Severity (15). -/
abbrev Obj.lookSeverity : Nat := 0x9002
/-- LOOK.SourceStatus (15). -/
abbrev Obj.lookSourceStatus : Nat := 0x9003
/-- LOOK.UnitStatus (15). -/
abbrev Obj.lookUnitStatus : Nat := 0x9004
/-- LOOK.Unfence (15). -/
abbrev Obj.lookUnfence : Nat := 0x9005
/-- LOOK.SourceCount (15). -/
abbrev Obj.lookSourceCount : Nat := 0x9006
/-- LOOK.Counters (15). -/
abbrev Obj.lookCounters : Nat := 0x9007
/-- LOOK.History (15). -/
abbrev Obj.lookHistory : Nat := 0x9100
/-- DUMP.Control (15). -/
abbrev Obj.dumpControl : Nat := 0x9200
/-- DUMP.Status (15). -/
abbrev Obj.dumpStatus : Nat := 0x9201
/-- CNT.SnapshotAt (17). -/
abbrev Obj.cntSnapshotAt : Nat := 0xA000
/-- CNT.SnapshotStatus (17). -/
abbrev Obj.cntSnapshotStatus : Nat := 0xA001
/-- CNT.SnapshotImage (17). -/
abbrev Obj.cntSnapshotImage : Nat := 0xA002
/-- CNT.Notify (17). -/
abbrev Obj.cntNotify : Nat := 0xA003
/-- CNT.Counters (17). -/
abbrev Obj.cntCounters : Nat := 0xA004
/-- WQ.Config (03). -/
abbrev Obj.wqConfig : Nat := 0xB000
/-- WQ.Enable (03). -/
abbrev Obj.wqEnable : Nat := 0xB001
/-- WQ.Doorbell (03). -/
abbrev Obj.wqDoorbell : Nat := 0xB002
/-- WQ.CacheInvalidate (03). -/
abbrev Obj.wqCacheInvalidate : Nat := 0xB003
/-- WQ.Head (03). -/
abbrev Obj.wqHead : Nat := 0xB004
/-- WQ.Outstanding (03). -/
abbrev Obj.wqOutstanding : Nat := 0xB005
/-- WQ.Idle (03). -/
abbrev Obj.wqIdle : Nat := 0xB006
/-- WQ.Malformed (03). -/
abbrev Obj.wqMalformed : Nat := 0xB007
/-- WQ.Fenced (03). -/
abbrev Obj.wqFenced : Nat := 0xB008
/-- WQ.FunctionReset (03). -/
abbrev Obj.wqFunctionReset : Nat := 0xB009
/-- CQ.Config (03). -/
abbrev Obj.cqConfig : Nat := 0xB010
/-- CQ.Producer (03). -/
abbrev Obj.cqProducer : Nat := 0xB011
/-- CQ.Consumer (03). -/
abbrev Obj.cqConsumer : Nat := 0xB012
/-- CQ.Held (03). -/
abbrev Obj.cqHeld : Nat := 0xB013
/-- CQ.Stall (03). -/
abbrev Obj.cqStall : Nat := 0xB014
/-- CQ.StallCount (03). -/
abbrev Obj.cqStallCount : Nat := 0xB015
/-- CQ.Push (03). -/
abbrev Obj.cqPush : Nat := 0xB016
/-- DBG.Enable (20). -/
abbrev Obj.dbgEnable : Nat := 0xC000
/-- DBG.Status (20). -/
abbrev Obj.dbgStatus : Nat := 0xC001
/-- DBG.FuseDisable (20). -/
abbrev Obj.dbgFuseDisable : Nat := 0xC002
/-- DBG.Buffer (20). -/
abbrev Obj.dbgBuffer : Nat := 0xC003
/-- DBG.Halted (20). -/
abbrev Obj.dbgHalted : Nat := 0xC004
/-- PWR.Status (19). -/
abbrev Obj.pwrStatus : Nat := 0xD000
/-- PWR.Rail (19). -/
abbrev Obj.pwrRail : Nat := 0xD001
/-- THERM.Status (19). -/
abbrev Obj.thermStatus : Nat := 0xD002
/-- CLK.Status (16). -/
abbrev Obj.clkStatus : Nat := 0xE000
/-- CROSS.Status (16). -/
abbrev Obj.crossStatus : Nat := 0xE001
/-- CROSS.Overrun (16). -/
abbrev Obj.crossOverrun : Nat := 0xE002
/-- CROSS.Counters (16). -/
abbrev Obj.crossCounters : Nat := 0xE003

/-- Object table rows, part 0. -/
def objRows0 : List ObjInfo := [
  ⟨0x0001, 4, 4, 1, .ro, true, none, 1361054864⟩,
  ⟨0x0002, 2, 1, 1, .ro, true, none, 177⟩,
  ⟨0x0003, 9, 16, 1, .ro, true, none, 0⟩,
  ⟨0x0004, 3, 2, 1, .ro, true, none, 0⟩,
  ⟨0x0005, 2, 1, 1, .ro, true, none, 0⟩,
  ⟨0x0010, 3, 2, 1, .rw, true, some 0, 0⟩,
  ⟨0x0020, 2, 1, 1, .wo, false, some 0, 0⟩,
  ⟨0x0100, 2, 1, 16, .ro, true, none, 255⟩,
  ⟨0x0101, 4, 4, 1, .rw, true, none, 5000⟩,
  ⟨0x0200, 2, 1, 1, .rw, true, none, 64⟩,
  ⟨0x0201, 2, 1, 1, .rw, true, none, 2⟩,
  ⟨0x0202, 9, 6, 1, .rw, true, none, 0⟩,
  ⟨0x0203, 2, 1, 1, .rw, true, none, 0⟩,
  ⟨0x0204, 2, 1, 2, .rw, true, none, 3⟩,
  ⟨0x0205, 2, 1, 1, .ro, true, none, 0⟩,
  ⟨0x0206, 4, 4, 16, .ro, true, none, 4294967295⟩,
  ⟨0x0210, 5, 8, 32, .ro, true, none, 0⟩,
  ⟨0x1000, 4, 4, 4, .wo, false, some 2, 0⟩,
  ⟨0x1001, 10, 24, 4, .ro, true, none, 0⟩,
  ⟨0x1002, 1, 1, 4, .wo, false, some 2, 0⟩,
  ⟨0x1010, 9, 48, 2, .ro, true, none, 0⟩,
  ⟨0x1011, 2, 1, 1, .ro, true, none, 0⟩,
  ⟨0x1012, 10, 52, 1, .wo, false, some 2, 0⟩,
  ⟨0x1100, 4, 4, 64, .ro, true, none, 0⟩]

/-- Object table rows, part 1. -/
def objRows1 : List ObjInfo := [
  ⟨0x1101, 5, 8, 64, .ro, true, none, 0⟩,
  ⟨0x1102, 3, 2, 64, .ro, true, none, 0⟩,
  ⟨0x1103, 2, 1, 64, .wo, false, some 2, 0⟩,
  ⟨0x1104, 10, 8, 64, .ro, true, none, 0⟩,
  ⟨0x1105, 3, 2, 4, .ro, true, none, 0⟩,
  ⟨0x1106, 3, 2, 4, .rw, true, some 2, 0⟩,
  ⟨0x1200, 10, 16, 1, .ro, true, none, 0⟩,
  ⟨0x1201, 4, 4, 1, .wo, false, some 2, 0⟩,
  ⟨0x1202, 1, 1, 1, .wo, false, some 2, 0⟩,
  ⟨0x1203, 1, 1, 1, .wo, false, some 2, 0⟩,
  ⟨0x1204, 4, 4, 1, .rw, true, none, 60000⟩,
  ⟨0x2000, 10, 16, 256, .rw, true, none, 0⟩,
  ⟨0x2001, 1, 1, 256, .rw, true, none, 0⟩,
  ⟨0x2002, 10, 16, 256, .ro, true, none, 0⟩,
  ⟨0x2003, 10, 96, 256, .ro, true, none, 0⟩,
  ⟨0x2004, 2, 1, 1, .rw, true, none, 0⟩,
  ⟨0x2005, 10, 16, 1, .ro, true, none, 0⟩,
  ⟨0x2010, 10, 8, 256, .ro, true, none, 0⟩,
  ⟨0x2020, 10, 8, 80, .ro, true, none, 0⟩,
  ⟨0x2021, 2, 1, 8, .wo, false, none, 0⟩,
  ⟨0x2022, 2, 1, 8, .ro, true, none, 0⟩,
  ⟨0x3000, 10, 88, 4, .ro, true, none, 0⟩,
  ⟨0x3100, 2, 1, 1024, .rw, true, none, 0⟩,
  ⟨0x3101, 4, 4, 10240, .rw, true, none, 0⟩]

/-- Object table rows, part 2. -/
def objRows2 : List ObjInfo := [
  ⟨0x3102, 4, 4, 1536, .rw, true, none, 0⟩,
  ⟨0x3103, 5, 8, 768, .rw, true, none, 0⟩,
  ⟨0x3110, 9, 40, 1, .rw, false, none, 0⟩,
  ⟨0x3200, 2, 1, 16384, .rw, true, none, 0⟩,
  ⟨0x3201, 2, 1, 4, .rw, true, none, 0⟩,
  ⟨0x3202, 3, 2, 4, .ro, true, none, 0⟩,
  ⟨0x3203, 3, 2, 64, .ro, true, none, 0⟩,
  ⟨0x3204, 1, 1, 16384, .ro, true, none, 0⟩,
  ⟨0x4000, 4, 4, 4, .rw, true, none, 300⟩,
  ⟨0x4001, 2, 1, 4, .rw, true, none, 0⟩,
  ⟨0x4002, 10, 16, 1, .ro, true, none, 0⟩,
  ⟨0x4003, 2, 1, 4, .ro, true, none, 0⟩,
  ⟨0x4010, 10, 80, 4, .ro, true, none, 0⟩,
  ⟨0x4011, 10, 32, 1, .ro, true, none, 0⟩,
  ⟨0x4800, 5, 8, 48, .rw, true, none, 0⟩,
  ⟨0x4801, 2, 1, 768, .rw, true, none, 15⟩,
  ⟨0x4802, 10, 8, 48, .ro, true, none, 0⟩,
  ⟨0x4803, 10, 48, 4, .ro, true, none, 0⟩,
  ⟨0x4804, 10, 16, 256, .ro, true, none, 0⟩,
  ⟨0x4805, 4, 4, 4, .ro, true, none, 0⟩,
  ⟨0x4806, 2, 1, 1, .rw, true, none, 0⟩,
  ⟨0x4807, 2, 1, 1, .rw, true, none, 4⟩,
  ⟨0x5000, 10, 16, 64, .ro, true, none, 0⟩,
  ⟨0x5001, 2, 1, 64, .rw, true, none, 0⟩]

/-- Object table rows, part 3. -/
def objRows3 : List ObjInfo := [
  ⟨0x5002, 1, 1, 1024, .rw, true, none, 0⟩,
  ⟨0x5003, 3, 2, 16384, .ro, true, none, 0⟩,
  ⟨0x5004, 3, 2, 4, .rw, true, none, 2000⟩,
  ⟨0x5005, 10, 96, 64, .ro, true, none, 0⟩,
  ⟨0x5006, 10, 32, 1024, .ro, true, none, 0⟩,
  ⟨0x5007, 4, 4, 64, .ro, true, none, 0⟩,
  ⟨0x5008, 5, 8, 1024, .ro, true, none, 0⟩,
  ⟨0x5009, 2, 1, 1, .rw, true, none, 12⟩,
  ⟨0x500A, 10, 8, 256, .rw, true, none, 0⟩,
  ⟨0x5010, 4, 4, 1, .rw, false, none, 33554432⟩,
  ⟨0x5011, 5, 8, 512, .rw, false, none, 0⟩,
  ⟨0x5012, 3, 2, 1, .rw, true, none, 65535⟩,
  ⟨0x6000, 10, 24, 256, .rw, true, none, 0⟩,
  ⟨0x6001, 10, 24, 4096, .rw, true, none, 0⟩,
  ⟨0x6002, 10, 24, 32768, .rw, true, none, 0⟩,
  ⟨0x6003, 4, 4, 128, .rw, true, none, 0⟩,
  ⟨0x6004, 10, 8, 1, .wo, false, none, 0⟩,
  ⟨0x6005, 10, 8, 1, .ro, true, none, 0⟩,
  ⟨0x6006, 10, 32, 2048, .ro, true, none, 0⟩,
  ⟨0x6010, 10, 8, 16, .rw, true, none, 0⟩,
  ⟨0x6011, 5, 8, 16, .ro, true, none, 0⟩,
  ⟨0x6020, 10, 24, 32768, .rw, true, none, 0⟩,
  ⟨0x6021, 10, 24, 32768, .rw, true, none, 0⟩,
  ⟨0x6022, 10, 24, 32768, .rw, true, none, 0⟩]

/-- Object table rows, part 4. -/
def objRows4 : List ObjInfo := [
  ⟨0x6023, 10, 24, 32768, .rw, true, none, 0⟩,
  ⟨0x6024, 10, 24, 4, .ro, true, none, 0⟩,
  ⟨0x6040, 10, 32, 256, .rw, true, none, 0⟩,
  ⟨0x6041, 4, 4, 65536, .rw, true, none, 0⟩,
  ⟨0x6042, 1, 1, 256, .wo, false, none, 0⟩,
  ⟨0x6043, 10, 64, 256, .ro, true, none, 0⟩,
  ⟨0x6050, 10, 64, 256, .rw, true, none, 0⟩,
  ⟨0x6051, 10, 128, 256, .ro, true, none, 0⟩,
  ⟨0x7000, 10, 16, 16, .rw, true, none, 0⟩,
  ⟨0x7001, 4, 4, 128, .rw, true, none, 1119879168⟩,
  ⟨0x7002, 2, 1, 8, .rw, true, none, 0⟩,
  ⟨0x7003, 10, 16, 16, .ro, true, none, 0⟩,
  ⟨0x7004, 10, 88, 16, .ro, true, none, 0⟩,
  ⟨0x7005, 5, 8, 2048, .ro, true, none, 0⟩,
  ⟨0x7006, 2, 1, 256, .ro, true, none, 0⟩,
  ⟨0x7007, 2, 1, 48, .ro, true, none, 0⟩,
  ⟨0x7008, 10, 48, 1, .ro, true, none, 0⟩,
  ⟨0x7009, 5, 8, 4, .ro, true, none, 0⟩,
  ⟨0x7040, 10, 16, 1, .rw, true, none, 0⟩,
  ⟨0x7041, 10, 16, 4, .ro, true, none, 0⟩,
  ⟨0x7042, 4, 4, 1, .rw, true, none, 0⟩,
  ⟨0x7043, 10, 16, 1, .ro, true, none, 0⟩,
  ⟨0x7080, 10, 16, 1, .rw, true, some 3, 0⟩,
  ⟨0x7081, 2, 1, 4, .wo, false, some 3, 0⟩]

/-- Object table rows, part 5. -/
def objRows5 : List ObjInfo := [
  ⟨0x7082, 10, 32, 4, .ro, true, none, 0⟩,
  ⟨0x7083, 10, 8, 128, .ro, true, none, 0⟩,
  ⟨0x7084, 10, 80, 4, .ro, true, none, 0⟩,
  ⟨0x8000, 8, 10, 1, .rw, true, some 4, 0⟩,
  ⟨0x8001, 5, 8, 1, .rw, true, some 4, 3435973837⟩,
  ⟨0x8002, 7, 8, 1, .wo, false, some 4, 0⟩,
  ⟨0x8003, 5, 8, 1, .rw, true, some 4, 1000000⟩,
  ⟨0x8004, 2, 1, 1, .ro, true, none, 0⟩,
  ⟨0x8005, 2, 1, 1, .w1c, true, none, 0⟩,
  ⟨0x8006, 10, 8, 256, .ro, true, none, 0⟩,
  ⟨0x8007, 1, 1, 256, .rw, true, none, 1⟩,
  ⟨0x8008, 10, 40, 1, .ro, true, none, 0⟩,
  ⟨0x8010, 4, 4, 1, .rw, true, none, 2147583648⟩,
  ⟨0x8011, 10, 16, 1, .ro, true, none, 0⟩,
  ⟨0x8012, 1, 1, 1, .rw, true, none, 0⟩,
  ⟨0x8100, 10, 16, 8, .ro, false, none, 0⟩,
  ⟨0x8101, 2, 1, 8, .rw, true, none, 0⟩,
  ⟨0x8102, 10, 16, 8, .ro, true, none, 0⟩,
  ⟨0x8103, 2, 1, 8, .w1c, true, none, 0⟩,
  ⟨0x9000, 10, 16, 1, .ro, true, none, 0⟩,
  ⟨0x9001, 4, 4, 1, .rw, true, some 5, 1310820⟩,
  ⟨0x9002, 2, 1, 64, .rw, true, some 5, 0⟩,
  ⟨0x9003, 2, 1, 64, .w1c, true, none, 0⟩,
  ⟨0x9004, 2, 1, 4096, .w1c, true, none, 0⟩]

/-- Object table rows, part 6. -/
def objRows6 : List ObjInfo := [
  ⟨0x9005, 3, 2, 1, .wo, false, some 5, 0⟩,
  ⟨0x9006, 5, 8, 64, .ro, true, none, 0⟩,
  ⟨0x9007, 10, 48, 1, .ro, true, none, 0⟩,
  ⟨0x9100, 10, 32, 32, .ro, true, none, 0⟩,
  ⟨0x9200, 2, 1, 1, .wo, false, some 5, 0⟩,
  ⟨0x9201, 10, 16, 1, .ro, true, none, 0⟩,
  ⟨0xA000, 8, 10, 1, .rw, true, none, 0⟩,
  ⟨0xA001, 10, 32, 1, .ro, true, none, 0⟩,
  ⟨0xA002, 5, 8, 65536, .ro, true, none, 0⟩,
  ⟨0xA003, 1, 1, 1, .rw, true, none, 0⟩,
  ⟨0xA004, 10, 32, 1, .ro, true, none, 0⟩,
  ⟨0xB000, 10, 16, 32, .rw, true, none, 0⟩,
  ⟨0xB001, 1, 1, 32, .rw, true, none, 0⟩,
  ⟨0xB002, 4, 4, 32, .rw, true, none, 0⟩,
  ⟨0xB003, 1, 1, 32, .wo, false, none, 0⟩,
  ⟨0xB004, 4, 4, 32, .ro, true, none, 0⟩,
  ⟨0xB005, 3, 2, 32, .ro, true, none, 0⟩,
  ⟨0xB006, 1, 1, 32, .ro, true, none, 1⟩,
  ⟨0xB007, 5, 8, 32, .ro, true, none, 0⟩,
  ⟨0xB008, 1, 1, 32, .ro, true, none, 0⟩,
  ⟨0xB009, 1, 1, 2, .wo, false, none, 0⟩,
  ⟨0xB010, 10, 16, 16, .rw, true, none, 0⟩,
  ⟨0xB011, 4, 4, 16, .ro, true, none, 0⟩,
  ⟨0xB012, 4, 4, 16, .rw, true, none, 0⟩]

/-- Object table rows, part 7. -/
def objRows7 : List ObjInfo := [
  ⟨0xB013, 3, 2, 16, .ro, true, none, 0⟩,
  ⟨0xB014, 2, 1, 16, .w1c, true, none, 0⟩,
  ⟨0xB015, 5, 8, 16, .ro, true, none, 0⟩,
  ⟨0xB016, 10, 16, 16, .ro, true, none, 0⟩,
  ⟨0xC000, 2, 1, 1, .rw, true, some 6, 0⟩,
  ⟨0xC001, 10, 16, 1, .ro, true, none, 0⟩,
  ⟨0xC002, 4, 4, 1, .wo, false, some 6, 0⟩,
  ⟨0xC003, 5, 8, 8192, .ro, false, none, 0⟩,
  ⟨0xC004, 3, 2, 64, .ro, true, none, 0⟩,
  ⟨0xD000, 10, 16, 1, .ro, true, none, 0⟩,
  ⟨0xD001, 10, 16, 16, .ro, true, none, 0⟩,
  ⟨0xD002, 10, 16, 1, .ro, true, none, 0⟩,
  ⟨0xE000, 10, 8, 10, .ro, true, none, 0⟩,
  ⟨0xE001, 10, 8, 256, .ro, true, none, 0⟩,
  ⟨0xE002, 2, 1, 256, .w1c, true, none, 0⟩,
  ⟨0xE003, 10, 48, 256, .ro, true, none, 0⟩]

/-- Every object of the Chart. -/
def objRows : List ObjInfo := objRows0 ++ objRows1 ++ objRows2 ++ objRows3 ++ objRows4 ++ objRows5 ++ objRows6 ++ objRows7

/-- The row of an object number; none where no chapter assigns it (R15). -/
def objInfo? (n : Nat) : Option ObjInfo := objRows.find? fun r => r.number == n

end Sys2Proof.Machine
end

