-- ==== Sys2Proof/Config.lean ====
section
/-! DEFINITION. What one unit of the hardware fixes for itself, and the values the spec leaves open. Each is a constant with no
body: no proof can see its value, so a claim about the model holds whatever it is. -/

namespace Sys2Proof

/-- A value the spec leaves open where it arises while the machine runs: the n-th one drawn. Every draw advances the state's
counter (log 2). -/
opaque Config.freeValue : Nat → Nat

/-- DEV.Serial, read from fuses (Table 2.3): 16 bytes as one number. -/
opaque Config.serial : Nat

/-- The vendor key's digest fused in UCODE.KeyHash element 0 (R214): 48 bytes as one number. -/
opaque Config.vendorKeyHash : Nat

/-- TIME.PortDelay by the port's speed code and reach (R303), figures the spec does not give: 8 bytes as one number, by
speed × 2 + reach. -/
opaque Config.portDelay : Nat → Nat

/-- The voltage that a laser source, by LASER.Status element, needs at a tick of reference time (R391): it depends on the source, its light
and its age, which the spec leaves open. -/
opaque Config.laserNeed : Nat → Nat → Nat

/-- The set of a slice's flow cache a flow key falls in (R131), by key, modulo the number of sets; the spec gives no hash. -/
opaque Config.flowCacheSet : Nat → Nat

/-- The block whose churn bit is the n-th bit of a copy of the churn log (R262), modulo the number of blocks; the spec gives no order of
the bitmap. -/
opaque Config.churnBlock : Nat → Nat

end Sys2Proof
end

