-- ==== Sys2Proof/Machine/Store.lean ====
section
/-! DEFINITION. The plain-data stores of the state, each in one canonical form: maps from numbers (keys strictly rising), sets of
numbers (strictly rising), and byte memories (addresses strictly rising, no byte that is zero; an unlisted byte reads zero): DESIGN CHOICE,
log 79. -/

namespace Sys2Proof.Machine

/-- The value a map lists for a key. -/
def mapGet? {α : Type} : NMap α → Nat → Option α
  | [], _ => none
  | (k', a) :: m, k => if k' = k then some a else mapGet? m k

/-- The value of a key, or what an unlisted key holds. -/
def mapGet {α : Type} (m : NMap α) (k : Nat) (dflt : α) : α := (mapGet? m k).getD dflt

/-- A map with a key listed. -/
def mapPut {α : Type} : NMap α → Nat → α → NMap α
  | [], k, a => [(k, a)]
  | (k', a') :: m, k, a =>
    if k < k' then (k, a) :: (k', a') :: m
    else if k = k' then (k, a) :: m
    else (k', a') :: mapPut m k a

/-- A map with a key no longer listed. -/
def mapDel {α : Type} : NMap α → Nat → NMap α
  | [], _ => []
  | (k', a') :: m, k => if k = k' then mapDel m k else (k', a') :: mapDel m k

/-- A map with a key set, where `dflt` is what an unlisted key holds and is therefore never listed. -/
def mapSet {α : Type} [DecidableEq α] (m : NMap α) (k : Nat) (a dflt : α) : NMap α :=
  if a = dflt then mapDel m k else mapPut m k a

/-- Whether a number is in a set. -/
def setHas : List Nat → Nat → Bool
  | [], _ => false
  | x :: xs, k => x == k || setHas xs k

/-- A set with a number added. -/
def setAdd : List Nat → Nat → List Nat
  | [], k => [k]
  | x :: xs, k => if k < x then k :: x :: xs else if k = x then x :: xs else x :: setAdd xs k

/-- A set with a number removed. -/
def setDel : List Nat → Nat → List Nat
  | [], _ => []
  | x :: xs, k => if k = x then setDel xs k else x :: setDel xs k

/-- A set with a number put in or taken out. -/
def setTo (xs : List Nat) (k : Nat) (b : Bool) : List Nat := if b then setAdd xs k else setDel xs k

/-- A byte memory: what it lists; every unlisted byte reads zero (R367, R173: the memories that are cleared at start-up). -/
abbrev Mem := List Host.Cell

/-- One byte of a memory. -/
def memByte : Mem → Nat → Byte
  | [], _ => 0
  | (a', b) :: m, a => if a' = a then b else memByte m a

/-- A memory without a listed byte. -/
def memClear : Mem → Nat → Mem
  | [], _ => []
  | (a', b) :: m, a => if a = a' then memClear m a else (a', b) :: memClear m a

/-- A memory with a byte listed. -/
def memPut : Mem → Nat → Byte → Mem
  | [], a, b => [(a, b)]
  | (a', b') :: m, a, b =>
    if a < a' then (a, b) :: (a', b') :: m
    else if a = a' then (a, b) :: m
    else (a', b') :: memPut m a b

/-- A memory with one byte written. -/
def memWrite (m : Mem) (a : Nat) (b : Byte) : Mem := if b = 0 then memClear m a else memPut m a b

/-- `n` bytes from address `a`. -/
def memRead (m : Mem) (a : Nat) : Nat → Bytes
  | 0 => []
  | n + 1 => memByte m a :: memRead m (a + 1) n

/-- Bytes written from address `a` upward. -/
def memWriteAll (m : Mem) (a : Nat) : Bytes → Mem
  | [] => m
  | b :: bs => memWriteAll (memWrite m a b) (a + 1) bs

/-- The canonical form of a memory: addresses strictly rising and no zero byte listed. -/
def memWf : Mem → Bool
  | [] => true
  | [(_, b)] => b != 0
  | (a, b) :: (a', b') :: m => b != 0 && decide (a < a') && memWf ((a', b') :: m)

end Sys2Proof.Machine
end

