-- ==== Sys2Proof/Machine/State.lean ====
section
/-! DEFINITION. The block's state as plain data: the time counter, the device, and the queue of waiting commands, first in, first
out. Every Chart object that is stored has its one home in `Device.chart`; what the Chart does not show has a field of its own. -/

namespace Sys2Proof.Machine

/-- Device time (R296), and the count of ticks of the time clock since power-on, by which intervals of reference time are
measured (log 5). -/
structure Clk where
  sec : Nat
  ns : Nat
  frac : Nat
  ticks : Nat
deriving DecidableEq, Repr

/-- An INJECT frame's packet in the inject FIFO of crossing 0x38 (R41). -/
structure Inject where
  port : Nat
  pool : Nat
  packet : Bytes
deriving DecidableEq, Repr

/-- The management plane (chapter 02). Port 0 is MP0 and 1 is MP1. -/
structure Mgmt where
  /-- ports whose link is up (R35) -/
  linkUp : List Nat
  /-- the request queue: arrival port and frame (R27) -/
  requests : List (Nat × Bytes)
  /-- forwarding buffers: the port a frame leaves on, and the frame (R35) -/
  forward : List (Nat × Bytes)
  /-- the device's own frames waiting behind forwarded ones (R35) -/
  own : List (Nat × Bytes)
  /-- ports that sent a forwarded frame last (R35) -/
  lastForwarded : List Nat
  /-- the model's own: what has left MP0 and MP1, in order -/
  sent : List (Nat × Bytes)
  /-- per originator, Sequence and response of the last executed request (R31) -/
  kept : NMap (Nat × Bytes)
  /-- per originator, port and source address of its latest executed request (R37) -/
  routes : NMap (Nat × Nat)
  /-- per originator, the tick of its latest executed request (BDP.LastHeard) -/
  heard : NMap Nat
  /-- per supervisor, the next NOTIFY Sequence (R39) -/
  notifySeq : NMap Nat
  /-- the next PUNT Sequence (R40) -/
  puntSeq : Nat
  /-- INJECT frames received and not yet acted on (R41) -/
  injects : List (Nat × Bytes)
  /-- the inject FIFO (R41, Table 16.7) -/
  pipeline : List Inject
deriving DecidableEq, Repr

/-- Where a fetched descriptor stands (R51, R54). -/
inductive Stage where
  /-- fetched and not started -/
  | waiting
  /-- a chain whose next record is at the offset -/
  | running (record executed failed : Nat)
  /-- a chain parked at the record (R54) -/
  | parked (record executed failed : Nat)
  /-- a FENCE that waits for these packets (R51) -/
  | fencing (packets : List Nat)
  /-- finished with status and result, its completion not yet posted (R57) -/
  | finished (status result : Nat)
deriving DecidableEq, Repr

/-- A fetched descriptor: its count, its 64 bytes as a number, and its stage. -/
structure Fetched where
  count : Nat
  raw : Nat
  stage : Stage
deriving DecidableEq, Repr

/-- Work queues and completion rings (chapter 03). -/
structure Wq where
  /-- per queue, the descriptors fetched and not completed, in count order (R51) -/
  fetched : NMap (List Fetched)
  /-- per queue, the prefetch cache: count and entry (R62) -/
  cache : NMap (List (Nat × Nat))
  /-- per ring, the holding buffer: completions without PHASE (R60) -/
  held : NMap (List Nat)
  /-- rings disabled or reconfigured since completions were held for them (R45) -/
  stale : List Nat
deriving DecidableEq, Repr

/-- A received frame in the receive FIFO with its receive time-stamp (R76, R303, R304). -/
structure RxFrame where
  frame : Bytes
  stamp : Nat
deriving DecidableEq, Repr

/-- A frame that has left a port: its bytes without FCS, and whether its FCS is good or inverted (R246). -/
structure TxFrame where
  port : Nat
  frame : Bytes
  fcsGood : Bool
deriving DecidableEq, Repr

/-- What the transmit lanes of a port emit (R72, R75). -/
inductive Signal where
  | dark
  | unmodulated
  | localFault
  | remoteFault
  | data
deriving DecidableEq, Repr

/-- How far a laser swap has come (Table 4.10). `failed`: the old source failed and the spare ramps at once (R85). -/
inductive SwapStage where
  | started
  | settled
  | fullShare
  | failed
deriving DecidableEq, Repr

/-- A laser swap of an optical engine: feed group, old source and spare as LASER.Status elements (R83). -/
structure Swap where
  group : Nat
  old : Nat
  spare : Nat
  stage : SwapStage
deriving DecidableEq, Repr

/-- Ports and lasers (chapter 04). -/
structure Ports where
  /-- the lasers are lit and the receive lanes adapt: from the optics bring-up on (R73, Table 18.6) -/
  lit : Bool
  /-- per port, the receive FIFO -/
  fifo : NMap (List RxFrame)
  /-- per port × 8 + class, the pause time received and not yet run out, in quanta (R78) -/
  paused : NMap Nat
  /-- port × 8 + class: closed, and its closure told in an XOFF (R79) -/
  xoff : List Nat
  /-- port × 8 + class: reopened after an XOFF, its resumption due (R79) -/
  reopened : List Nat
  /-- the model's own: frames that have left the ports -/
  sent : List TxFrame
  /-- ports whose lane group the Lookout has fenced (R71) -/
  fenced : List Nat
  /-- feed groups, OE × 8 + group, fenced and dark (R86) -/
  feedFenced : List Nat
  /-- feed groups that no source can feed; permanent (R86) -/
  feedDead : List Nat
  /-- feed groups dark until a spare reaches full power (R85) -/
  feedDark : List Nat
  /-- per optical engine, the swap in progress (R84) -/
  swap : NMap Swap
  /-- per optical engine, sources waiting for a swap, in the order they reached the threshold (R84) -/
  swapWait : NMap (List Nat)
  /-- per source that failed, the spares its group was moved to: the acting units of its reaction (R320) -/
  moved : NMap (List Nat)
  /-- laser-history fuses: per source, the State it keeps for life, RETIRED or FAILED, and the feed group it fed (R368) -/
  fuses : NMap (Nat × Nat)
deriving DecidableEq, Repr

/-- The time unit (chapter 14); a time-stamp queue entry is 16 bytes as a number (Table 14.3). -/
structure TimeUnit where
  /-- PPS_OUT is high (R310) -/
  ppsOut : Bool
  /-- the second was reached by ticking and PPS_OUT has not yet risen (R310) -/
  ppsDue : Bool
  /-- tick of the last captured PPS_IN edge (R311) -/
  ppsLast : Option Nat
  /-- per optical engine, its time-stamp queue (R307) -/
  tsq : NMap (List Nat)
deriving DecidableEq, Repr

/-- An event a detector holds for the Lookout (R313). -/
structure Report where
  source : Nat
  target : Nat
  detector : Nat
  code : Nat
  count : Nat
deriving DecidableEq, Repr

/-- The level of FAULT_N (R325, R383). -/
inductive PinLevel where
  | undriven
  | low
  | high
deriving DecidableEq, Repr

/-- A state dump in progress (R331). -/
structure Dumping where
  safe : Bool
  time : Nat
  cause : Nat
  onChip : Bool
  hbm : Bool
  stopped : Bool
deriving DecidableEq, Repr

/-- The Lookout (chapter 15). -/
structure Look where
  /-- events waiting, in arrival order -/
  waiting : List Report
  /-- how many of them were detected before the present tick of the time clock (R313) -/
  older : Nat
  /-- conditions present: source × 65,536 + target (Table 15.4) -/
  conditions : List Nat
  /-- per target, history count and entry tick of its latest record (R317) -/
  latest : NMap (Nat × Nat)
  /-- targets whose reaction shadow is open (R319) -/
  shadows : List Nat
  /-- targets of severity-2 reactions performed whose progress acting units answer for (R320) -/
  reactions : List Nat
  /-- per unit with an open shadow that a reaction ordered, the tick at which its fence or reset was issued (R319, R321) -/
  issued : NMap Nat
  /-- a dump requested or in progress (R331) -/
  dump : Option Dumping
  /-- dumps requested while another was asked for (R333) -/
  asked : List Dumping
  dumpStore : Mem
  faultN : PinLevel
deriving DecidableEq, Repr

/-- Where a packet that has been steered and has not retired stands (R106, R109, R160, R181). -/
inductive Place where
  /-- in its cluster's input FIFO, or reaching a FREE context -/
  | input
  /-- in its cluster's hold space, for a barrier or a wake -/
  | held
  | context (c : Nat)
  /-- in its slice's recirculation FIFO -/
  | recirc
  /-- its last pass has a final verdict and has ended; the retire unit holds it -/
  | ended
deriving DecidableEq, Repr

/-- A flow lookup that was sent to HBM and whose pass has ended before its result: its key, the stack it was sent to (R251), and the stack by
whose block reset its request was lost, if it was (R130, R344). -/
structure Orphan where
  key : Nat
  lost : Option Nat
  stack : Nat := 0
deriving DecidableEq, Repr

/-- A packet from its steering to its retirement. `record`, `bytes`, `parser` and `slots` are those at the start of the pass while a
context works on it, and those at its end afterwards. `barred`: its cluster was fenced while it was in recirculation (R106). `flowKey` is
the key of pipeline lookup 4 while it is PENDING, `flowStack` the stack it was sent to (R251), and `flowLost` the stack by whose block reset
its request was lost (R344); `verdict` is
the final verdict's code (Table 9.11) and argument; `pool` the Ladle pool of a mode-1 inject. -/
structure Flight where
  id : Nat
  slice : Nat
  bucket : Nat
  seq : Nat
  cluster : Nat
  place : Place
  arrived : Nat
  record : Nat
  bytes : Bytes
  /-- bytes of the tail of its latest pass, which the ingress store holds (R163, R233) -/
  tail : Nat
  parser : Nat
  slots : NMap Nat
  flowKey : Option Nat
  flowLost : Option Nat
  flowStack : Nat := 0
  barred : Bool
  mirrors : List Nat
  verdict : Option (Nat × Nat)
  pool : Option Nat
deriving DecidableEq, Repr

/-- A raised barrier: the bucket's new cluster and the packets still waited for (R108, R110). -/
structure Barrier where
  slice : Nat
  bucket : Nat
  old : Nat
  cluster : Nat
  waitFor : List Nat
deriving DecidableEq, Repr

/-- A learning outcome in a slice's learning queue: the key, and the ingress port and LearnAction of its latest check (R120). -/
structure Learn where
  key : Nat
  port : Nat
  action : Nat
deriving DecidableEq, Repr

/-- The slices' steering, learning and FIFOs (chapters 05, 06). -/
structure Slices where
  /-- per slice × 4,096 + bucket, the next sequence number (R105) -/
  seqNext : NMap Nat
  /-- per slice, when its recirculation bandwidth is free again, in bytes of 160 to a tick (R113) -/
  recircFree : NMap Nat
  /-- packets steered and not retired, in steering order -/
  flights : List Flight
  barriers : List Barrier
  /-- the model's own: the next packet identifier and arrival number -/
  nextId : Nat
  learn : NMap (List Learn)
  /-- per slice, Layer-2 events waiting to be sent (R121) -/
  events : NMap (List Nat)
  /-- per slice, HBM flow lookups sent in the window, and the window's number (R131) -/
  budget : NMap (Nat × Nat)
  /-- per slice, the flow lookups in HBM whose passes have ended, oldest first (R130) -/
  orphans : NMap (List Orphan)
deriving DecidableEq, Repr

/-- A Layer-2 entry (R118): 64-bit key and data, hit bit, strikes, learned, TIME80 of its latest write. -/
structure L2Entry where
  key : Nat
  data : Nat
  hit : Bool
  strikes : Nat
  learned : Bool
  changed : Nat
deriving DecidableEq, Repr

/-- A prefix of the LPM store (R124); `second` is the further unit an IPv6 prefix takes. -/
structure LpmEntry where
  v6 : Bool
  vrf : Nat
  pfx : Nat
  len : Nat
  data : Nat
  second : Option Nat
  changed : Nat
deriving DecidableEq, Repr

/-- A valid entry of a direct-indexed table or a flow slot: key (0 for direct tables), data, TIME80 of its latest write. -/
structure Entry where
  key : Nat
  data : Nat
  changed : Nat
deriving DecidableEq, Repr

/-- A TCAM row (R141, R150): per component value and mask, the components' key-complete state, and the CONTROL part. -/
structure TcamRow where
  value : Nat
  mask : Nat
  written : Bool
  valid : Bool
  priority : Nat
  data : Nat
  changed : Nat
deriving DecidableEq, Repr

/-- Forwarding tables and TCAM (chapters 06, 07). -/
structure Tables where
  /-- slice × 262,144 + index -/
  l2 : NMap L2Entry
  /-- by unit -/
  lpm : NMap LpmEntry
  /-- table × 2^24 + index, for tables 0x04 to 0x08 -/
  direct : NMap Entry
  /-- by slot -/
  flow : NMap Entry
  /-- per slice × 2^20 + set, the ways, most recently used first -/
  flowCache : NMap (List (Nat × Entry))
  /-- slice × 24,576 + bank × 2,048 + row -/
  tcam : NMap TcamRow
  /-- per bank, the ticks of its row invalidations of the last 1,000 ms (R156) -/
  recent : NMap (List Nat)
  /-- fenced banks, slice × 12 + bank -/
  tcamFenced : List Nat
deriving DecidableEq, Repr

/-- A lookup in progress in a context: table, key, whether an engine issued it (R170), and the slot a flow lookup answers where the
flow cache or the budget of R131 has settled it. `stack` is the stack to which one that they have not settled was sent (R251), and `lost` the
stack by whose block reset its request was lost (R344). -/
structure Lookup where
  table : Nat
  key : Nat
  engine : Bool
  answer : Option Nat
  lost : Option Nat
  stack : Nat := 0
deriving DecidableEq, Repr

/-- A context that is not FREE (R161 to R168). `window` has WindowLength bytes; flags are ALU A's Z, N, C, V in bits 0 to 3 and
ALU B's in bits 4 to 7; `waitMask` is the slot mask of a WAIT word just run; `barrier` holds while a BARRIER waits. -/
structure Ctx where
  flight : Nat
  pc : Nat
  regs : NMap Word
  pending : List Nat
  flags : Nat
  stack : List Nat
  window : Bytes
  tail : Bytes
  record : Nat
  parser : Nat
  slots : NMap Nat
  lookups : NMap Lookup
  verdict : Option (Nat × Nat × Bytes)
  mirrors : List Nat
  order : Nat
  waitMask : Nat
  barrier : Bool
  halted : Bool
  stepping : Bool
  passed : Bool
  debug : Bool
deriving DecidableEq, Repr

/-- What a memory access does (Table 9.10). -/
inductive AccessOp where
  | load
  | store
  | fadd
  | cas
deriving DecidableEq, Repr

/-- A memory access of a context: `addr` is the word's place in the scratchpads (cluster × 0x4_0000 + offset) or, from 0x200_0000 on, in
the common store; window and slot loads carry their value from the start (`done`). `pass` is the dispatch order of the context's pass. -/
structure Access where
  id : Nat
  context : Nat
  pass : Nat
  flight : Nat
  op : AccessOp
  addr : Nat
  data : Nat
  new : Nat
  reg : Nat
  done : Option Nat
deriving DecidableEq, Repr

/-- A POLICE in progress: context, packet, policer (slice × 32,768 + number), bytes, input colour, destination register. -/
structure Police where
  context : Nat
  pass : Nat
  flight : Nat
  policer : Nat
  bytes : Nat
  colour : Nat
  reg : Nat
deriving DecidableEq, Repr

/-- A COUNT in progress: context, packet, flex counter, bytes (R210). -/
structure CountOp where
  context : Nat
  flight : Nat
  counter : Nat
  bytes : Nat
  slice : Nat
deriving DecidableEq, Repr

/-- A breakpoint or watchpoint (R413): a breakpoint's control-store address, or a watchpoint's first and last byte; the engine and
context masks of a breakpoint (none selects every one); a watchpoint's directions, 1 read and 2 write. -/
structure Point where
  watch : Bool
  address : Nat
  last : Nat
  engine : Option Nat
  context : Option Nat
  kind : Nat
deriving DecidableEq, Repr

/-- Action engines (chapters 08, 09). -/
structure Engines where
  /-- non-FREE contexts, by engine × 8 + context -/
  ctx : NMap Ctx
  /-- the model's own: the next dispatch order and access number -/
  next : Nat
  accesses : List Access
  polices : List Police
  counts : List CountOp
  /-- per cluster, its power state as CL.Status State shows it; unlisted: IDLE (R188) -/
  clState : NMap Nat
  /-- cluster × 4,096 + address: control-store words that are not zero -/
  control : NMap Nat
  /-- control-store words with a failed copy not yet rewritten (R185) -/
  copyBad : List Nat
  scratch : Mem
  common : Mem
  /-- per common-store segment, the tick of the write that last enabled it (R176) -/
  segOn : NMap Nat
  /-- per slice × 2^26 + counter: pending flex additions, packets and bytes (R360) -/
  flexPending : NMap (Nat × Nat)
  /-- cluster × 10 + point -/
  points : NMap Point
deriving DecidableEq, Repr

/-- A queued packet (R274): its cells in chain order (Table 11.1), the pool and kind of its admission, its ingress port where it
has one, its packet record and its bytes without FCS. `copy` marks a mirror copy (R306). -/
structure QEntry where
  cells : List Nat
  pool : Nat
  headroom : Bool
  port : Option Nat
  copy : Bool
  record : Nat
  packet : Bytes
deriving DecidableEq, Repr

/-- The shared buffer (chapter 11). Queue 262,144 stands for the punt path (R418). -/
structure Buffer where
  /-- allocation bits: the addresses of the allocated cells (R245) -/
  cells : List Nat
  /-- per queue, its entries, oldest first -/
  queues : NMap (List QEntry)
  /-- closed queues, as pool × 2^19 + queue (R235) -/
  closed : List Nat
  /-- per allocated cell of a chain, the two copies of its link word (R228) -/
  links : NMap (Nat × Nat)
  /-- per port × 8 + class, the closer list (R238) -/
  closers : NMap (List Nat)
  /-- per stack, spill tokens in 1/10,000 byte and the tick they stand for (R243); unlisted: full -/
  tokens : NMap (Nat × Nat)
  /-- per queue, bytes admitted with their ticks, newest first, over the last 4 µs (R242) -/
  arrivals : NMap (List (Nat × Nat))
  /-- per queue, bytes selected with their ticks (R242) -/
  departs : NMap (List (Nat × Nat))
  /-- per stack, Vat bytes allocated with their ticks, over the last 1 µs (Table 11.8) -/
  vatWrites : NMap (List (Nat × Nat))
  /-- per steered queue, its assigned stack (R242) -/
  steered : NMap Nat
  /-- per queue, the latest residence in ns (Table 11.11) -/
  residence : NMap Nat
  /-- per buffer segment, the ticks of its BUF_ECC events of the last 1,000 ms (Table 15.4) -/
  segErrors : NMap (List Nat)
  /-- Vat cells of frames not started whose read ahead got no response before their stack was fenced (R342) -/
  lostReads : List Nat
deriving DecidableEq, Repr

/-- Why a stack is out of service (R258, R259, R263, R269). -/
inductive StackTask where
  | park
  | retrain
  | wake
  | autoWake
deriving DecidableEq, Repr

/-- The HBM stacks (chapter 12). A block is named pair × 2^26 + (offset in segment 0) / 64. -/
structure Hbm where
  /-- per pseudo-channel, the owed count (R256) -/
  owed : NMap Nat
  /-- per pseudo-channel, the tenth of a nanosecond until which its latest refreshes hold it (R255, R256) -/
  refreshing : NMap Nat
  /-- pseudo-channels whose owed refreshes wait for their refresh group (R255) -/
  groupWait : List Nat
  /-- per stack, the blocks whose churn bit is set in the log's first copy, as stack × 2^26 + block (R262) -/
  churn : List Nat
  /-- those whose bit is set in the second copy -/
  churnB : List Nat
  /-- failing copies whose good copy is in a stack out of service, as stack × 2^26 + block: healed when that stack returns (R264) -/
  waitHeal : List Nat
  /-- per stack, the replay cursor, a block (R263) -/
  cursor : NMap Nat
  /-- poisoned blocks, as pair × 2^26 + block (R267) -/
  poison : List Nat
  /-- per pseudo-channel, the ticks of its uncorrectable errors of the last 1,000 ms (R268) -/
  errors : NMap (List Nat)
  task : NMap StackTask
  /-- pseudo-channels that an accepted unfence returns at the end of their stack's next retrain (R269) -/
  back : List Nat
  /-- those of them that a stack's latest sweep lets return at the end of its replay (R252, R269) -/
  returning : List Nat
  /-- per pseudo-channel, its byte lanes' delays and margins (R252, R253) -/
  lanes : NMap (List LaneTrim)
  /-- stacks whose MinMargin has fallen below MarginLow and was acted on (R253) -/
  low : List Nat
  /-- of these, the stacks whose margin fault was raised and is checked again each second (R253) -/
  watch : List Nat
  /-- requests without response after 1 µs, with their stacks (R342) -/
  unanswered : List (Nat × HbmRequest)
  /-- those of them that a block reset has discarded and counted (R344) -/
  discarded : List (Nat × HbmRequest)
  /-- pseudo-channels that the Lookout fenced by themselves, not through their stack (R268, Table 15.7) -/
  fencedPcs : List Nat
  /-- flex counters: packets and bytes (R359) -/
  flex : NMap (Nat × Nat)
  /-- HBM queue region, bulk region 0x02 -/
  queueRegion : Mem
  /-- dump region, bulk region 0x04 -/
  dump : Mem
  /-- ranges of the dump region that have been written, as offset and length (R266) -/
  dumpSpans : List (Nat × Nat)
  /-- 8-byte words that the Sextant wrote in the reserved ranges of segment 0, by pair × 2^29 + offset / 8, and in the gaps of a
  stack's churn log, by (stack + 4) × 2^29 + offset / 8 -/
  raw : NMap Nat
deriving DecidableEq, Repr

/-- A selected frame in a port's egress stage (R278): its queue and its entry. -/
structure Selected where
  queue : Nat
  entry : QEntry
deriving DecidableEq, Repr

/-- A frame in transmission: whether its FCS is inverted (R246). -/
structure Transmit where
  queue : Nat
  entry : QEntry
  good : Bool
deriving DecidableEq, Repr

/-- A gate list (R289): entries as GateMask and Duration, cycle and ChangeTime in ns of device time. -/
structure GateList where
  entries : List (Nat × Nat)
  cycle : Nat
  change : Nat
deriving DecidableEq, Repr

/-- The traffic manager (chapter 13). A record is named kind × 2^20 + number: kind 0 port, 1 service node, 2 subscriber,
3 policer, 4 punt policer; 5 × 2^20 is the aggregate punt bucket (R288). -/
structure Tm where
  /-- per record, committed and peak token counts in millibytes (R283); unlisted: full -/
  tokens : NMap (Int × Int)
  /-- per record written since its last refill, the record whose rates and bursts are still in effect (R284) -/
  applied : NMap Nat
  /-- records written since the last restart that reinitialised the Chart (R283) -/
  written : List Nat
  /-- deficit of a child in its parent (R280): ports, nodes and subscribers by record; queues by 6 × 2^20 + queue -/
  deficit : NMap Int
  /-- the child chosen last in a parent: by record; scheduler number at 7 × 2^20 + number -/
  last : NMap Nat
  /-- per port, selected frames not yet started (R278) -/
  egress : NMap (List Selected)
  /-- per port, the frame in transmission -/
  transmit : NMap Transmit
  /-- per port, when the frame in transmission ends in tenths of a nanosecond of ticks, its FEC allowance included (R291) -/
  txEnd : NMap Nat
  /-- ports whose frame in transmission has had its gate close on it (R293) -/
  gateCut : List Nat
  /-- per port, when the frames selected so far will have ended, in tenths of a nanosecond of ticks (R291) -/
  portEnd : NMap Nat
  /-- the queues a flush in progress covers, as first queue and count (R285) -/
  flush : Option (List (Nat × Nat))
  /-- per port, the pending gate list (R289) -/
  gatePending : NMap GateList
  /-- per port, the operating gate list (R290) -/
  gateOper : NMap GateList
  /-- per port, the gates as last set (R292); unlisted: every gate open -/
  gates : NMap Nat
deriving DecidableEq, Repr

/-- A staged image: the bytes the Pilot copied from the queue store, whole or up to the store's end (R216). -/
structure Staged where
  bytes : Bytes
  /-- bytes from the image's start to the queue store's end -/
  room : Nat
deriving DecidableEq, Repr

/-- Images and Pilot firmware (chapter 10). What the slots and banks show of themselves stands in the Chart. -/
structure Images where
  /-- per stage slot, the staged copy -/
  slots : NMap Staged
  /-- clusters whose accepted load has not ended, in order of acceptance (R219) -/
  loads : List Nat
  /-- whether the load of the first cluster of `loads` has started -/
  loading : Bool
  /-- per Pilot bank, the copy staged into it -/
  banks : NMap Staged
  /-- the bank an accepted PILOT.Switch will start, as PILOT.Status Running shows it (R226) -/
  switch : Option Nat
  /-- what ran before the latest switch while that switch can still be reverted (R226, R371) -/
  previous : Option Nat
  /-- fuses: the owner key digest (R214); 0 while not fused -/
  ownerDigest : Nat
  /-- fuses: UCODE.KeyPolicy (R214) -/
  keyPolicy : Nat
deriving DecidableEq, Repr

/-- Crossings (chapter 16). -/
structure Crossings where
  /-- per pulse signal with an outstanding request, as crossing × 256 + signal, its pending count (R340) -/
  outstanding : NMap Nat
  /-- fabric crossings whose access under way has reached its bound and has not yet ended with TIMEOUT (R341) -/
  late : List Nat
deriving DecidableEq, Repr

/-- An image of the Logline (Table 17.3): its non-zero elements keyed as the Chart is, its Instant, its Cycles field and the
Generation of every bank (all banks of an image are written equally often). -/
structure CounterImage where
  data : NMap Nat
  instant : Nat
  cycles : Nat
  generation : Nat
  state : Nat
deriving DecidableEq, Repr

/-- The Logline (chapter 17): the live image, the snapshot image, and the snapshot shadows from t1 to t2 of Table 17.6. -/
structure Logline where
  live : CounterImage
  snap : CounterImage
  shadow : NMap Nat
deriving DecidableEq, Repr

/-- The Pilot: without clock or power, executing, or between the start and the end of a restart (R13, R33). -/
inductive Pilot where
  | off
  | running
  | restarting
deriving DecidableEq, Repr

/-- How far a restart that reinitialises the Chart has come (Table 18.4): begun at t0 with its kind, or held in RESET from t2.
`resetN` is a RESET_N assertion; `powerOn` the hold before the first release. -/
inductive RestartKind where
  | device
  | full
  | resetN
deriving DecidableEq, Repr

/-- The hold of Table 18.2 or Table 18.4. -/
inductive Hold where
  | none
  | begun (kind : RestartKind)
  | held (kind : RestartKind)
  | powerOn
deriving DecidableEq, Repr

/-- Power, reset and start-up (chapters 18, 19). -/
structure Power where
  /-- VIN12 is above 8.0 V (Table 19.3) -/
  vaux : Bool
  /-- the internal power-on reset has released its conditions (R364) -/
  good : Bool
  /-- a thermal trip has turned the rails off (R399) -/
  tripped : Bool
  /-- RESET_N is recognised low (R383) -/
  resetLow : Bool
  hold : Hold
  /-- a DEV.Restart accepted and not begun: its kind (R374) -/
  requested : Option Nat
  pilot : Pilot
  /-- SUPPLY causes present, by Code (R392) -/
  supply : List Nat
  /-- straps as latched (R366) -/
  straps : Nat
  /-- HBM stacks whose training has ended since TRAINING was entered (Table 18.1) -/
  trained : List Nat
  /-- DEV.State from which SAFE was entered, 0 outside SAFE (R327, R352, Table 2.10) -/
  safeFrom : Nat
  /-- tick at which OPTICS_UP was entered with lasers to light, t4 of Table 18.2 (R368); none after a DEVICE restart -/
  opticsAt : Option Nat
  /-- Energy of PWR.Status since power-on, in units of 0.1 W × 0.8 ns (Table 19.9) -/
  energy : Nat
  /-- the tick up to which `energy` counts -/
  energyAt : Nat
  /-- the most power of the mode at the last update, in 0.1 W (R393), and the model's own count of work then (log 85) -/
  bound : Nat
  work : Nat
  /-- PWR.Status and the 12 rails of PWR.Rail as updated last (R394) -/
  status : Nat
  rails : List Nat
  /-- enabled ports that a restart makes send Local Fault (Table 18.4) -/
  localFault : List Nat
deriving DecidableEq, Repr

/-- The states of an IEEE 1149.1 TAP controller (R385, R403). -/
inductive TapState where
  | testLogicReset
  | runTestIdle
  | selectDr
  | captureDr
  | shiftDr
  | exit1Dr
  | pauseDr
  | exit2Dr
  | updateDr
  | selectIr
  | captureIr
  | shiftIr
  | exit1Ir
  | pauseIr
  | exit2Ir
  | updateIr
deriving DecidableEq, Repr

/-- The Sextant (chapter 20). A FREE halted context keeps what START will use in `idle`. -/
structure Sextant where
  /-- the TAP controller's state, and the level of TRST_N (R385, R403) -/
  tap : TapState
  trstN : Bool
  /-- the TAP instruction register -/
  ir : Nat
  /-- Status, Sequence and Data of SX_RESULT (R405) -/
  status : Nat
  sequence : Nat
  data : Nat
  /-- the command that is running (R404), as its Op and fields -/
  running : Option (Nat × SxFields)
  /-- Status and Data that the running command will complete with; Data is absent where the command returns none -/
  staged : Option (Nat × Option Nat)
  /-- what SX_RESULT last loaded (R405) -/
  captured : Nat
  /-- the 64 KiB transfer buffer (R416), by byte -/
  buffer : Mem
  /-- the word index of SX_STREAM -/
  index : Nat
  /-- the bit TDO shifts for the instruction in use, as a number: the register captured last -/
  shifted : Nat
  /-- halted FREE contexts, by engine × 8 + context -/
  idle : NMap Ctx
  /-- final verdict codes of debug passes that ended, by context (R412) -/
  verdicts : NMap Nat
  pilotHalted : Bool
  /-- the tick at which the debug domain became ABSENT, none while TCK runs (R335, R415) -/
  absentAt : Option Nat
  /-- Pilot registers read or written since the Pilot last ran; their values are free -/
  pilotRegs : NMap Nat
  /-- parts 0 and 1 of a control-store word written and waiting for part 2, by cluster × 16,384 + word × 4 + part (Table 20.6) -/
  parts : NMap Nat
  /-- the disable fuse (R402) -/
  fused : Bool
deriving DecidableEq, Repr

/-- The device: everything but device time and the command queue. `chart` holds the stored elements of every Chart object and of
every counter bank, keyed object × 65,536 + element, where they differ from the default; `free` counts the free values drawn. -/
structure Device where
  chart : NMap Nat
  queueStore : Mem
  mgmt : Mgmt
  wq : Wq
  ports : Ports
  sl : Slices
  tbl : Tables
  eng : Engines
  img : Images
  buf : Buffer
  hbm : Hbm
  tm : Tm
  time : TimeUnit
  look : Look
  cross : Crossings
  log : Logline
  pwr : Power
  sx : Sextant
  free : Nat
deriving DecidableEq, Repr

/-- The state of the block. -/
structure State where
  clk : Clk
  dev : Device
  pending : List Instr
deriving DecidableEq, Repr

/-- Why a command stops the machine. -/
inductive Fault where
  /-- raised by every command that names a port, a context or another unit of an index the spec does not give the device
  (`onDev` and `onClk` in Ops.lean): safe, since no such event exists -/
  | noSuchUnit
deriving DecidableEq, Repr

/-- Why a command is refused. -/
inductive Refusal where
  /-- a command whose meaning is not written yet, by its mnemonic; raised by Dispatch.lean only; safe -/
  | notModelled (mnemonic : String)
deriving DecidableEq, Repr

/-- Device time before its first tick (R296). -/
def Clk.reset : Clk := { sec := 0, ns := 0, frac := 0, ticks := 0 }

/-- An image of the Logline before anything is written into it: every byte zero (R352, R358). -/
def CounterImage.zero : CounterImage := { data := [], instant := 0, cycles := 0, generation := 0, state := 0 }

/-- The device before power: DEV.State RESET, nothing driven, nothing stored (log 15). -/
def Device.reset : Device :=
  { chart := []
    queueStore := []
    mgmt := { linkUp := [], requests := [], forward := [], own := [], lastForwarded := [], sent := [], kept := [], routes := [],
              heard := [], notifySeq := [], puntSeq := 0, injects := [], pipeline := [] }
    wq := { fetched := [], cache := [], held := [], stale := [] }
    ports := { lit := false, fifo := [], paused := [], xoff := [], reopened := [], sent := [], fenced := [], feedFenced := [],
               feedDead := [], feedDark := [],
               swap := [], swapWait := [], moved := [], fuses := [] }
    sl := { seqNext := [], recircFree := [], flights := [], barriers := [], nextId := 0, learn := [], events := [],
            budget := [], orphans := [] }
    tbl := { l2 := [], lpm := [], direct := [], flow := [], flowCache := [], tcam := [], recent := [], tcamFenced := [] }
    eng := { ctx := [], next := 0, accesses := [], polices := [], counts := [], clState := [], control := [], copyBad := [],
             scratch := [], common := [], segOn := [], flexPending := [], points := [] }
    img := { slots := [], loads := [], loading := false, banks := [], switch := none, previous := none, ownerDigest := 0,
             keyPolicy := 0 }
    buf := { cells := [], queues := [], closed := [], links := [], closers := [], tokens := [], arrivals := [], departs := [], vatWrites := [],
             steered := [], residence := [], segErrors := [], lostReads := [] }
    hbm := { owed := [], refreshing := [], groupWait := [], churn := [], churnB := [], waitHeal := [], cursor := [], poison := [], errors := [],
             task := [], back := [], returning := [], lanes := [], low := [], watch := [], unanswered := [], discarded := [],
             fencedPcs := [], flex := [], queueRegion := [], dump := [], dumpSpans := [], raw := [] }
    tm := { tokens := [], applied := [], written := [], deficit := [], last := [], egress := [], transmit := [], txEnd := [],
            gateCut := [], portEnd := [], flush := none, gatePending := [], gateOper := [], gates := [] }
    time := { ppsOut := false, ppsDue := false, ppsLast := none, tsq := [] }
    look := { waiting := [], older := 0, conditions := [], latest := [], shadows := [], reactions := [], issued := [], dump := none,
              asked := [], dumpStore := [], faultN := .undriven }
    cross := { outstanding := [], late := [] }
    log := { live := CounterImage.zero, snap := CounterImage.zero, shadow := [] }
    pwr := { vaux := false, good := false, tripped := false, resetLow := false, hold := .powerOn, requested := none, pilot := .off,
             supply := [], straps := 0, trained := [], safeFrom := 0, opticsAt := none, energy := 0, energyAt := 0, bound := 0, work := 0, status := 0,
             rails := [], localFault := [] }
    sx := { tap := .testLogicReset, trstN := false, absentAt := none, ir := 1, status := 0, sequence := 0, data := 0, running := none,
            staged := none, captured := 0, buffer := [], index := 0, shifted := 0, idle := [], verdicts := [],
            pilotHalted := false, pilotRegs := [], parts := [], fused := false }
    free := 0 }

/-- The block before power is applied: the state in which Table 18.2 begins. -/
def State.reset : State := { clk := Clk.reset, dev := Device.reset, pending := [] }

end Sys2Proof.Machine
end

