-- ==== Sys2Proof/Machine/Defaults.lean ====
section
/-! DEFINITION. What an element of the Chart holds while nothing has been written into it (R19): the object's fixed default, and the
defaults the chapters give per element or leave to start-up. -/

namespace Sys2Proof.Machine

/-- BDP.StationAddress: 0x02 and the five low bytes of DEV.Serial (Table 2.3). -/
def stationDefault : Nat := at_ 47 40 2 + Config.serial % 2 ^ 40

/-- PORT.Config (Table 4.3). -/
def portConfigDefault : Nat := at_ 95 80 0xFFFF + at_ 79 64 12288

/-- LASER.Status after start-up on a part whose spares have never been used: sources 0 to 7 feed groups 0 to 7, sources 8 and 9
are spares (R82, Table 4.7). -/
def laserDefault (e : Nat) : Nat :=
  if e % 10 < 8 then at_ 63 56 0 + at_ 55 48 (e % 10) + at_ 47 32 1000
  else at_ 63 56 1 + at_ 55 48 0xFF + at_ 47 32 1000

/-- STEER.Indirection: bucket b of slice s names CL(16 s + b mod 15) (Table 5.11's object row). -/
def steerDefault (e : Nat) : Nat := 16 * (e / 4096) + e % 4096 % 15

/-- STEER.ClusterBuckets: the buckets that name a cluster by default. -/
def clusterBucketsDefault (c : Nat) : Nat := if c % 16 = 15 then 0 else if c % 16 = 0 then 274 else 273

/-- BUF.PoolConfig (Table 11.4). -/
def poolConfigDefault (p : Nat) : Nat :=
  at_ 127 108 (if p = 0 then 753664 else if p = 12 ∨ p = 13 then 16384 else 0) + at_ 87 86 (p % 4) + at_ 85 83 3
    + at_ 79 53 (if p = 0 then 88080384 else 0)

/-- SEP.Config (Table 11.7). -/
def sepConfigDefault : Nat := at_ 127 127 1 + at_ 95 64 20000 + at_ 63 32 10000

/-- BUF.Status (Table 11.10). -/
def bufStatusDefault : Nat := at_ 383 320 786432 + at_ 319 256 786432

/-- HBM.Config (Table 12.3). -/
def hbmConfigDefault : Nat := at_ 127 127 1 + at_ 111 96 1000 + at_ 95 88 4 + at_ 87 80 15 + at_ 79 64 10

/-- TM.Port, TM.Service and TM.Subscriber (Table 13.3). -/
def nodeDefault (port : Bool) : Nat := at_ 50 37 1 + at_ 32 25 (if port then 20 else 0)

/-- TM.ClassProfile (Table 13.4). -/
def profileDefault (e : Nat) : Nat := at_ 31 29 (e % 8) + at_ 26 13 1

/-- TM.PuntPolicer (Table 13.8). -/
def puntPolicerDefault (e : Nat) : Nat := if e = 0 then at_ 63 36 2500000 + at_ 35 11 262144 else 0

/-- TM.HistEdges (Table 13.12). -/
def histEdgesDefault : Nat := (List.range 15).foldl (fun a k => a + at_ (511 - 32 * k) (480 - 32 * k) (500 * 2 ^ k)) 0

/-- LOOK.Severity (Table 15.4). -/
def severityDefault (src : Nat) : Nat :=
  if src = 0x29 then 3
  else if [0x03, 0x06, 0x09, 0x0B, 0x0C, 0x0D, 0x10, 0x13, 0x14, 0x15, 0x16, 0x19, 0x1B, 0x1C, 0x20, 0x22, 0x30, 0x31, 0x32, 0x39,
           0x3A].contains src then 2
  else if [0x01, 0x04, 0x05, 0x0E, 0x11, 0x18, 0x1A, 0x21, 0x28, 0x38].contains src then 1
  else 0

/-- What element `e` of object `o` holds until something is stored in it. -/
def chartDefault (o e : Nat) : Nat :=
  match o with
  | 0x0003 => Config.serial % 2 ^ 128
  | 0x0202 => stationDefault
  | 0x1010 => if e = 0 then Config.vendorKeyHash % 2 ^ 384 else 0
  | 0x2000 => portConfigDefault
  | 0x2002 => at_ 111 104 2
  | 0x2010 => at_ 15 12 (e % 32 / 4)
  | 0x2020 => laserDefault e
  | 0x2022 => 2
  | 0x3200 => steerDefault e
  | 0x3201 => 16 * e + 15
  | 0x3203 => clusterBucketsDefault e
  | 0x4802 => at_ 55 48 0xFF
  | 0x5000 => at_ 127 120 1
  | 0x7000 => poolConfigDefault e
  | 0x7002 => if e = 7 then 13 else 0
  | 0x7008 => bufStatusDefault
  | 0x7040 => sepConfigDefault
  | 0x7080 => hbmConfigDefault
  | 0x6000 => nodeDefault true
  | 0x6001 => nodeDefault false
  | 0x6002 => nodeDefault false
  | 0x6003 => profileDefault e
  | 0x6010 => puntPolicerDefault e
  | 0x6050 => histEdgesDefault
  | 0x9002 => severityDefault e
  | _ => match objInfo? o with
    | some r => r.dflt
    | none => 0

end Sys2Proof.Machine
end

