-- ==== Sys2Proof/Machine/Ops.lean ====
section
/-! DEFINITION. The named operations every family shares: reading and writing a Chart element and its fields, counting, drawing
free values, reporting to the Lookout, building the device's own management frames, and the outcome of a command. -/

namespace Sys2Proof.Machine

/-! ### Outcomes -/

/-- A meaning that changes the device only, and stops by name where the command names a unit the device lacks (log 3). -/
def onDev (exists_ : Bool) (f : Clk → Device → Device) (s : State) : Host.Outcome State Fault Refusal :=
  if exists_ then .next { s with dev := f s.clk s.dev } else .fault .noSuchUnit

/-- A meaning that may change device time as well. -/
def onClk (exists_ : Bool) (f : Clk → Device → Clk × Device) (s : State) : Host.Outcome State Fault Refusal :=
  if exists_ then .next { s with clk := (f s.clk s.dev).1, dev := (f s.clk s.dev).2 } else .fault .noSuchUnit

/-! ### The Chart -/

/-- The key of element `e` of object `o`. -/
def chartKey (o e : Nat) : Nat := o * 65536 + e

/-- What element `e` of object `o` holds (R15). -/
def Device.get (d : Device) (o e : Nat) : Nat := mapGet d.chart (chartKey o e) (chartDefault o e)

/-- An element set to a value. -/
def Device.set (d : Device) (o e v : Nat) : Device :=
  { d with chart := mapSet d.chart (chartKey o e) v (chartDefault o e) }

/-- Field [msb:lsb] of an element. -/
def Device.rd (d : Device) (o e msb lsb : Nat) : Nat := fld (d.get o e) msb lsb

/-- Field [msb:lsb] of an element set. -/
def Device.setFld (d : Device) (o e msb lsb v : Nat) : Device := d.set o e (putFld (d.get o e) msb lsb v)

/-- A counter field advanced by `n`, modulo its width (R80, R350). -/
def Device.count (d : Device) (o e msb lsb n : Nat) : Device := d.setFld o e msb lsb (d.rd o e msb lsb + n)

/-- A counter that is a whole 64-bit element advanced by `n`. -/
def Device.tally (d : Device) (o e n : Nat) : Device := d.set o e ((d.get o e + n) % 2 ^ 64)

/-- The 64-bit field `k` of a counter record of `n` such fields, field 0 first (most significant), advanced by `i`. -/
def Device.bump (d : Device) (o e n k i : Nat) : Device := d.count o e (64 * (n - k) - 1) (64 * (n - 1 - k)) i

/-- DEV.State (R363). -/
def Device.state (d : Device) : Nat := d.get Obj.devState 0

/-- DEV.State codes (Table 2.4). -/
abbrev St.reset : Nat := 0
abbrev St.bootRom : Nat := 1
abbrev St.training : Nat := 2
abbrev St.opticsUp : Nat := 3
abbrev St.awaitImage : Nat := 4
abbrev St.configuring : Nat := 5
abbrev St.inService : Nat := 6
abbrev St.maintenance : Nat := 7
abbrev St.safe : Nat := 8

/-- How far the device has come on its way into service: in SAFE, the state that SAFE was entered from (R327). -/
def Device.way (d : Device) : Nat := if d.state = St.safe then d.pwr.safeFrom else d.state

/-- The device forwards: CONFIGURING, IN_SERVICE or MAINTENANCE (R328, R363). -/
def Device.forwarding (d : Device) : Bool := decide (d.state = 5 ∨ d.state = 6 ∨ d.state = 7)

/-- A meaning of a part that SAFE stops: there it changes nothing (R328). -/
def unlessSafe (f : Clk → Device → Device) (c : Clk) (d : Device) : Device := if d.state = St.safe then d else f c d

/-! ### Time -/

/-- Device time in TIME80 layout (Table 2.1). -/
def Clk.time80 (c : Clk) : Nat := at_ 79 32 c.sec + at_ 31 0 c.ns

/-- Device time in nanoseconds. -/
def Clk.nsTotal (c : Clk) : Nat := c.sec * 1000000000 + c.ns

/-- The first whole nanosecond at or after device time, whose fraction is `frac` (R296). -/
def Clk.nsUp (c : Clk) : Nat := c.nsTotal + if c.frac = 0 then 0 else 1

/-- The short time: nanoseconds of device time modulo 2^32 (R302). -/
def Clk.short (c : Clk) : Nat := c.nsTotal % 2 ^ 32

/-- Ticks of the time clock in a number of nanoseconds: the tick is 0.8 ns (R296). -/
def ticksOf (ns : Nat) : Nat := ceilDiv (ns * 5) 4

/-- An instant lies within the last 1,000 ms, the end included (R8). -/
def recentTick (c : Clk) (t : Nat) : Bool := decide (c.ticks ≤ t + ticksOf 1000000000)

/-! ### Free values -/

/-- The next free value, and the device with it drawn. -/
def Device.draw (d : Device) : Nat × Device := (Config.freeValue d.free, { d with free := d.free + 1 })

/-- `n` free values drawn, each taken modulo `m`. -/
def Device.drawN (d : Device) (n m : Nat) : List Nat × Device :=
  ((List.range n).map fun i => Config.freeValue (d.free + i) % m, { d with free := d.free + n })

/-- One of the numbers of a list, free which; none of an empty list. -/
def Device.pick (d : Device) (xs : List Nat) : Option Nat := xs[Config.freeValue d.free % xs.length]?

/-- The device with the draw of `pick` spent. -/
def Device.spend (d : Device) : Device := { d with free := d.free + 1 }

/-- The first free number from a drawn one upward, round a space of `n` numbers, given the used ones (log 8): at most `fuel`
numbers are tried. -/
def nextFree (used : Nat → Bool) (n : Nat) : Nat → Nat → Option Nat
  | 0, _ => none
  | fuel + 1, i => if used (i % n) then nextFree used n fuel (i + 1) else some (i % n)

/-! ### The Lookout's detectors -/

/-- Two reports are of one detector (R313). -/
def Report.same (a b : Report) : Bool := a.source == b.source && a.target == b.target && a.detector == b.detector

/-- The order of events detected in one clock (R313): by source, then target, then detector. -/
def Report.before (a b : Report) : Bool :=
  decide (a.source < b.source ∨ a.source = b.source ∧ (a.target < b.target ∨ a.target = b.target ∧ a.detector ≤ b.detector))

/-- A report among those of its own clock. -/
def reportAmong (r : Report) (ws : List Report) : List Report := ws.takeWhile (·.before r) ++ r :: ws.dropWhile (·.before r)

/-- A detector's report (R313): it merges into the event that the same detector has waiting, whose further occurrences saturate at 65,535;
a new event waits behind the `older` ones, those of earlier clocks. -/
def reportInto (older : Nat) (ws : List Report) (r : Report) : List Report :=
  if ws.any r.same then ws.map fun w => if r.same w then { w with count := min 65536 (w.count + r.count) } else w
  else ws.take older ++ reportAmong r (ws.drop older)

/-- A report of a source against a target by its detector number `det` (R313, R316). The Lookout is without clock before its
reset release (R363). -/
def Device.raiseBy (d : Device) (src tgt det code : Nat) : Device :=
  if d.state = St.reset then d
  else { d with look := { d.look with
    waiting := reportInto d.look.older d.look.waiting { source := src, target := tgt, detector := det, code := code % 65536, count := 0 + 1 } } }

/-- A report by the only detector of its source and target. -/
def Device.raise (d : Device) (src tgt code : Nat) : Device := d.raiseBy src tgt 0 code

/-- The condition of a source against a target present or absent (Table 15.4). -/
def Device.setCondition (d : Device) (src tgt : Nat) (on : Bool) : Device :=
  { d with look := { d.look with conditions := setTo d.look.conditions (src * 65536 + tgt) on } }

/-- Whether the condition of a source against a target is present. -/
def Device.condition (d : Device) (src tgt : Nat) : Bool := setHas d.look.conditions (src * 65536 + tgt)

/-- A reaction shadow opened over a target, and the reaction in progress for `acting` (R319, R320). -/
def Device.openShadow (d : Device) (tgt : Nat) : Device :=
  { d with look := { d.look with shadows := setAdd d.look.shadows tgt } }

/-- Whether some status element has DEGRADE set (R325). -/
def Device.degraded (d : Device) : Nat :=
  (d.chart.filter fun kv =>
    (kv.1 / 65536 == Obj.lookSourceStatus || kv.1 / 65536 == Obj.lookUnitStatus) && bit kv.2 1).length

/-- FAULT_N follows the DEGRADE bits and SAFE (R325). -/
def Device.updFaultN (d : Device) : Device :=
  { d with look := { d.look with faultN := if d.degraded ≠ 0 ∨ d.state = St.safe then .low else .high } }

/-! ### The device's own frames -/

/-- A management port's share of a frame: the device's own frames wait where a forwarded frame waits for the port (R35). -/
def Device.sendOwn (d : Device) (port : Nat) (frame : Bytes) : Device :=
  if d.mgmt.forward.any (fun q => q.1 == port) then
    { d with mgmt := { d.mgmt with own := d.mgmt.own ++ [(port, frame)] } }
  else { d with mgmt := { d.mgmt with sent := d.mgmt.sent ++ [(port, frame)] } }

/-- DEVNUM (R366). -/
def Device.devnum (d : Device) : Nat := d.rd Obj.devStraps 0 5 0

/-- An object item header with its value padded to a multiple of 4 (R25, Table 2.8). -/
def itemBytes (obj elem cnt status ty : Nat) (value : Bytes) : Bytes :=
  natBe 2 obj ++ natBe 2 elem ++ natBe 2 cnt ++ natBe 1 status ++ natBe 1 ty ++ natBe 2 value.length ++ natBe 2 0
    ++ padTo (roundUp 4 value.length) value

/-- A device-to-host frame without its FCS (R24, Table 2.7): `count` items in `payload`, padded to the 64-byte minimum. -/
def Device.frame (d : Device) (dest orig op seq count status : Nat) (payloadLength : Nat) (payload : Bytes) : Bytes :=
  padTo 60 (natBe 6 dest ++ natBe 6 (d.get Obj.bdpStationAddress 0) ++ natBe 2 0x88B5 ++ natBe 1 1 ++ natBe 1 0xFE
    ++ natBe 1 d.devnum ++ natBe 1 (0x80 + orig % 16) ++ natBe 1 (d.get Obj.bdpHopLimit 0) ++ natBe 1 op ++ natBe 2 seq
    ++ natBe 2 count ++ natBe 2 payloadLength ++ natBe 1 status ++ natBe 1 (d.get Obj.bdpEpoch 0) ++ natBe 2 0 ++ payload)

/-- The port at which an unsent NOTIFY or PUNT frame for a supervisor is counted (R40). -/
def Device.unsentPort (d : Device) (sup : Nat) : Nat :=
  match mapGet? d.mgmt.routes sup with
  | some (port, _) => port % 2
  | none => if bit (d.get Obj.bdpSupervisorPort sup) 0 then 0 else 1

/-- Whether a supervisor has a record under R37 whose port's link is up (R40). -/
def Device.reachable (d : Device) (sup : Nat) : Option (Nat × Nat) :=
  match mapGet? d.mgmt.routes sup with
  | some (port, mac) => if setHas d.mgmt.linkUp port then some (port, mac) else none
  | none => none

/-- A NOTIFY item with the value `v` sent to one supervisor, or counted as code 9 (R39, R40). -/
def Device.notifyOne (d : Device) (obj elem v : Nat) (sup : Nat) : Device :=
  match d.reachable sup with
  | none => d.tally Obj.bdpCount (d.unsentPort sup * 16 + 9) 1
  | some (port, mac) =>
    match objInfo? obj with
    | none => d
    | some r =>
      let item := itemBytes obj elem 1 0 r.ty (natBe r.size v)
      let seq := mapGet d.mgmt.notifySeq sup 0
      ({ d with mgmt := { d.mgmt with notifySeq := mapPut d.mgmt.notifySeq sup ((seq + 1) % 65536) } }).sendOwn port
        (d.frame mac sup 0x10 seq 1 0 item.length item)

/-- The supervisors BDP.NotifyTarget names (Table 2.3). -/
def Device.notifyTargets (d : Device) : List Nat :=
  match d.get Obj.bdpNotifyTarget 0 with
  | 0 => [0]
  | 1 => [1]
  | 2 => [0, 1]
  | _ => []

/-- A NOTIFY item of a RECORD object's element with a given value, sent to the supervisors BDP.NotifyTarget names (R39). -/
def Device.notifyValue (d : Device) (obj elem v : Nat) : Device :=
  d.notifyTargets.foldl (fun d sup => d.notifyOne obj elem v sup) d

/-- A NOTIFY item of a RECORD object's element as it stands. -/
def Device.notify (d : Device) (obj elem : Nat) : Device := d.notifyValue obj elem (d.get obj elem)

end Sys2Proof.Machine
end

