-- ==== Sys2Proof/Machine/Cluster.lean ====
section
/-! DEFINITION. What several families ask about clusters: their fence and power states, the scratchpad and common-store words, and
the completion of a class conversion (R186, R188, R173, R223). -/

namespace Sys2Proof.Machine

/-- A cluster out of service: CL.Fence is not 0 (R186). -/
def Device.clusterFenced (d : Device) (c : Nat) : Bool := d.get Obj.clFence c != 0

/-- An engine out of service by its own fence (R187). -/
def Device.engineFenced (d : Device) (e : Nat) : Bool := d.get Obj.clEngineFence e != 0

/-- The stored part of CL.Status State while the cluster is in service: 0 ACTIVE, 1 IDLE, 2 RETENTION, 3 WAKING (R188). -/
def Device.clusterPower (d : Device) (c : Nat) : Nat := mapGet d.eng.clState c 1

/-- A cluster's power state set. -/
def Device.setClusterPower (d : Device) (c v : Nat) : Device :=
  { d with eng := { d.eng with clState := mapSet d.eng.clState c v 1 } }

/-- The cluster retention rule of Table 19.12 is in force. -/
def Device.retains (d : Device) : Bool := bit (d.get Obj.thermStatus 0) 47

/-- The power state an idle cluster enters: IDLE, or RETENTION while the retention rule is in force (R188, R398). -/
def Device.idlePower (d : Device) : Nat := if d.retains then 2 else 1

/-- Every IDLE cluster enters RETENTION while the retention rule is in force (R188, R398). -/
def Device.retainIdle (d : Device) : Device :=
  if d.retains then (List.range 64).foldl (fun d c => if d.clusterPower c = 1 then d.setClusterPower c 2 else d) d else d

/-- Whether the load in progress writes the cluster (R219). -/
def Device.clusterLoading (d : Device) (c : Nat) : Bool := d.img.loading && d.img.loads.head? == some c

/-- CL.Status State (Table 8.11). -/
def Device.clusterState (d : Device) (c : Nat) : Nat :=
  if d.clusterLoading c then 5 else if d.clusterFenced c then 4 else d.clusterPower c

/-- The clusters of a slice. -/
def clustersOf (slice : Nat) : List Nat := (List.range 16).map (16 * slice + ·)

/-- The unfenced clusters of a slice. -/
def Device.unfenced (d : Device) (slice : Nat) : List Nat := (clustersOf slice).filter fun c => !d.clusterFenced c

/-- A class conversion completes when no unfenced cluster of the slice has the old class and one has the pending class (R223). -/
def Device.convertClass (d : Device) (slice : Nat) : Device :=
  let k := d.get Obj.ucodePendingClass slice
  let cls := (d.unfenced slice).map (d.get Obj.ucodeCompatClass)
  if k ≠ 0 ∧ !cls.contains (d.get Obj.ucodeActiveClass slice) ∧ cls.contains k then
    (d.set Obj.ucodeActiveClass slice k).set Obj.ucodePendingClass slice 0
  else d

/-- Whether a common-store segment can be accessed: enabled, and 250 ns past the enabling write (R176). -/
def Device.segmentOn (d : Device) (ticks n : Nat) : Bool :=
  bit (d.get Obj.csSegments 0) n &&
    match mapGet? d.eng.segOn n with
    | some t => decide (t + ticksOf 250 ≤ ticks)
    | none => true

/-- A scratchpad word (byte place in the 64 scratchpads) as a number (R173). -/
def Device.scratchWord (d : Device) (a : Nat) : Nat := beNat (memRead d.eng.scratch a 8)

/-- A common-store word of segments 0 to 14 as a number. -/
def Device.commonWord (d : Device) (a : Nat) : Nat := beNat (memRead d.eng.common a 8)

/-- A scratchpad word stored. -/
def Device.storeScratch (d : Device) (a v : Nat) : Device :=
  { d with eng := { d.eng with scratch := memWriteAll d.eng.scratch a (natBe 8 v) } }

/-- A common-store word stored. -/
def Device.storeCommon (d : Device) (a v : Nat) : Device :=
  { d with eng := { d.eng with common := memWriteAll d.eng.common a (natBe 8 v) } }

/-- The control-store word at a cluster's address. -/
def Device.controlWord (d : Device) (c a : Nat) : Nat := mapGet d.eng.control (c * 4096 + a) 0

/-- A fault whose condition has become present or absent: the event is raised when it becomes present (R313, R316). -/
def Device.conditionEvent (d : Device) (src tgt code : Nat) (present : Bool) : Device :=
  if present then
    if d.condition src tgt then d else (d.setCondition src tgt true).raise src tgt code
  else d.setCondition src tgt false

end Sys2Proof.Machine
end

