-- ==== Sys2Proof/WellFormed.lean ====
section
/-! DEFINITION. Which commands name only units the spec gives the device: the ranges of ports, lanes, queues, contexts, banks, stacks
and the like (Table 0.2, R1 to R3). A command outside them is no event of this device (log 3). -/

namespace Sys2Proof

/-- A work queue's descriptor: one of the 32 queues and a 32-bit count (R43, R46). -/
def wfDesc (queue count : Nat) : Bool := decide (queue < 32 ∧ count < 2 ^ 32)

/-- A fabric crossing in use: 0x00 to 0x08 and 0x10 to 0x17 (Table 16.4). -/
def fabricCrossing (x : Nat) : Bool := decide (x < 9 ∨ (16 ≤ x ∧ x < 24))

/-- The fields of an SX_CMD scan fit their bits (Table 20.4). -/
def SxFields.wf (f : SxFields) : Bool :=
  decide (f.unit < 65536 ∧ f.context < 8 ∧ f.space < 32 ∧ f.address < 2 ^ 40 ∧ f.count < 2 ^ 24 ∧ f.data < 2 ^ 64)

/-- A byte lane's windows lie within the 64 steps of a unit interval (R252). -/
def LaneWindow.wf (w : LaneWindow) : Bool := decide (w.readFirst + w.readSteps ≤ 64 ∧ w.writeFirst + w.writeSteps ≤ 64)

/-- A block of segment 0 of a stack: 3 GiB in blocks of 64 bytes (R249, R262). -/
def BlockFound.wf (f : BlockFound) : Bool := decide (f.stack < 4 ∧ f.block < 50331648)

/-- A request names a block of segment 0, a Vat cell or a pseudo-channel of a stack (R249, Table 11.1). -/
def HbmRequest.wf : HbmRequest → Bool
  | .tableRead block => decide (block < 50331648)
  | .tableWrite block => decide (block < 50331648)
  | .vatRead cell => decide (cell < 22020096)
  | .commandParity pc => decide (pc < 32)

/-- Every operand of the command lies in its range. -/
def Instr.wf : Instr → Bool
  | .bdpFrameReceive port _ _ => decide (port < 2)
  | .chainForwardTransmit port => decide (port < 2)
  | .managementLinkChange port _ => decide (port < 2)
  | .bdpRead badWords => badWords.all fun e => decide (e < 512)
  | .bdpWrite => true
  | .readBulk found => found.all BlockFound.wf
  | .writeBulk => true
  | .helmTake => true
  | .helmGive => true
  | .injectToQueue _ => true
  | .injectToPipeline _ => true
  | .puntFrameSend => true
  | .descriptorFetch queue _ blocks => decide (queue < 32) && blocks.all BlockFound.wf
  | .tableNop queue count => wfDesc queue count
  | .tableInsert queue count found => wfDesc queue count && found.all BlockFound.wf
  | .tableUpdate queue count found => wfDesc queue count && found.all BlockFound.wf
  | .tableDelete queue count found => wfDesc queue count && found.all BlockFound.wf
  | .tableSearch queue count found => wfDesc queue count && found.all BlockFound.wf
  | .tableNext queue count found => wfDesc queue count && found.all BlockFound.wf
  | .flushByPort queue count => wfDesc queue count
  | .bulkWrite queue count => wfDesc queue count
  | .chainRecordExecute queue count _ blocks => wfDesc queue count && blocks.all BlockFound.wf
  | .fence queue count => wfDesc queue count
  | .fenceComplete queue count => wfDesc queue count
  | .flexRead queue count found => wfDesc queue count && found.all BlockFound.wf
  | .tcamInsertControl queue count found => wfDesc queue count && found.all BlockFound.wf
  | .tcamUpdateControl queue count found => wfDesc queue count && found.all BlockFound.wf
  | .tcamDeleteControl queue count => wfDesc queue count
  | .tcamUpdateKey queue count found => wfDesc queue count && found.all BlockFound.wf
  | .tcamSearchControl queue count => wfDesc queue count
  | .tcamSearchKey queue count => wfDesc queue count
  | .tcamSearchLookup queue count _ found => wfDesc queue count && found.all BlockFound.wf
  | .completionPost queue count => wfDesc queue count
  | .heldCompletionMove ring => decide (ring < 16)
  | .laneLockChange lane rxState => decide (lane < 256 ∧ rxState < 3)
  | .linkUp port => decide (port < 256)
  | .linkDown port _ => decide (port < 256)
  | .macFrameReceive port _ _ _ => decide (port < 256)
  | .pauseFrameReceive port _ => decide (port < 256)
  | .pauseExpiry port cls => decide (port < 256 ∧ cls < 8)
  | .pfcXoffTransmit port => decide (port < 256)
  | .pauseRepeat port => decide (port < 256)
  | .pauseResumeTransmit port cls => decide (port < 256 ∧ cls < 8)
  | .biasRatioReached oe source => decide (oe < 8 ∧ source < 10)
  | .laserSwapSettled oe => decide (oe < 8)
  | .laserSwapFullShare oe => decide (oe < 8)
  | .laserSwapComplete oe => decide (oe < 8)
  | .laserSourceFailed oe source => decide (oe < 8 ∧ source < 10)
  | .spareFullPower oe source => decide (oe < 8 ∧ source < 10)
  | .biasRatioLimit oe source _ => decide (oe < 8 ∧ source < 10)
  | .parsePass slice _ _ => decide (slice < 4)
  | .learnWrite slice => decide (slice < 4)
  | .l2NotifyFlush slice => decide (slice < 4)
  | .l2SweepVisit slice index => decide (slice < 4 ∧ index < 262144)
  | .barrierRelease slice bucket => decide (slice < 4 ∧ bucket < 4096)
  | .barrierTimeout slice bucket => decide (slice < 4 ∧ bucket < 4096)
  | .contextDispatch cluster found => decide (cluster < 64) && found.all BlockFound.wf
  | .microwordExecute engine badCopies => decide (engine < 1024 ∧ badCopies < 5)
  | .memoryAccessPerform _ _ => true
  | .loadResult context _ => decide (context < 8192)
  | .lookupResultArrive context slot _ found => decide (context < 8192 ∧ slot < 8) && found.all BlockFound.wf
  | .policeResult contexts => contexts.all fun k => decide (k < 8192)
  | .cstoreCopyRewrite cluster address => decide (cluster < 64 ∧ address < 4096)
  | .watchdogExpiry context => decide (context < 8192)
  | .packetRelease cluster bucket => decide (cluster < 64 ∧ bucket < 4096)
  | .clusterIdle cluster => decide (cluster < 64)
  | .clusterWakeDone cluster => decide (cluster < 64)
  | .clusterHang cluster => decide (cluster < 64)
  | .stageVerifyDone slot => decide (slot < 6)
  | .imageLoadStart => true
  | .imageLoadDone _ _ => true
  | .pilotRestart => true
  | .pilotRevert => true
  | .separatorEvaluate queue => decide (queue < 262144)
  | .stackClosed stack => decide (stack < 4)
  | .bufferSegmentRetired segment => decide (segment < 48)
  | .hbmTrainingComplete stack sweep => decide (stack < 4 ∧ sweep.length = 32) && sweep.all fun ls => ls.all LaneWindow.wf
  | .driftTrack stack trims => decide (stack < 4 ∧ trims.length = 32)
  | .marginCheck stack => decide (stack < 4)
  | .refreshInterval pc _ => decide (pc < 128)
  | .hbmTempSample stack _ => decide (stack < 4)
  | .drainTimeout stack => decide (stack < 4)
  | .parkPrepare stack => decide (stack < 4)
  | .parkCommit stack => decide (stack < 4)
  | .retrainSweepDone stack sweep => decide (stack < 4 ∧ sweep.length = 32) && sweep.all fun ls => ls.all LaneWindow.wf
  | .wakeRelock stack => decide (stack < 4)
  | .replayComplete stack => decide (stack < 4)
  | .hbmScrubVisit found => found.wf
  | .pcRetired pc => decide (pc < 128)
  | .hbmResponseTimeout stack request => decide (stack < 4) && request.wf
  | .schedulerSelect inst => decide (inst < 8)
  | .shaperRefill => true
  | .flushComplete => true
  | .tasChangeTime port => decide (port < 256)
  | .gateEntryStart port => decide (port < 256)
  | .frameTransmitStart port _ => decide (port < 256)
  | .frameTransmitEnd port => decide (port < 256)
  | .ppsOutRise => true
  | .ppsOutFall => true
  | .ppsCapture => true
  | .lookoutEventAccept => true
  | .reactionShadowEnd target => decide (target < 4096)
  | .copyMismatch => true
  | .lookoutParity => true
  | .dumpStart => true
  | .onChipDumpDone => true
  | .hbmDumpDone => true
  | .tcamScrubVisit slice row component _ => decide (slice < 4 ∧ row < 24576 ∧ component < 4)
  | .crossingAccessTimeout crossing object => fabricCrossing crossing && decide (object < 65536)
  | .lateAcknowledge crossing => fabricCrossing crossing
  | .crossingPulse crossing signal _ _ => decide (0x20 ≤ crossing ∧ crossing < 0x3A ∧ signal < 256)
  | .reference _ => true
  | .pilotLockstep => true
  | .pilotMemory => true
  | .pilotWatchdog => true
  | .pllUnlock domain => decide (domain < 9)
  | .pllRelock domain => decide (domain < 9)
  | .loglineCycle => true
  | .snapshotTake => true
  | .snapshotDone => true
  | .flexWriteback slice counter found => decide (slice < 4 ∧ counter < 67108864) && found.all BlockFound.wf
  | .powerGood => true
  | .powerFailReset => true
  | .vauxLoss => true
  | .resetReleaseBoot straps => decide (straps < 512)
  | .pilotSelfTestDone => true
  | .trainingEnd => true
  | .opticsSettled => true
  | .deviceRestartBegin => true
  | .restartResetEntry => true
  | .restartResetRelease straps => decide (straps < 512)
  | .resetNAssert _ => true
  | .resetNRelease straps => decide (straps < 512)
  | .regulatorPhaseFail rail => decide (rail < 12)
  | .supply code _ => decide (code < 12 ∨ code = 0xFF)
  | .coreTrimUpdate die _ => decide (die < 2)
  | .thermalSample _ _ _ => true
  | .thermalTrip => true
  | .tapReset _ => true
  | .tapIdcode => true
  | .tapBypass code => decide (code < 256)
  | .sxNop op f => decide (op < 256) && f.wf
  | .sxHalt f => f.wf
  | .sxResume f => f.wf
  | .sxStep f => f.wf
  | .sxRead f _ blocks => f.wf && blocks.all BlockFound.wf
  | .sxWrite f => f.wf
  | .sxBlockRead f => f.wf
  | .sxBlockWrite f => f.wf
  | .sxSetPoint f => f.wf
  | .sxClearPoint f => f.wf
  | .sxStart f => f.wf
  | .sxHaltAll f => f.wf
  | .sxResumeAll f => f.wf
  | .sxCommandComplete _ blocks => blocks.all BlockFound.wf
  | .sxResultCapture => true
  | .sxStreamWrite _ => true
  | .sxStreamRead => true
  | .debugClockAbsent => true
  | .timeTick => true
  | .cachePrefetch queue blocks => decide (queue < 32) && blocks.all BlockFound.wf
  | .countPerformed context found => decide (context < 8192) && found.all BlockFound.wf
  | .replayBlockCopy stack found => decide (stack < 4) && found.all BlockFound.wf
  | .pilotRestartEnd => true
  | .vauxPresent => true
  | .instructionSelect code => decide (code < 256)

end Sys2Proof
end

