-- ==== Sys2Proof/Machine/Crossing.lean ====
section
/-! DEFINITION. Clocks and crossings (chapter 16), and the detectors of the reference and the Pilot (Table 15.4). -/

namespace Sys2Proof.Machine

/-- The nominal frequency of a domain in kHz (Table 16.1). -/
def domainKhz (d : Device) (dom : Nat) : Nat :=
  if dom = 0 then 1500000 else if dom = 1 then 1600000 else if dom ≤ 5 then 1200000
  else if dom = 6 then (if bit (d.get Obj.devStraps 0) 6 then 322265 else 156250)
  else if dom = 7 then 1250000 else 800000

/-- CLK.Status State of a domain: 0 RUNNING, 1 STOPPED, 2 ABSENT (Table 16.3). -/
def Device.clockState (d : Device) (dom : Nat) : Nat := d.rd Obj.clkStatus dom 63 56

/-- A domain's clock running. Every domain clock derives from the reference it is measured against, so it reads its nominal frequency; a
nominal frequency between two whole kHz reads either of them, free (R335, Table 16.3, log 39). -/
def Device.clockRuns (d : Device) (dom : Nat) : Device :=
  let odd := dom == 6 && bit (d.get Obj.devStraps 0) 6
  let f := domainKhz d dom + (if odd then Config.freeValue d.free % 2 else 0)
  ((if odd then d.spend else d).setFld Obj.clkStatus dom 31 0 f).setFld Obj.clkStatus dom 63 56 0

/-- CROSS.Status State of a crossing: 0 IDLE, 1 BUSY, 2 STALLED, 3 RESETTING (Table 16.5). -/
def Device.crossState (d : Device) (x : Nat) : Nat := d.rd Obj.crossStatus x 63 56

/-- A field of CROSS.Counters advanced (Table 16.6): 0 Requests, 1 MultiPulse, 2 PulsesLost, 3 Timeouts, 4 ResetDiscards,
5 PeerResets. -/
def Device.crossCount (d : Device) (x k n : Nat) : Device := d.bump Obj.crossCounters x 6 k n

/-- Pending counts of a crossing's outstanding requests, one per pulse signal. A stored 8 is a count of 7 with a pulse lost. -/
def Device.crossPending (d : Device) (x : Nat) : List Nat :=
  (d.cross.outstanding.filter fun kv => kv.1 / 256 == x).map fun kv => min 7 kv.2

/-- CROSS.Status State and Pending of a data-path crossing follow its outstanding requests. -/
def Device.crossRefresh (d : Device) (x : Nat) : Device :=
  let p := d.crossPending x
  (d.setFld Obj.crossStatus x 55 53 (p.foldl max 0)).setFld Obj.crossStatus x 63 56 (if p = [] then 0 else 1)

/-- A fabric access through a crossing times out (R341): the crossing is STALLED, unless one of its sides is being reset, when State goes on
reading RESETTING (R343, DEDUCED, log 48). `object` is 0 for an access that is not a Chart access. -/
def Device.accessTimeout (d : Device) (x object : Nat) : Device :=
  let d := d.crossCount x 3 1
  let d := d.raise 0x21 (0xC00 + x) object
  let d := if object = 0 then d else d.setFld Obj.crossStatus x 47 32 object
  if d.crossState x = 3 then d else d.setFld Obj.crossStatus x 63 56 2

/-- The domain on the far side of a fabric crossing from the Pilot, as CLK.Status names it (Tables 16.1, 16.4); none for the lane domains, which
never stop (R336), and for 0x08, over which only the Sextant makes accesses (log 34; `Device.sxBlocked`). -/
def farDomain (x : Nat) : Option Nat :=
  if x < 6 then some x else if x = 6 then some 7 else if x = 7 then some 6 else none

/-- A crossing takes no request: it is STALLED, or a side of it is being reset, when nothing goes before the peer-reset event (R341, R343). -/
def Device.crossShut (d : Device) (x : Nat) : Bool := d.crossState x == 2 || d.crossState x == 3

/-- A fabric crossing cannot carry an access of the Pilot's: it takes no request, its far clock has stopped, or the access under way has
reached the bound of R341. -/
def Device.crossBlocked (d : Device) (x : Nat) : Bool :=
  d.crossShut x || setHas d.cross.late x || (match farDomain x with | some dom => d.clockState dom == 1 | none => false)

/-- Crossing 0x08 cannot carry a command of the Sextant's to the Pilot, whose clock is then the far one (R341, R343). -/
def Device.sxBlocked (d : Device) : Bool := d.crossShut 8 || d.clockState 8 == 1

/-- An access that its crossing cannot carry ends with TIMEOUT (R341); the one whose bound has been reported already is not counted
again. -/
def Device.accessRefused (d : Device) (x object : Nat) : Device :=
  if setHas d.cross.late x then { d with cross := { d.cross with late := setDel d.cross.late x } } else d.accessTimeout x object

/-- A fabric access completed: its request is acknowledged (R339). -/
def Device.accessDone (d : Device) (x : Nat) : Device := d.crossCount x 0 1

/-- Fabric accesses completed. -/
def Device.accessesDone (d : Device) (xs : List Nat) : Device := xs.foldl Device.accessDone d

/-- The first of the crossings of some accesses that cannot carry its access. -/
def Device.firstBlocked (d : Device) (xs : List Nat) : Option Nat := xs.find? d.crossBlocked

/-- Fetched work that a Pilot restart finds under way waits: the crossing it needs next is RESETTING, and the work completes once the reset has
ended (R13, R343; DEDUCED, log 48). -/
def Device.awaitsReset (d : Device) (xs : List Nat) : Bool :=
  match d.firstBlocked xs with
  | some k => d.crossState k == 3
  | none => false

/-- A step of a context that has not begun is called off (R405); at most one is under way. -/
def Device.callOffStep (d : Device) : Device :=
  { d with eng := { d.eng with ctx := d.eng.ctx.map fun kv => (kv.1, { kv.2 with stepping := false }) } }

/-- The running command of the Sextant will end with TIMEOUT (R341, R405). -/
def Device.endSxCommand (d : Device) : Device :=
  if d.sx.running.isSome then { d.callOffStep with sx := { d.sx with staged := some (5, none) } } else d

/-- The Sextant has a command under way whose request of crossing 0x08 is in flight: one that has ended with TIMEOUT is the STALLED request,
or has been discarded. -/
def Device.sxInFlight (d : Device) : Bool := d.sx.running.isSome && d.sx.staged != some (5, none)

/-- A reset of crossing 0x08 discards the Sextant's command under way and counts it (R343, R344). Its access is never acknowledged, so that it
ends with TIMEOUT (DEDUCED from R341 and R405, log 48). -/
def Device.dropSxCommand (d : Device) : Device := if d.sxInFlight then (d.crossCount 8 4 1).endSxCommand else d

/-- A fabric access not completed within 2 µs (R341): the running command of the Sextant ends with TIMEOUT (R405), or the Chart item or
work-queue operation under way does when it is carried out next. Every access over crossing 0x08 is the Sextant's, and none a Chart access
(log 34). -/
def execCrossingAccessTimeout (crossing object : Nat) (s : State) : Host.Outcome State Fault Refusal :=
  onDev (Instr.crossingAccessTimeout crossing object).wf
    (fun _ d =>
      let d1 := d.accessTimeout crossing object
      if crossing = 8 then (if object = 0 then d1.endSxCommand else d)
      else { d1 with cross := { d1.cross with late := setAdd d1.cross.late crossing } }) s

/-- CROSS.Status as it is shown: a command of the Sextant under way is a request of crossing 0x08 (Table 16.5). -/
def Device.viewCrossing (d : Device) (x : Nat) : Nat :=
  let v := d.get Obj.crossStatus x
  if x = 8 ∧ d.sxInFlight = true ∧ d.crossState 8 = 0 then putFld v 63 56 1 else v

/-- The late acknowledge of a STALLED crossing is discarded and the crossing becomes IDLE (R341). -/
def execLateAcknowledge (crossing : Nat) (s : State) : Host.Outcome State Fault Refusal :=
  onDev (Instr.lateAcknowledge crossing).wf
    (fun _ d => if d.crossState crossing = 2 then d.setFld Obj.crossStatus crossing 63 56 0 else d) s

/-- The acknowledge of a signal's outstanding request returns (R340): a new request carries the pending count, if any. -/
def Device.pulseAck (d : Device) (x sig : Nat) : Device :=
  let k := x * 256 + sig
  match mapGet? d.cross.outstanding k with
  | none => d
  | some 0 => { d.crossCount x 0 1 with cross := { d.cross with outstanding := mapDel d.cross.outstanding k } }
  | some p =>
    let d1 := d.crossCount x 0 1
    let d2 := if 1 < min 7 p then d1.crossCount x 1 1 else d1
    { d2 with cross := { d.cross with outstanding := mapPut d.cross.outstanding k 0 } }

/-- A pulse arrives at its source (R340). -/
def Device.pulseArrive (d : Device) (x sig : Nat) : Device :=
  let k := x * 256 + sig
  let store (d : Device) (p : Nat) : Device := { d with cross := { d.cross with outstanding := mapPut d.cross.outstanding k p } }
  match mapGet? d.cross.outstanding k with
  | none => store d 0
  | some p =>
    if p < 7 then store d (p + 1)
    else if p = 7 then
      store (((d.crossCount x 2 1).set Obj.crossOverrun x 1).raise 0x22 (0xC00 + x) 0) 8
    else d.crossCount x 2 1

/-- A pulse signal of a data-path crossing (R340): the acknowledge of its outstanding request returns, a pulse arrives, or both in that
order. -/
def execCrossingPulse (crossing signal : Nat) (acknowledged arrived : Bool) (s : State) : Host.Outcome State Fault Refusal :=
  onDev (Instr.crossingPulse crossing signal acknowledged arrived).wf
    (fun _ d =>
      let d1 := if acknowledged then d.pulseAck crossing signal else d
      (if arrived then d1.pulseArrive crossing signal else d1).crossRefresh crossing) s

/-- The peer-reset event of a crossing's surviving side (R343). -/
def Device.peerReset (d : Device) (x : Nat) : Device := (d.crossCount x 5 1).raise 0x23 (0xC00 + x) 0

/-- The pulse signals of crossing `x` that belong to lanes: signal n of an optical engine's data-path crossing is lane n's of the engine
(DESIGN CHOICE, log 31). -/
def laneSignals (x : Nat) (lanes : List Nat) : List Nat := lanes.map fun l => x * 256 + l % 32

/-- A pulse signal whose lane-side source resets: its request is discarded and its pending count lost (R343). -/
def Device.dropSource (d : Device) (x k : Nat) : Device :=
  match mapGet? d.cross.outstanding k with
  | none => d
  | some p =>
    let d := (d.crossCount x 4 1).crossCount x 2 (min 7 p)
    { d with cross := { d.cross with outstanding := mapDel d.cross.outstanding k } }

/-- A pulse signal whose lane-side destination resets: its request is discarded, and the pending count of the surviving source is sent in
a new request after the peer-reset event (R343). -/
def Device.resendPending (d : Device) (x k : Nat) : Device :=
  match mapGet? d.cross.outstanding k with
  | none => d
  | some p =>
    let d := d.crossCount x 4 1
    if p = 0 then { d with cross := { d.cross with outstanding := mapDel d.cross.outstanding k } }
    else
      let d := if 1 < p then d.crossCount x 1 1 else d
      { d with cross := { d.cross with outstanding := mapPut d.cross.outstanding k 0 } }

/-- The lane side of an optical engine's crossings is reset at a lane rate change, for the lanes whose rate changes (R343): lane receive is
the source of crossings 0x28 to 0x2F, and lane transmit the destination of crossings 0x30 to 0x37 (Table 16.4). -/
def Device.laneSideReset (d : Device) (oe : Nat) (lanes : List Nat) : Device :=
  let rx := 0x28 + oe
  let tx := 0x30 + oe
  let d := ((laneSignals rx lanes).foldl (fun d k => d.dropSource rx k) d).crossRefresh rx
  let d := (d.peerReset (0x10 + oe)).peerReset rx
  ((laneSignals tx lanes).foldl (fun d k => d.resendPending tx k) (d.peerReset tx)).crossRefresh tx

/-- The crossings whose Pilot side a Pilot restart resets: 0x00 to 0x17 in use (R343). -/
def pilotCrossings : List Nat := List.range 9 ++ (List.range 8).map (0x10 + ·)

/-- A Pilot restart resets the Pilot side of its crossings: a STALLED request and the Sextant's command under way are discarded and counted,
and no access waits to end with TIMEOUT any more (R33, R343). -/
def Device.pilotSideReset (d : Device) : Device :=
  let d := d.dropSxCommand
  let d := { d with cross := { d.cross with late := [] } }
  pilotCrossings.foldl (fun d x =>
    let d := if d.crossState x = 2 then d.crossCount x 4 1 else d
    d.setFld Obj.crossStatus x 63 56 3) d

/-- The end of that reset: each surviving side receives a peer-reset event (R343). -/
def Device.pilotSideBack (d : Device) : Device :=
  pilotCrossings.foldl (fun d x => (d.setFld Obj.crossStatus x 63 56 0).peerReset x) d

/-- The MEMS reference more than 100 ppm from nominal, or back (Table 15.4, source 0x29). -/
def execReference (present : Bool) (s : State) : Host.Outcome State Fault Refusal :=
  onDev (Instr.reference present).wf (fun _ d => d.conditionEvent 0x29 0 0 present) s

/-- The Pilot's lockstep cores disagree (Table 15.4, source 0x30). -/
def execPilotLockstep (s : State) : Host.Outcome State Fault Refusal :=
  onDev Instr.pilotLockstep.wf (fun _ d => if d.pwr.pilot = .running then d.raise 0x30 1 0 else d) s

/-- An uncorrectable Pilot SRAM error (source 0x31). -/
def execPilotMemory (s : State) : Host.Outcome State Fault Refusal :=
  onDev Instr.pilotMemory.wf (fun _ d => if d.pwr.pilot = .running then d.raise 0x31 1 0 else d) s

/-- The Pilot silent for 100 ms (source 0x32); never raised while the Sextant holds it halted (R415). -/
def execPilotWatchdog (s : State) : Host.Outcome State Fault Refusal :=
  onDev Instr.pilotWatchdog.wf
    (fun _ d => if d.pwr.pilot = .off ∨ d.sx.pilotHalted = true then d else d.raise 0x32 1 0) s

/-- A domain's PLL loses lock: its clock stops (R337). -/
def execPllUnlock (domain : Nat) (s : State) : Host.Outcome State Fault Refusal :=
  onDev (Instr.pllUnlock domain).wf
    (fun _ d => (d.setFld Obj.clkStatus domain 31 0 0).setFld Obj.clkStatus domain 63 56 1) s

/-- The PLL relocks: the clock runs and Unlocks increments, saturating (R337). -/
def execPllRelock (domain : Nat) (s : State) : Host.Outcome State Fault Refusal :=
  onDev (Instr.pllRelock domain).wf
    (fun _ d =>
      if d.clockState domain = 1 then
        (d.clockRuns domain).setFld Obj.clkStatus domain 55 40 (min 65535 (d.rd Obj.clkStatus domain 55 40 + 1))
      else d) s

end Sys2Proof.Machine
end

