-- ==== Sys2Proof/Machine/Crypto.lean ====
section
/-! DEFINITION. The cryptography of image verification (R216): the SHA-384 digest and the ECDSA P-384 signature check. -/

namespace Sys2Proof.Machine

/-! ### SHA-384 -/

/-- The primes among `n` numbers from `k` upward, given the primes below `k`, largest first. -/
def primesFrom (ps : List Nat) (k : Nat) : Nat → List Nat
  | 0 => ps
  | n + 1 => if ps.any fun p => k % p == 0 then primesFrom ps (k + 1) n else primesFrom (k :: ps) (k + 1) n

/-- The first 80 primes, 2 to 409. -/
def shaPrimes : List Nat := (primesFrom [] 2 408).reverse

/-- The largest number with a given power at most `v`, its `n` low bits still to be found above `r`. -/
def rootBits (pow v : Nat) : Nat → Nat → Nat
  | 0, r => r
  | n + 1, r => rootBits pow v n (if (r + 2 ^ n) ^ pow ≤ v then r + 2 ^ n else r)

/-- The first 64 bits of the fractional part of a root of a prime below 512 (FIPS 180-4, 4.2.3 and 5.3.4). -/
def rootFraction (pow p : Nat) : Nat := rootBits pow (p * 2 ^ (64 * pow)) 69 0 % 2 ^ 64

/-- The round constants: cube roots of the 80 primes. -/
def shaConstants : List Nat := shaPrimes.map (rootFraction 3)

/-- The initial hash value of SHA-384: square roots of the ninth to the sixteenth prime. -/
def sha384Start : List Nat := ((shaPrimes.drop 8).take 8).map (rootFraction 2)

/-- A 64-bit word rotated right. -/
def rotr64 (n x : Nat) : Nat := x / 2 ^ n + x % 2 ^ n * 2 ^ (64 - n)

/-- The exclusive or of a word's rotations. -/
def turned (turns : List Nat) (x : Nat) : Nat := turns.foldl (fun acc n => acc ^^^ rotr64 n x) 0

/-- The word sixteen places after the first of a window of sixteen message words. -/
def nextWord (window : List Nat) : Nat :=
  let early := window.getD 1 0
  let late := window.getD 14 0
  (window.getD 0 0 + window.getD 9 0 + (turned [1, 8] early ^^^ early >>> 7) + (turned [19, 61] late ^^^ late >>> 6)) % 2 ^ 64

/-- Where bits of the first word are set the second word's bit, else the third's. -/
def chosen (by_ x y : Nat) : Nat := y ^^^ (by_ &&& (x ^^^ y))

/-- The bits that at least two of three words have. -/
def majority (x y z : Nat) : Nat := (x &&& y) ||| (z &&& (x ||| y))

/-- The eight working words and the window after a round with its constant. -/
def shaRound (now : List Nat × List Nat) (constant : Nat) : List Nat × List Nat :=
  let word (i : Nat) : Nat := now.1.getD i 0
  let mixed := constant + now.2.headD 0 + word 7 + chosen (word 4) (word 5) (word 6) + turned [14, 18, 41] (word 4)
  let first := mixed + majority (word 0) (word 1) (word 2) + turned [28, 34, 39] (word 0)
  (first % 2 ^ 64 :: now.1.take 3 ++ (word 3 + mixed) % 2 ^ 64 :: (now.1.drop 4).take 3, now.2.drop 1 ++ [nextWord now.2])

/-- One block of 128 bytes absorbed. -/
def shaBlock (hash : List Nat) (block : Bytes) : List Nat :=
  let window := (List.range 16).map fun i => beAt block (8 * i) 8
  List.zipWith (fun old new => (old + new) % 2 ^ 64) hash (shaConstants.foldl shaRound (hash, window)).1

/-- The first `n` blocks of a padded message absorbed. -/
def shaBlocks (msg : Bytes) : Nat → List Nat
  | 0 => sha384Start
  | n + 1 => shaBlock (shaBlocks msg n) ((msg.drop (128 * n)).take 128)

/-- A message with its end mark, zeros to 16 bytes short of a block, and its length in bits (FIPS 180-4, 5.1.2). -/
def shaPadded (msg : Bytes) : Bytes :=
  padTo (roundUp 128 (msg.length + 17) - 16) (msg ++ [0x80]) ++ natBe 16 (8 * msg.length)

/-- The SHA-384 digest as a 384-bit number: six of the eight words. -/
def sha384 (msg : Bytes) : Nat :=
  let padded := shaPadded msg
  ((shaBlocks padded (padded.length / 128)).take 6).foldl (fun digest word => digest * 2 ^ 64 + word) 0

/-! ### P-384 -/

/-- The field prime. -/
def p384 : Nat := 2 ^ 384 - 2 ^ 128 - 2 ^ 96 + 2 ^ 32 - 1

/-- The group order. -/
def n384 : Nat :=
  0xffffffffffffffffffffffffffffffffffffffffffffffffc7634d81f4372ddf581a0db248b0a77aecec196accc52973

/-- The curve's coefficient b. -/
def b384 : Nat :=
  0xb3312fa7e23ee7e4988e056be3f82d19181d9c6efe8141120314088f5013875ac656398d8a2ed19d2a85c8edd3ec2aef

/-- The base point. -/
def g384 : Nat × Nat :=
  (0xaa87ca22be8b05378eb1c71ef320ad746e1d3b628ba79b9859f741e082542a385502f25dbf55296c3a545e3872760ab7,
   0x3617de4a96262c6f5d9e98bf9292dc29f8f41dbd289a147ce9da3113b5f0b8c00a60b1ce1d7e819d7a431d7c90ea0e5f)

/-- `a ^ e` modulo `m`, over the `n` low bits of the exponent. -/
def powMod (m a : Nat) : Nat → Nat → Nat
  | 0, _ => 1 % m
  | n + 1, e =>
    let h := powMod m a n (e / 2)
    let sq := h * h % m
    if e % 2 = 1 then sq * a % m else sq

/-- The inverse modulo a 384-bit prime. -/
def invMod (m a : Nat) : Nat := powMod m (a % m) 384 (m - 2)

/-- Two points of the curve added; none is the point at infinity. -/
def addPoint (p q : Option (Nat × Nat)) : Option (Nat × Nat) :=
  match p, q with
  | none, _ => q
  | _, none => p
  | some (x1, y1), some (x2, y2) =>
    if x1 = x2 ∧ (y1 + y2) % p384 = 0 then none
    else
      let l := if x1 = x2 ∧ y1 = y2 then (3 * x1 * x1 + p384 - 3) * invMod p384 (2 * y1) % p384
        else (y2 + p384 - y1) * invMod p384 (x2 + p384 - x1) % p384
      let x3 := (l * l + 2 * p384 - x1 - x2) % p384
      some (x3, (l * (x1 + p384 - x3) + p384 - y1) % p384)

/-- A point multiplied by the `n` low bits of a number. -/
def mulPoint (p : Option (Nat × Nat)) : Nat → Nat → Option (Nat × Nat)
  | 0, _ => none
  | n + 1, k =>
    let h := mulPoint p n (k / 2)
    let d := addPoint h h
    if k % 2 = 1 then addPoint d p else d

/-- The ECDSA P-384 check (FIPS 186-5): digest `z`, signature (r, s), public key (x, y). -/
def ecdsaValid (z r s x y : Nat) : Bool :=
  if 0 < r ∧ r < n384 ∧ 0 < s ∧ s < n384 ∧ x < p384 ∧ y < p384 ∧ y * y % p384 = (x * x * x + (p384 - 3) * x + b384) % p384 then
    let w := invMod n384 s
    match addPoint (mulPoint (some g384) 384 (z * w % n384)) (mulPoint (some (x, y)) 384 (r * w % n384)) with
    | some (px, _) => px % n384 == r
    | none => false
  else false

end Sys2Proof.Machine
end

