-- ==== Sys2Proof/Machine/Image.lean ====
section
/-! DEFINITION. Microcode images and Pilot firmware (chapter 10): staging and verification, keys, constants, cluster loads, class
conversion, and the Pilot's restarts. A Chart write answers the element it writes with a new device or with the status that refuses
it (R28, Table 2.12). -/

namespace Sys2Proof.Machine

/-- The outcome of a Chart write: the device, or the status that refuses it. -/
abbrev Wr := Except Nat Device

/-- Statuses a write is refused with (Table 2.12). -/
abbrev stAccess : Nat := 2
abbrev stType : Nat := 3
abbrev stHelm : Nat := 5
abbrev stCondition : Nat := 6
abbrev stTimeout : Nat := 7
abbrev stBusy : Nat := 8

/-- Bytes of the queue store (Table 2.10). -/
def queueStoreSize : Nat := 8388608

/-! ### Verification -/

/-- The image header as a number (Table 10.2). -/
def Staged.header (g : Staged) : Nat := beAt g.bytes 0 64

/-- BodyLength. -/
def Staged.bodyLength (g : Staged) : Nat := fld g.header 287 256

/-- WordCount and ConstCount. -/
def Staged.words (g : Staged) : Nat := fld g.header 335 320
def Staged.consts (g : Staged) : Nat := fld g.header 319 304

/-- The byte offset of the dispatch table of a microcode image, and of its constant records (Table 10.1). -/
def Staged.dispatchAt (g : Staged) : Nat := 64 + 24 * g.words
def Staged.constsAt (g : Staged) : Nat := 576 + 24 * g.words

/-- Control-store word `i` of the image. -/
def Staged.word (g : Staged) (i : Nat) : Nat := beAt g.bytes (64 + 24 * i) 24

/-- Dispatch entry `i` of the image. -/
def Staged.dispatch (g : Staged) (i : Nat) : Nat := beAt g.bytes (g.dispatchAt + 2 * i) 2

/-- Constant record `i`: address and value (Table 10.3). -/
def Staged.constant (g : Staged) (i : Nat) : Nat × Nat :=
  (beAt g.bytes (g.constsAt + 16 * i) 4, beAt g.bytes (g.constsAt + 16 * i + 8) 8)

/-- The image digest: SHA-384 of the body (R212). -/
def Staged.digest (g : Staged) : Nat := sha384 (g.bytes.take g.bodyLength)

/-- Whether a constant record's address is allowed (R213). -/
def constantOk (a : Nat) : Bool := a % 8 == 0 && decide (0x1000000 ≤ a ∧ a < 0x2F00000)

/-- Check 1 (FORMAT). -/
def formatOk (kind : Nat) (h : Nat) : Bool :=
  fld h 511 480 == 0x5A505543 && fld h 479 464 == 1 && fld h 463 456 == kind && fld h 431 416 == 0 && fld h 343 336 == 0
    && fld h 303 288 == 0 && fld h 255 0 == 0

/-- Check 3 (LENGTH). -/
def lengthOk (kind : Nat) (g : Staged) : Bool :=
  (if kind = 1 then g.bodyLength == 576 + 24 * g.words + 16 * g.consts
   else decide (68 ≤ g.bodyLength ∧ g.bodyLength ≤ 655424 ∧ g.bodyLength % 4 = 0))
    && decide (g.bodyLength + 192 ≤ g.room)

/-- Check 4 (FIELD). -/
def fieldOk (kind : Nat) (g : Staged) : Bool :=
  let cls := fld g.header 447 432
  if kind = 1 then
    decide (1 ≤ g.words ∧ g.words ≤ 4096 ∧ 1 ≤ cls ∧ cls ≤ 0xFFFE ∧ g.consts ≤ 512)
      && (List.range 256).all fun i => fld (g.dispatch i) 14 12 == 0
  else cls == 0 && g.words == 0 && g.consts == 0

/-- The first failing check of a staged image as its reason (R216, R225, Table 10.6); 0 when every check passes. -/
def Device.verify (d : Device) (kind : Nat) (g : Staged) : Nat :=
  let h := g.header
  let slot := fld h 455 448
  let key := slice g.bytes g.bodyLength 96
  let sig := g.bodyLength + 96
  if !formatOk kind h then 1
  else if fld h 383 352 ≠ d.get Obj.devPartId 0 ∨ d.get Obj.devStepping 0 < fld h 351 344 then 2
  else if !lengthOk kind g then 3
  else if !fieldOk kind g then 4
  else if 1 < slot ∨ (slot = 0 ∧ bit d.img.keyPolicy 1) ∨ (slot = 1 ∧ !bit d.img.keyPolicy 0)
      ∨ sha384 key ≠ d.get Obj.ucodeKeyHash slot then 5
  else if !ecdsaValid g.digest (beAt g.bytes sig 48) (beAt g.bytes (sig + 48) 48) (beAt key 0 48) (beAt key 48 48) then 6
  else if kind = 1 ∧ !((List.range g.consts).all fun i => constantOk (g.constant i).1) then 7
  else 0

/-- The copy the Pilot takes of an image at a queue-store offset: up to its stated end, within the store (R216). -/
def Device.stageCopy (d : Device) (off : Nat) : Staged :=
  let room := queueStoreSize - off
  let len := beNat (memRead d.queueStore (off + 28) 4)
  { bytes := memRead d.queueStore off (min (max 64 (len + 192)) room), room := room }

/-! ### Staging -/

/-- StageStatus State of a slot (Table 10.5): 0 EMPTY, 1 VERIFYING, 2 VALID, 3 FAILED. -/
def Device.stageState (d : Device) (n : Nat) : Nat := d.rd Obj.ucodeStageStatus n 191 184

/-- LoadStatus State of a cluster (Table 10.7). -/
def Device.loadState (d : Device) (c : Nat) : Nat := d.rd Obj.ucodeLoadStatus c 63 56

/-- Whether a load from a slot is QUEUED or LOADING. -/
def Device.loadsFrom (d : Device) (n : Nat) : Bool := d.img.loads.any fun c => d.rd Obj.ucodeLoadStatus c 55 48 == n

/-- The value of an offset is a legal image offset (R216). -/
def stageOffsetOk (off : Nat) : Bool := off % 64 == 0 && decide (off < queueStoreSize)

/-- A write to UCODE.Stage (R216). -/
def Device.writeStage (d : Device) (n off : Nat) : Wr :=
  if !stageOffsetOk off then .error stType
  else if d.stageState n = 1 ∨ d.loadsFrom n then .error stBusy
  else .ok ({ d with img := { d.img with slots := mapPut d.img.slots n (d.stageCopy off) } }.set Obj.ucodeStageStatus n (at_ 191 184 1))

/-- PILOT.Status Running: 0 ROM, 1 bank 0, 2 bank 1. -/
def Device.running (d : Device) : Nat := d.rd Obj.pilotStatus 0 127 120

/-- A Pilot bank's state, bank 0 or 1 (Table 10.8). -/
def Device.bankState (d : Device) (b : Nat) : Nat := d.rd Obj.pilotStatus 0 (119 - 8 * b) (112 - 8 * b)

/-- A Pilot bank's state and version set. -/
def Device.setBank (d : Device) (b st ver : Nat) : Device :=
  (d.setFld Obj.pilotStatus 0 (119 - 8 * b) (112 - 8 * b) st).setFld Obj.pilotStatus 0 (63 - 32 * b) (32 - 32 * b) ver

/-- The inactive bank (R225). -/
def Device.inactive (d : Device) : Nat := if d.running = 1 then 1 else 0

/-- PILOT.Status UNCONFIRMED. -/
def Device.unconfirmed (d : Device) : Bool := bit (d.get Obj.pilotStatus 0) 95

/-- A write to PILOT.Stage (R225). -/
def Device.writePilotStage (d : Device) (off : Nat) : Wr :=
  if !stageOffsetOk off then .error stType
  else if d.unconfirmed ∨ d.bankState d.inactive = 1 ∨ d.img.switch.isSome then .error stBusy
  else .ok (({ d with img := { d.img with banks := mapPut d.img.banks d.inactive (d.stageCopy off) } }).setBank d.inactive 1 0)

/-- The end of a slot's verification (R216). -/
def Device.verifySlot (d : Device) (n : Nat) (g : Staged) : Device :=
  let h := g.header
  match d.verify 1 g with
  | 0 => d.set Obj.ucodeStageStatus n (at_ 191 184 2 + at_ 175 168 1 + at_ 167 160 (fld h 455 448) + at_ 159 144 (fld h 447 432)
      + at_ 143 128 g.words + at_ 127 96 (fld h 415 384) + at_ 63 0 (g.digest / 2 ^ 320))
  | r => d.set Obj.ucodeStageStatus n (at_ 191 184 3 + at_ 183 176 r)

/-- The end of a Pilot bank's verification (R225, Table 10.8). -/
def Device.verifyBank (d : Device) (b : Nat) (g : Staged) : Device :=
  match d.verify 2 g with
  | 0 => d.setBank b 2 (fld g.header 415 384)
  | r => (d.setBank b 3 0).setFld Obj.pilotStatus 0 103 96 r

/-- The Pilot ends the verification of stage slot 0 to 3, or of Pilot bank 0 or 1 as slots 4 and 5 (R216, R225); it does none of its work
while it is halted (R415). -/
def execStageVerifyDone (slot : Nat) (s : State) : Host.Outcome State Fault Refusal :=
  onDev (Instr.stageVerifyDone slot).wf
    (fun _ d =>
      if d.pwr.pilot ≠ .running ∨ d.sx.pilotHalted = true then d
      else if slot < 4 then
        match mapGet? d.img.slots slot with
        | some g => if d.stageState slot = 1 then d.verifySlot slot g else d
        | none => d
      else
        match mapGet? d.img.banks (slot - 4) with
        | some g => if d.bankState (slot - 4) = 1 then d.verifyBank (slot - 4) g else d
        | none => d) s

/-- One constant record applied as an 8-byte software write (R218); false when its segment is disabled. -/
def Device.applyConstant (d : Device) (ticks : Nat) (r : Nat × Nat) : Device × Bool :=
  if r.1 < 0x2000000 then (d.storeScratch (r.1 - 0x1000000) r.2, true)
  else if d.segmentOn ticks ((r.1 - 0x2000000) / 0x100000) then (d.storeCommon (r.1 - 0x2000000) r.2, true)
  else (d, false)

/-- A slot's constant records applied in order until one is refused, Applied counting them (R218). -/
def Device.applyAll (d : Device) (ticks n : Nat) : List (Nat × Nat) → Device
  | [] => d
  | r :: rs =>
    match d.applyConstant ticks r with
    | (d1, true) =>
      let d2 := d1.setFld Obj.ucodeStageStatus n 95 80 (d1.rd Obj.ucodeStageStatus n 95 80 + 1)
      Device.applyAll d2 ticks n rs
    | (d1, false) => d1

/-- A write to UCODE.ApplyConstants (R218). -/
def Device.writeApply (d : Device) (ticks n v : Nat) : Wr :=
  if v = 0 then .ok d
  else match mapGet? d.img.slots n with
    | some g =>
      if d.stageState n = 2 then
        .ok ((d.setFld Obj.ucodeStageStatus n 95 80 0).applyAll ticks n ((List.range g.consts).map g.constant))
      else .error stBusy
    | none => .error stBusy

/-- A write to UCODE.FuseOwner (R214). -/
def Device.writeFuseOwner (d : Device) (v : Nat) : Wr :=
  if bit d.img.keyPolicy 0 then .error stAccess
  else if fld v 415 32 = 0 ∨ fld v 31 1 ≠ 0 then .error stType
  else
    let policy := 1 + 2 * (v % 2)
    .ok (({ d with img := { d.img with ownerDigest := fld v 415 32, keyPolicy := policy } }.set Obj.ucodeKeyHash 1 (fld v 415 32)).set
      Obj.ucodeKeyPolicy 0 policy)

/-! ### Loading a cluster -/

/-- A write to UCODE.Load (R219). -/
def Device.writeLoad (d : Device) (c n : Nat) : Wr :=
  let active := d.get Obj.ucodeActiveClass (c / 16)
  if 3 < n then .error stType
  else if d.stageState n ≠ 2 ∨ d.img.loads.contains c then .error stBusy
  else if d.state ≠ St.awaitImage ∧ !d.clusterFenced c then .error stBusy
  else if d.state = St.awaitImage ∧ active ≠ 0 ∧ d.rd Obj.ucodeStageStatus n 159 144 ≠ active then .error stBusy
  else .ok ({ d with img := { d.img with loads := d.img.loads ++ [c] } }.set Obj.ucodeLoadStatus c (at_ 63 56 1 + at_ 55 48 n))

/-- The registers of R221; a class that comes or goes on an unfenced cluster can complete a conversion (R223). -/
def Device.setImageRegs (d : Device) (c ver hash cls : Nat) : Device :=
  (((d.set Obj.ucodeVersion c ver).set Obj.ucodeImageHash c hash).set Obj.ucodeCompatClass c cls).convertClass (c / 16)

/-- A dispatch entry: its reserved bits read zero (R6, Table 8.10). -/
def dispatchEntry (v : Nat) : Nat := putFld (v % 65536) 14 12 0

/-- The Pilot carries its own work forward: it executes, and the Sextant does not hold it halted (R13, R220, R415). -/
def Device.pilotWorks (d : Device) : Bool := d.pwr.pilot == .running && !d.sx.pilotHalted

/-- The first queued load starts (R219); loads are the Pilot's work, and wait while it is halted (R415). -/
def execImageLoadStart (s : State) : Host.Outcome State Fault Refusal :=
  onDev Instr.imageLoadStart.wf
    (fun _ d =>
      match d.img.loads with
      | [] => d
      | c :: _ =>
        if d.img.loading || !d.pilotWorks then d
        else ({ d with img := { d.img with loading := true } }.setFld Obj.ucodeLoadStatus c 63 56 2).setImageRegs c 0 0 0) s

/-- A cluster's control store written whole: the image's words, then zero words (R219). -/
def Device.writeControl (d : Device) (c : Nat) (ws : List Nat) : Device :=
  let keep := d.eng.control.filter fun kv => kv.1 / 4096 != c
  let control := ((List.range ws.length).zip ws).foldl (fun m iw => mapSet m (c * 4096 + iw.1) iw.2 0) keep
  { d with eng := { d.eng with control := control, copyBad := d.eng.copyBad.filter fun k => k / 4096 != c } }

/-- A cluster's dispatch table written from an image (R219). -/
def Device.writeDispatch (d : Device) (c : Nat) (g : Staged) : Device :=
  (List.range 256).foldl (fun d i => d.set Obj.clDispatch (c * 256 + i) (dispatchEntry (g.dispatch i))) d

/-- The load in progress ends (R219 to R221): `firstBad` and `secondBad` say that the read-back, and the read-back of its one
repeat, found a difference. The differing word is not a matter of the image and its address is free. -/
def Device.loadDone (d : Device) (failed : Bool) : Device :=
  match d.img.loads with
  | [] => d
  | c :: rest =>
    let n := d.rd Obj.ucodeLoadStatus c 55 48
    match mapGet? d.img.slots n with
    | none => d
    | some g =>
      let d1 := (d.writeControl c ((List.range g.words).map g.word)).writeDispatch c g
      let d2 := { d1 with img := { d1.img with loads := rest, loading := false } }
      let d3 := if d2.clusterFenced c then d2 else d2.setClusterPower c d2.idlePower
      if failed then
        ((d3.setImageRegs c 0 0 0).setFld Obj.ucodeLoadStatus c 63 56 4).spend.raise 3 (0x100 + c) (Config.freeValue d3.free % 4096)
      else
        let cls := fld g.header 447 432
        let d4 := (d3.setImageRegs c (fld g.header 415 384) (g.digest / 2 ^ 320) cls).setFld Obj.ucodeLoadStatus c 63 56 3
        if d4.state = St.awaitImage ∧ d4.get Obj.ucodeActiveClass (c / 16) = 0 then d4.set Obj.ucodeActiveClass (c / 16) cls else d4

/-- The load in progress ends; it goes no further while the Pilot is halted (R415). -/
def execImageLoadDone (firstBad secondBad : Bool) (s : State) : Host.Outcome State Fault Refusal :=
  onDev (Instr.imageLoadDone firstBad secondBad).wf
    (fun _ d => if d.img.loading && d.pilotWorks then d.loadDone (firstBad && secondBad) else d) s

/-- A write to UCODE.PendingClass (R223). -/
def Device.writePendingClass (d : Device) (s k : Nat) : Wr :=
  let pend := d.get Obj.ucodePendingClass s
  if k = 0xFFFF ∨ k = d.get Obj.ucodeActiveClass s then .error stType
  else if k = 0 then
    if pend ≠ 0 ∧ (d.unfenced s).any (fun c => d.get Obj.ucodeCompatClass c == pend) then .error stBusy
    else .ok (d.set Obj.ucodePendingClass s 0)
  else if (List.range 4).any (fun t => d.get Obj.ucodePendingClass t != 0) then .error stBusy
  else .ok ((d.set Obj.ucodePendingClass s k).convertClass s)

/-! ### The Pilot -/

/-- A write to PILOT.Switch (R226). -/
def Device.writeSwitch (d : Device) (v : Nat) : Wr :=
  if v = 0 then .ok d
  else if d.bankState d.inactive ≠ 2 ∨ d.img.loads ≠ [] ∨ (List.range 4).any (fun n => d.stageState n == 1)
      ∨ d.img.switch.isSome then .error stBusy
  else .ok { d with img := { d.img with switch := some (d.inactive + 1) } }

/-- A write to PILOT.Confirm (R226). -/
def Device.writeConfirm (d : Device) (v : Nat) : Wr :=
  if v = 1 ∧ d.unconfirmed then
    .ok ({ d with img := { d.img with previous := none } }.setFld Obj.pilotStatus 0 95 95 0)
  else .ok d

/-- A dump stops where one of its stores is being written (R331). -/
def stopWriting (onChip hbm : Nat) (x : Dumping) : Dumping := { x with stopped := x.stopped || onChip == 1 || hbm == 1 }

/-- What every start of a Pilot restart does (R33, R216, R220, R224, R343): BDP.Epoch advances, the records of R31 and the stage
slots are emptied, loads are ABORTED, a bank under verification becomes EMPTY, a dump being written stops (log 27), and the Pilot
side of its crossings is reset. The requests that wait in the request queue stay (DESIGN CHOICE, log 80). -/
def Device.pilotDown (d : Device) : Device :=
  let d := d.img.loads.foldl (fun d c => (d.setFld Obj.ucodeLoadStatus c 63 56 5).setImageRegs c 0 0 0) d
  let d := (List.range 4).foldl (fun d n => d.set Obj.ucodeStageStatus n 0) d
  let d := (List.range 2).foldl (fun d b =>
    if d.bankState b = 1 then ({ d with img := { d.img with banks := mapDel d.img.banks b } }).setBank b 0 0 else d) d
  let d := { d with
    img := { d.img with slots := [], loads := [], loading := false, switch := none }
    mgmt := { d.mgmt with kept := [], notifySeq := [] }
    pwr := { d.pwr with pilot := .restarting, requested := if d.pwr.requested = some 1 then none else d.pwr.requested }
    look := { d.look with dump := d.look.dump.map (stopWriting (d.rd Obj.dumpStatus 0 127 120) (d.rd Obj.dumpStatus 0 119 112)) }
    sx := { d.sx with pilotHalted := false, pilotRegs := [] } }
  (d.pilotSideReset).set Obj.bdpEpoch 0 ((d.get Obj.bdpEpoch 0 + 1) % 256)

/-- The Pilot restarts in what it was told to run: the bank of an accepted switch, else what runs already (R226). A restart that a
write ordered opens a reaction shadow (R319). -/
def Device.pilotRestart (d0 : Device) : Device :=
  let d := d0.openShadow 1
  match d.img.switch with
  | none => d.pilotDown
  | some b =>
    let old := d.running
    let d1 := d.pilotDown
    let d2 := { d1 with img := { d1.img with previous := some old } }
    (d2.setFld Obj.pilotStatus 0 127 120 b).setFld Obj.pilotStatus 0 95 95 (if old = 0 then 0 else 1)

/-- A Pilot restart that a PILOT.Switch or a DEV.Restart of kind PILOT ordered begins (R226, R374). -/
def execPilotRestart (s : State) : Host.Outcome State Fault Refusal :=
  onDev Instr.pilotRestart.wf
    (fun _ d => if d.pwr.pilot = .running ∧ (d.img.switch.isSome ∨ d.pwr.requested = some 1) then d.pilotRestart else d) s

/-- Firmware that was not confirmed in time, or did not answer, is reverted (R226, R371). -/
def Device.pilotRevert (d : Device) (old : Nat) : Device :=
  let bad := d.running - 1
  let d := d.pilotDown
  let d := { d with img := { d.img with previous := none } }
  ((((d.setBank bad 3 0).setFld Obj.pilotStatus 0 103 96 8).setFld Obj.pilotStatus 0 95 95 0)).setFld Obj.pilotStatus 0 127 120 old

/-- The reversion of a PILOT.Switch. -/
def execPilotRevert (s : State) : Host.Outcome State Fault Refusal :=
  onDev Instr.pilotRevert.wf
    (fun _ d => match d.img.previous with
      | some old => if d.running ≠ 0 then d.pilotRevert old else d
      | none => d) s

/-- The Pilot runs again after a restart; its crossings' surviving sides receive their peer-reset events (R33, R343). -/
def execPilotRestartEnd (s : State) : Host.Outcome State Fault Refusal :=
  onDev Instr.pilotRestartEnd.wf
    (fun _ d =>
      if d.pwr.pilot = .restarting then { d.pilotSideBack with pwr := { d.pilotSideBack.pwr with pilot := .running } } else d) s

end Sys2Proof.Machine
end

