-- ==== Sys2Proof/Machine/Parser.lean ====
section
/-! DEFINITION. The parser of a slice (R88 to R97, R417): from a frame to its packet class, flags and offset slots. Pure: what a
pass does with the result is in Slices.lean. -/

namespace Sys2Proof.Machine

/-- Byte `i` of a frame as a number; zero beyond its end. -/
def byteAt (f : Bytes) (i : Nat) : Nat := (f.getD i 0).toNat

/-- The header kinds of Table 5.1 that a parsing step starts at. `etherType` and `proto` stand for the choice by a type or
protocol value of the header just recorded, with the offset at which the next header begins. -/
inductive Next where
  | ethernet
  | etherType (v : Nat)
  | snap
  | mpls
  | afterBottom
  | ipv4
  | ipv6
  | proto (v : Nat) (v6 : Bool)
  | udp
  | tcp
  | icmp
  | icmp6
  | arp
  | gre
  | vxlan
  | geneve
  | ptp
  | unknown
  | finish
deriving DecidableEq, Repr

/-- What the parser has found so far: next offset, last header recorded, layer, slots, flags (Table 5.4), and the counts that
the limits of R92 apply to. -/
structure Parsed where
  off : Nat
  last : Nat
  inner : Bool
  slots : NMap Nat
  flags : Nat
  tags : Nat
  labels : Nat
  exts : Nat
  srh : Bool
  ipEnd : Nat
  outerV6 : Bool
  innerV6 : Bool
  malformed : Option Nat
  payload : Bool
deriving DecidableEq, Repr

/-- The parser before the Ethernet header. -/
def Parsed.start : Parsed :=
  { off := 0, last := 0, inner := false, slots := [(0, 0)], flags := 0, tags := 0, labels := 0, exts := 0, srh := false,
    ipEnd := 0, outerV6 := false, innerV6 := false, malformed := none, payload := true }

/-- A step's answer: go on at a header, or parsing has stopped. -/
abbrev PStep := Parsed × Option Next

/-- Parsing stops with the packet MALFORMED at a header of kind `code` (R93). -/
def pMalformed (p : Parsed) (code : Nat) : PStep := ({ p with malformed := some code }, none)

/-- Parsing stops because a header or a field it needs crosses byte 256 (R94). -/
def pDeep (p : Parsed) : PStep := ({ p with flags := putBit p.flags 15 true, payload := false }, none)

/-- Parsing stops at a header that exceeds a limit (R92); `b` is the flag's bit. -/
def pLimit (p : Parsed) (b : Nat) : PStep := ({ p with flags := putBit p.flags b true }, none)

/-- A header of kind `code` and `n` bytes is recorded in `slot` (32: none of its own), unless the frame ends inside it
(MALFORMED) or it does not end within the first 256 bytes (DEEP); then parsing goes on as `k` says. -/
def pRecord (f : Bytes) (p : Parsed) (code n slot : Nat) (k : Parsed → PStep) : PStep :=
  if p.off + n > f.length then pMalformed p code
  else if p.off + n > 256 then pDeep p
  else k { p with off := p.off + n, last := code, slots := if slot < 32 then mapPut p.slots slot p.off else p.slots }

/-- A field at byte `i` that is needed to go on: the frame ends before it (MALFORMED), it lies beyond byte 255 (DEEP), or it
can be read. -/
def pNeed (f : Bytes) (p : Parsed) (code i : Nat) (k : PStep) : PStep :=
  if i ≥ f.length then pMalformed p code else if i > 255 then pDeep p else k

/-- The one's-complement sum of the 16-bit words of a byte string. -/
def onesSum : Bytes → Nat
  | [] => 0
  | [a] => a.toNat * 256
  | a :: b :: rest => a.toNat * 256 + b.toNat + onesSum rest

/-- A sum folded to 16 bits with end-around carry. -/
def fold16 (s : Nat) : Nat := let s := s % 65536 + s / 65536; let s := s % 65536 + s / 65536; s % 65536 + s / 65536

/-- Whether an IPv4 header's checksum verifies (R93). -/
def ip4ChecksumOk (h : Bytes) : Bool := fold16 (onesSum h) == 65535

/-- The slot of the IP header and of the transport header of the present layer (Table 5.3). -/
def ipSlot (p : Parsed) : Nat := if p.inner then 23 else 13
/-- The slot of the transport header of the present layer (Table 5.3). -/
def l4Slot (p : Parsed) : Nat := if p.inner then 24 else 17

/-- Where an Ethernet type field leads (R89, R90). Slot 4 holds the last LLC header where a SNAP type field leads to a second one
(DESIGN CHOICE, log 68). -/
def pEtherType (f : Bytes) (p : Parsed) (v : Nat) : PStep :=
  if v = 0x8100 ∨ v = 0x88A8 then
    if p.inner then
      if p.tags ≥ 1 then pLimit p 13
      else pRecord f p 1 4 22 fun q => ({ q with tags := q.tags + 1 }, some (.etherType (beAt f (p.off + 2) 2)))
    else if p.tags ≥ 3 then pLimit p 13
    else pRecord f p 1 4 (p.tags + 1) fun q => ({ q with tags := q.tags + 1 }, some (.etherType (beAt f (p.off + 2) 2)))
  else if v = 0x0800 then (p, some .ipv4)
  else if v = 0x86DD then (p, some .ipv6)
  else if p.inner then (p, some .unknown)
  else if v = 0x8847 ∨ v = 0x8848 then (p, some .mpls)
  else if v = 0x0806 then (p, some .arp)
  else if v = 0x88F7 then (p, some .ptp)
  else if v ≤ 0x05DC then
    if v > f.length - p.off then pMalformed p 2
    else pRecord f p 2 3 4 fun q =>
      (q, some (if beAt f p.off 3 = 0xAAAA03 then .snap else .finish))
  else (p, some .unknown)

/-- The IPv4 header (R89, R93). -/
def pIpv4 (f : Bytes) (p : Parsed) : PStep :=
  let o := p.off
  if f.length < o + 20 then pMalformed p 5 else
  pNeed f p 5 o <|
  let ihl := byteAt f o % 16
  if byteAt f o / 16 ≠ 4 ∨ ihl < 5 then pMalformed p 5
  else if f.length < o + ihl * 4 then pMalformed p 5
  else pNeed f p 5 (o + 3) <|
  let tl := beAt f (o + 2) 2
  if tl < ihl * 4 ∨ o + tl > f.length then pMalformed p 5
  else pRecord f p 5 (ihl * 4) (ipSlot p) fun q =>
    let fragWord := beAt f (o + 6) 2
    let q := { q with ipEnd := o + tl }
    let q := if p.inner then { q with innerV6 := false } else { q with outerV6 := false }
    let q := if ip4ChecksumOk (slice f o (ihl * 4)) then q else { q with flags := putBit q.flags 10 true }
    let q := if !p.inner && byteAt f (o + 8) ≤ 1 then { q with flags := putBit q.flags 7 true } else q
    if fragWord % 8192 ≠ 0 then ({ q with flags := putBit q.flags 8 true }, some .finish)
    else
      let q := if bit fragWord 13 then { q with flags := putBit q.flags 9 true } else q
      (q, some (.proto (byteAt f (o + 9)) false))

/-- The IPv6 fixed header (R89, R93). -/
def pIpv6 (f : Bytes) (p : Parsed) : PStep :=
  let o := p.off
  if f.length < o + 40 then pMalformed p 6 else
  pNeed f p 6 o <|
  if byteAt f o / 16 ≠ 6 then pMalformed p 6
  else pNeed f p 6 (o + 5) <|
  let pl := beAt f (o + 4) 2
  if o + 40 + pl > f.length then pMalformed p 6
  else pRecord f p 6 40 (ipSlot p) fun q =>
    let q := { q with ipEnd := o + 40 + pl }
    let q := if p.inner then { q with innerV6 := true } else { q with outerV6 := true }
    let q := if !p.inner && byteAt f (o + 7) ≤ 1 then { q with flags := putBit q.flags 7 true } else q
    (q, some (.proto (byteAt f (o + 6)) true))

/-- An IPv6 extension header of protocol value `v`, outer layer only (R89 to R93). One that exceeds the limit sets its flag even where it
is malformed or cut short, and a routing header that fails before its type can be read has code 0x07 (DESIGN CHOICE, log 68). A second
SRH has code 0x07, a malformed one 0x08 (DESIGN CHOICE, log 83). -/
def pExtension (f : Bytes) (p : Parsed) (v : Nat) : PStep :=
  let o := p.off
  let asExt (code len : Nat) (k : Parsed → PStep) : PStep :=
    if p.exts ≥ 2 then pLimit p 11
    else pRecord f p code len (14 + p.exts) fun q => k { q with exts := q.exts + 1 }
  if v = 44 then
    asExt 7 8 fun q =>
      let w := beAt f (o + 2) 2
      if w / 8 ≠ 0 then ({ q with flags := putBit q.flags 8 true }, some .finish)
      else
        let q := if bit w 0 then { q with flags := putBit q.flags 9 true } else q
        (q, some (.proto (byteAt f o) true))
  else if v = 43 then
    let known := decide (o + 2 < f.length ∧ o ≤ 253)
    let srh := known && byteAt f (o + 2) == 4
    let code := if srh then 8 else 7
    if p.exts ≥ 2 ∧ (p.srh = true ∨ known = true ∧ srh = false) then pLimit p 11
    else if f.length < o + 8 then pMalformed p code
    else pNeed f p code (o + 1) <|
    let len := (byteAt f (o + 1) + 1) * 8
    if f.length < o + len then pMalformed p code
    else pNeed f p 7 (o + 2) <|
    if byteAt f (o + 2) = 4 then
      if p.srh then
        if p.exts ≥ 2 then pLimit p 11
        else pNeed f p 8 (o + 4) <|
          if byteAt f (o + 1) < 2 * (byteAt f (o + 4) + 1) then pMalformed p 8
          else asExt 7 len fun q => (q, some (.proto (byteAt f o) true))
      else
        pNeed f p 8 (o + 4) <|
        if byteAt f (o + 1) < 2 * (byteAt f (o + 4) + 1) then pMalformed p 8
        else pRecord f p 8 len 16 fun q => ({ q with srh := true }, some (.proto (byteAt f o) true))
    else asExt 7 len fun q => (q, some (.proto (byteAt f o) true))
  else
    if p.exts ≥ 2 then pLimit p 11
    else if f.length < o + 8 then pMalformed p 7
    else pNeed f p 7 (o + 1) <|
      asExt 7 ((byteAt f (o + 1) + 1) * 8) fun q => (q, some (.proto (byteAt f o) true))

/-- Where a protocol or next-header value leads (R89, R90). -/
def pProto (f : Bytes) (p : Parsed) (v : Nat) (v6 : Bool) : PStep :=
  if v = 6 then (p, some .tcp)
  else if v = 17 then (p, some .udp)
  else if v = 1 ∧ v6 = false then (p, some .icmp)
  else if v = 58 ∧ v6 = true then (p, some .icmp6)
  else if v = 59 then (p, some .finish)
  else if p.inner then (p, some .unknown)
  else if v = 47 then (p, some .gre)
  else if v6 = true ∧ (v = 0 ∨ v = 43 ∨ v = 44 ∨ v = 60) then pExtension f p v
  else (p, some .unknown)

/-- A tunnel header has been recorded: TUNNEL is set and what follows is the inner layer (R90), or the unknown header after a VXLAN header
with I = 0 or a GRE or GENEVE header of another version (R89; that the header itself is recorded is a DESIGN CHOICE, log 83). -/
def pTunnel (p : Parsed) (next : Next) : PStep :=
  match next with
  | .unknown => ({ p with flags := putBit p.flags 5 true }, some .unknown)
  | n => ({ p with flags := putBit p.flags 5 true, inner := true, tags := 0 }, some n)

/-- Where the protocol type of a GRE or GENEVE header leads (R89). -/
def tunnelNext (v : Nat) : Next :=
  if v = 0x0800 then .ipv4 else if v = 0x86DD then .ipv6 else if v = 0x6558 then .ethernet else .unknown

/-- One step of the parser (R89). -/
def pStep (f : Bytes) (p : Parsed) (n : Next) : PStep :=
  let o := p.off
  match n with
  | .ethernet => pRecord f p 0 14 (if p.inner then 21 else 0) fun q => (q, some (.etherType (beAt f (o + 12) 2)))
  | .etherType v => pEtherType f p v
  | .snap => pRecord f p 3 5 32 fun q =>
      if beAt f o 3 = 0 then (q, some (.etherType (beAt f (o + 3) 2))) else (q, some .finish)
  | .mpls =>
      if p.labels ≥ 8 then pLimit p 12
      else pRecord f p 4 4 (5 + p.labels) fun q =>
        let q := { q with labels := q.labels + 1 }
        (q, some (if bit (byteAt f (o + 2)) 0 then .afterBottom else .mpls))
  | .afterBottom =>
      if o ≥ f.length then (p, some .finish)
      else if o > 255 then pDeep p
      else if byteAt f o / 16 = 4 then (p, some .ipv4)
      else if byteAt f o / 16 = 6 then (p, some .ipv6)
      else (p, some .unknown)
  | .ipv4 => pIpv4 f p
  | .ipv6 => pIpv6 f p
  | .proto v v6 => pProto f p v v6
  | .udp =>
      if f.length < o + 8 then pMalformed p 9
      else pNeed f p 9 (o + 5) <|
      let len := beAt f (o + 4) 2
      if len < 8 ∨ o + len > p.ipEnd then pMalformed p 9
      else pRecord f p 9 8 (l4Slot p) fun q =>
        let port := beAt f (o + 2) 2
        (q, some (if p.inner then .finish
          else if port = 4789 then .vxlan else if port = 6081 then .geneve
          else if port = 319 ∨ port = 320 then .ptp else .finish))
  | .tcp =>
      if f.length < o + 20 then pMalformed p 10
      else pNeed f p 10 (o + 12) <|
      let d := byteAt f (o + 12) / 16
      if d < 5 then pMalformed p 10
      else pRecord f p 10 (d * 4) (l4Slot p) fun q => (q, some .finish)
  | .icmp => pRecord f p 11 8 (l4Slot p) fun q => (q, some .finish)
  | .icmp6 => pRecord f p 12 8 (l4Slot p) fun q => (q, some .finish)
  | .arp =>
      if f.length < o + 8 then pMalformed p 13 else
      pNeed f p 13 (o + 5) <|
      pRecord f p 13 (8 + 2 * (byteAt f (o + 4) + byteAt f (o + 5))) 18 fun q => (q, some .finish)
  | .gre =>
      if f.length < o + 4 then pMalformed p 14 else
      pNeed f p 14 o <|
      let w := beAt f o 2
      let len := 4 + 4 * b2n (bit w 15) + 4 * b2n (bit w 13) + 4 * b2n (bit w 12)
      pRecord f p 14 len 19 fun q =>
        pTunnel q (if w % 8 ≠ 0 then .unknown else tunnelNext (beAt f (o + 2) 2))
  | .vxlan => pRecord f p 15 8 20 fun q => pTunnel q (if bit (byteAt f o) 3 then .ethernet else .unknown)
  | .geneve =>
      if f.length < o + 8 then pMalformed p 16 else
      pNeed f p 16 o <|
      let b := byteAt f o
      pRecord f p 16 (8 + b % 64 * 4) 20 fun q =>
        pTunnel q (if b / 64 ≠ 0 then .unknown else tunnelNext (beAt f (o + 2) 2))
  | .ptp => pRecord f p 17 34 25 fun q => ({ q with flags := putBit q.flags 4 true }, some .finish)
  | .unknown => ({ p with flags := putBit p.flags 14 true }, none)
  | .finish => (p, none)

/-- The parser run from a header, at most `n` steps. -/
def pRun (f : Bytes) : Nat → Parsed → Next → Parsed
  | 0, p, _ => p
  | n + 1, p, h =>
    match pStep f p h with
    | (q, none) => q
    | (q, some h') => pRun f n q h'

/-- What a pass's parse gives: class (R97), flags with the pass's RECIRC and INJECTED bits (Table 5.4), and slots. -/
structure ParseOut where
  cls : Nat
  flags : Nat
  slots : NMap Nat
deriving DecidableEq, Repr

/-- Parse a frame (R88 to R97, R417). After a limit of R92 slot 26 holds the start of the header that exceeds it, and L3_V6 of a MALFORMED
packet tells the IP version of the layer the parser was in (DESIGN CHOICE, log 68). At most 40 headers and choices stand in the first 256
bytes that the limits let by; the bound of 128 steps is never reached. -/
def parseFrame (f : Bytes) (recirc injected : Bool) : ParseOut :=
  let p := pRun f 128 Parsed.start .ethernet
  let layer := match p.malformed with
    | some _ => 3
    | none => if p.inner then 1 else 0
  let code := p.malformed.getD p.last
  -- the last recorded header of a packet that stopped right after a tunnel header lies in the outer layer
  let lastInner := p.inner && !(p.last == 14 || p.last == 15 || p.last == 16)
  let layer := if layer = 1 && !lastInner then 0 else layer
  let v6 := if (if layer = 3 then p.inner else lastInner) then p.innerV6 else p.outerV6
  let fl := putBit p.flags 6 v6
  let fl := putBit fl 3 (bit (byteAt f 0) 0)
  let fl := putBit fl 2 (beAt f 0 6 == 0xFFFFFFFFFFFF)
  let fl := putBit (putBit fl 1 recirc) 0 injected
  let slots := if p.payload && p.off < 256 then mapPut p.slots 26 p.off else p.slots
  { cls := layer * 64 + code, flags := fl, slots := slots }

/-- CRC-32C of a byte string (R103), reflected, bit by bit. -/
def crc32cByte (c : Nat) : Nat → Nat
  | 0 => c
  | n + 1 => crc32cByte (if c % 2 = 1 then (c / 2) ^^^ 0x82F63B78 else c / 2) n

/-- CRC-32C (R103). -/
def crc32c (bs : Bytes) : Nat :=
  (bs.foldl (fun c b => crc32cByte (c ^^^ b.toNat) 8) 0xFFFFFFFF) ^^^ 0xFFFFFFFF

/-- Toeplitz hash of a byte string under a 320-bit key (R104). -/
def toeplitz (key : Nat) (bs : Bytes) : Nat :=
  (List.range (8 * bs.length)).foldl
    (fun h i => if bit (byteAt bs (i / 8)) (7 - i % 8) then h ^^^ (key / 2 ^ (288 - i) % 2 ^ 32) else h) 0

/-- The incremental checksum update of RFC 1624 for one 16-bit word changed from `m` to `m'`. -/
def rfc1624 (hc m m' : Nat) : Nat :=
  65535 - fold16 ((65535 - hc % 65536) + (65535 - m % 65536) + m' % 65536)

/-- The update of a 16-bit checksum for the words of a byte string changed from `old` to `new`, both starting at an even place
of the checksummed data. -/
def rfc1624All (hc : Nat) : Bytes → Bytes → Nat
  | a :: b :: old, a' :: b' :: new =>
    rfc1624All (rfc1624 hc (a.toNat * 256 + b.toNat) (a'.toNat * 256 + b'.toNat)) old new
  | _, _ => hc

/-- The 64-byte parser output of Table 5.2 as a number. -/
def parserOutput (o : ParseOut) (steer ecmp lag profile len bucket : Nat) : Nat :=
  let valid := o.slots.foldl (fun v s => v + 2 ^ s.1) 0
  let offs := o.slots.foldl (fun v s => v + s.2 % 256 * 2 ^ (448 - 8 * s.1)) 0
  at_ 511 504 o.cls + at_ 503 488 o.flags + at_ 487 456 valid + offs
    + at_ 199 168 steer + at_ 167 136 ecmp + at_ 135 104 lag + at_ 103 98 profile + at_ 95 80 len + at_ 79 68 bucket

end Sys2Proof.Machine
end

