-- ==== Sys2Proof/Machine/Buffer.lean ====
section
/-! DEFINITION. The shared buffer (chapter 11): cells, pools, admission, ECN marking, pairs, and the Separator. -/

namespace Sys2Proof.Machine

/-! ### Cells -/

/-- Whether a cell address names an HBM cell, and the stack and cell it names (R227). -/
def cellHbm (a : Nat) : Bool := decide (2 ^ 27 ≤ a)
def cellStack (a : Nat) : Nat := a / 2 ^ 25 % 4
def cellIndex (a : Nat) : Nat := a % 2 ^ 25

/-- The address of HBM cell `k` of a stack. -/
def hbmCell (s k : Nat) : Nat := 2 ^ 27 + s * 2 ^ 25 + k

/-- Cells of the on-chip buffer, of a stack, and of an on-chip segment (R227). -/
def onChipCells : Nat := 786432
def stackCells : Nat := 22020096
def segmentCells : Nat := 16384

/-- BUF.SegmentState of an on-chip cell's segment is ACTIVE (R247). -/
def Device.segmentActive (d : Device) (k : Nat) : Bool := d.get Obj.bufSegmentState (k / segmentCells) == 0

/-- PcStatus State of pseudo-channel `k` of a stack (Table 12.5): 0 ACTIVE, 1 RETIRING, 2 RETIRED. -/
def Device.pcState (d : Device) (s k : Nat) : Nat := d.rd Obj.hbmPcStatus (32 * s + k) 63 56

/-- An on-chip cell that cannot be allocated: its bit is set or its segment is withheld (R245, R247). -/
def Device.onChipUsed (d : Device) (k : Nat) : Bool := setHas d.buf.cells k || !d.segmentActive k

/-- An HBM cell that cannot be allocated (R245, R268). -/
def Device.hbmUsed (d : Device) (s k : Nat) : Bool := setHas d.buf.cells (hbmCell s k) || d.pcState s (k % 32) != 0

/-- BUF.Status AvailableCells (Table 11.10). -/
def Device.availableCells (d : Device) : Nat := d.rd Obj.bufStatus 0 383 320

/-- Cells on the on-chip free list (Table 11.10). -/
def Device.onChipFree (d : Device) : Nat :=
  d.availableCells - (d.buf.cells.filter fun a => decide (a < onChipCells) && d.segmentActive a).length

/-- Cells of a stack in pseudo-channels that are ACTIVE and not allocated. -/
def Device.hbmFree (d : Device) (s : Nat) : Nat :=
  688128 * ((List.range 32).filter fun k => d.pcState s k == 0).length
    - (d.buf.cells.filter fun a => cellHbm a && cellStack a == s && d.pcState s (cellIndex a % 32) == 0).length

/-- Allocated HBM cells of a stack: SEP.Stack VatInUse (Table 11.8). -/
def Device.vatInUse (d : Device) (s : Nat) : Nat := (d.buf.cells.filter fun a => cellHbm a && cellStack a == s).length

/-- BUF.Status OnChipFree brought up to date. -/
def Device.freeGauge (d : Device) : Device := d.setFld Obj.bufStatus 0 319 256 d.onChipFree

/-- A cell's allocation bit set. -/
def Device.markCell (d : Device) (a : Nat) : Device := { d with buf := { d.buf with cells := setAdd d.buf.cells a } }

/-- `n` on-chip cells allocated, which ones being free (R245, log 8). -/
def Device.takeOnChip (d : Device) : Nat → List Nat × Device
  | 0 => ([], d)
  | n + 1 =>
    match nextFree d.onChipUsed onChipCells onChipCells (Config.freeValue d.free) with
    | none => ([], d)
    | some k =>
      let r := Device.takeOnChip (d.spend.markCell k) n
      (k :: r.1, r.2)

/-- `n` HBM cells of a stack allocated, which ones being free. -/
def Device.takeHbm (d : Device) (s : Nat) : Nat → List Nat × Device
  | 0 => ([], d)
  | n + 1 =>
    match nextFree (d.hbmUsed s) stackCells stackCells (Config.freeValue d.free) with
    | none => ([], d)
    | some k =>
      let r := Device.takeHbm (d.spend.markCell (hbmCell s k)) s n
      (hbmCell s k :: r.1, r.2)

/-- Cells `bytes` take, of a cell size (R229). -/
def cellsFor (bytes size : Nat) : Nat := ceilDiv bytes size

/-- A link word (Table 11.2): END, or the next cell's address. -/
def linkWord : Option Nat → Nat
  | none => 2 ^ 31
  | some a => a

/-- The link words of a chain written, each in its two copies (R228, R229). -/
def Device.writeLinks (d : Device) : List Nat → Device
  | [] => d
  | a :: rest =>
    let w := linkWord rest.head?
    Device.writeLinks { d with buf := { d.buf with links := mapPut d.buf.links a (w, w) } } rest

/-- The cells of a chain found from its head through the link words, at most `n` of them; a good copy of a word is the word. -/
def Device.chainFrom (d : Device) (head : Nat) : Nat → List Nat
  | 0 => []
  | n + 1 =>
    match mapGet? d.buf.links head with
    | some (w, _) => if bit w 31 then [head] else head :: Device.chainFrom d (w % 2 ^ 28) n
    | none => [head]

/-- Units of a chain (R230). -/
def cellUnits (cells : List Nat) : Nat := cells.foldl (fun u a => u + if cellHbm a then 4 else 1) 0

/-! ### Queues -/

/-- The punt path's queue number (R418). -/
def puntPath : Nat := 262144

/-- A queue's entries, oldest first. -/
def Device.queue (d : Device) (q : Nat) : List QEntry := mapGet d.buf.queues q []

/-- A queue's entries set. -/
def Device.setQueue (d : Device) (q : Nat) (es : List QEntry) : Device :=
  { d with buf := { d.buf with queues := mapSet d.buf.queues q es [] } }

/-- The depth Q of a queue in units (R230). -/
def Device.depth (d : Device) (q : Nat) : Nat := ((d.queue q).map fun e => cellUnits e.cells).sum

/-- The class whose BUF.ClassAdmit applies to a queue: q mod 8, and 0 on the punt path (R231, R418). -/
def queueClass (q : Nat) : Nat := if q = puntPath then 0 else q % 8

/-- The pool of forwarded packets of a queue (R233). -/
def Device.queuePool (d : Device) (q : Nat) : Nat :=
  if q = puntPath then d.get Obj.engPuntPool 0 else d.get Obj.bufClassPool (q % 8)

/-- The pool a queue stands in: that of the packet it was last offered and still holds, or else that of the packets forwarded to it
(R233, R242, log 38). -/
def Device.heldPool (d : Device) (q : Nat) : Nat :=
  match (d.queue q).getLast? with
  | some e => e.pool
  | none => d.queuePool q

/-! ### Pools -/

/-- Fields of BUF.PoolConfig (Table 11.4). -/
def Device.poolSize (d : Device) (p : Nat) : Nat := d.rd Obj.bufPoolConfig p 127 108
def Device.poolHeadroom (d : Device) (p : Nat) : Nat := d.rd Obj.bufPoolConfig p 107 88
def Device.poolVatSize (d : Device) (p : Nat) : Nat := d.rd Obj.bufPoolConfig p 79 53

/-- Gauges of BUF.PoolStatus (Table 11.6). -/
def Device.inUse (d : Device) (p : Nat) : Nat := d.rd Obj.bufPoolStatus p 127 108
def Device.headroomInUse (d : Device) (p : Nat) : Nat := d.rd Obj.bufPoolStatus p 107 88
def Device.poolVat (d : Device) (p : Nat) : Nat := d.rd Obj.bufPoolStatus p 87 61

/-- The free units F of a pool (chapter 11, Admission). -/
def Device.freeUnits (d : Device) (p : Nat) : Nat :=
  let f : Int := (d.poolSize p : Int) - d.poolHeadroom p - d.inUse p
    + (if p < 12 then 4 * ((d.poolVatSize p : Int) - d.poolVat p) else 0)
  f.toNat

/-- The BUF.ClassAdmit element of a queue's offers from a pool: on the punt path it is ENG.PuntPool's, whatever pool the cells come from
(R231, R418). -/
def Device.admitElement (d : Device) (p q : Nat) : Nat :=
  (if q = puntPath then d.get Obj.engPuntPool 0 else p) * 8 + queueClass q

/-- The threshold T of a queue in a pool. -/
def Device.threshold (d : Device) (p q : Nat) : Nat :=
  d.freeUnits p * 2 ^ d.rd Obj.bufClassAdmit (d.admitElement p q) 31 28 / 64

/-- The threshold of a colour, 0b11 read as red. -/
def Device.colourThreshold (d : Device) (p q colour : Nat) : Nat :=
  let a := d.admitElement p q
  let t := d.threshold p q
  if colour = 0 then t else if colour = 1 then t / 2 ^ d.rd Obj.bufClassAdmit a 27 25 else t / 2 ^ d.rd Obj.bufClassAdmit a 24 22

/-- Whether on-chip allocation of one cell would fail: PoolStatus EMPTY (R234). -/
def Device.poolEmpty (d : Device) (p : Nat) : Bool :=
  decide (d.poolSize p - d.poolHeadroom p < d.inUse p + d.headroomInUse p + 1) || d.onChipFree == 0

/-! ### Closure of queues and pairs (R235, R238) -/

/-- The key of a queue's closure in a pool. -/
def closeKey (p q : Nat) : Nat := p * 2 ^ 19 + q

/-- Whether a queue is closed in a pool (R235). An empty queue is closed exactly while T is 0: it closes at Q ≥ T and, the part of T that
ReopenShift takes off being less than T, it reopens at any other T. -/
def Device.closed (d : Device) (p q : Nat) : Bool :=
  if d.depth q = 0 then d.threshold p q == 0 else setHas d.buf.closed (closeKey p q)

/-- The closure of one queue re-evaluated (R235). -/
def Device.recloseOne (d : Device) (p q : Nat) : Device :=
  let t := d.threshold p q
  let u := d.depth q
  let now :=
    if d.closed p q then decide (t - t / 2 ^ d.rd Obj.bufPoolConfig p 85 83 ≤ u) else decide (t ≤ u)
  { d with buf := { d.buf with closed := setTo d.buf.closed (closeKey p q) now } }

/-- A pair whose closure was told in an XOFF has reopened: its resumption is due (R79). Of one that was told in none, since no frame could start
while it was closed, neither an XOFF nor a resumption is sent (DESIGN CHOICE, log 87). -/
def Device.pairReopened (d : Device) (k : Nat) : Device :=
  if setHas d.ports.xoff k then
    { d with ports := { d.ports with xoff := setDel d.ports.xoff k, reopened := setAdd d.ports.reopened k } }
  else d

/-- The pairs all of whose listed queues have reopened are open again (R238). -/
def Device.reopenPairs (d : Device) : Device :=
  d.buf.closers.foldl (fun d kv =>
    if kv.2.any fun k => setHas d.buf.closed k then d
    else
      let d1 := { d with buf := { d.buf with closers := mapDel d.buf.closers kv.1 } }
      (d1.setFld Obj.bufPairState (kv.1 / 8) (kv.1 % 8) (kv.1 % 8) 0).pairReopened kv.1) d

/-- The queues of a pool whose closure an admission to or a dequeue from the pool re-evaluates: those closed in it, and those with
packets that forward through it. -/
def Device.poolQueues (d : Device) (p : Nat) : List Nat :=
  (d.buf.closed.filter fun k => k / 2 ^ 19 == p).map (· % 2 ^ 19)
    ++ (d.buf.queues.map Prod.fst).filter fun q => d.heldPool q == p

/-- Every queue of a pool re-evaluated (R235). -/
def Device.reclose (d : Device) (p : Nat) : Device := ((d.poolQueues p).foldl (fun d q => d.recloseOne p q) d).reopenPairs

/-- A queue whose depth has fallen is re-evaluated in every pool it is closed in (R235). -/
def Device.recloseQueue (d : Device) (q : Nat) : Device :=
  (((d.buf.closed.filter fun k => k % 2 ^ 19 == q).map (· / 2 ^ 19)).foldl (fun d p => d.recloseOne p q) d).reopenPairs

/-- A pair closed by a queue it met closed: the queue joins its closer list of at most 8 (R238). -/
def Device.closePair (d : Device) (port p q : Nat) : Device :=
  let k := port * 8 + queueClass q
  let l := mapGet d.buf.closers k []
  let l' := if l.contains (closeKey p q) ∨ 8 ≤ l.length then l else l ++ [closeKey p q]
  ({ d with buf := { d.buf with closers := mapPut d.buf.closers k l' } }).setFld Obj.bufPairState port (queueClass q) (queueClass q) 1

/-- Whether a pair is lossless (R236). -/
def Device.lossless (d : Device) (port cls : Nat) : Bool :=
  let pause := d.rd Obj.portConfig port 111 104
  pause == 1 || (pause == 2 && bit (d.rd Obj.portConfig port 103 96) cls)

/-! ### Spill tokens and stacks (R243, R244) -/

/-- SEP.Stack State (Table 11.8): 0 OPEN, 1 CLOSING, 2 CLOSED. -/
def Device.sepState (d : Device) (s : Nat) : Nat := d.rd Obj.sepStack s 127 120

/-- SEP.Stack Budget in Mb/s: also 1/10,000 byte per tick of 0.8 ns. -/
def Device.budget (d : Device) (s : Nat) : Nat := d.rd Obj.sepStack s 95 64

/-- The cap of a stack's token bucket, in 1/10,000 byte: 64 KiB. -/
def tokenCap : Nat := 655360000

/-- A stack's spill tokens now. -/
def Device.tokensNow (d : Device) (c : Clk) (s : Nat) : Nat :=
  match mapGet? d.buf.tokens s with
  | none => tokenCap
  | some (t, at') => min tokenCap (t + d.budget s * (c.ticks - at'))

/-- A stack's tokens brought to this instant. -/
def Device.setTokens (d : Device) (c : Clk) (s t : Nat) : Device :=
  { d with buf := { d.buf with tokens := mapPut d.buf.tokens s (t, c.ticks) } }

/-- A stack's Budget follows its State and refresh (R243). -/
def Device.setBudget (d : Device) (c : Clk) (s : Nat) : Device :=
  let d1 := d.setTokens c s (d.tokensNow c s)
  d1.setFld Obj.sepStack s 95 64
    (if d.sepState s ≠ 0 then 0 else if bit (d.get Obj.sepStack s) 119 then 3000000 else 3500000)

/-- A stack that qualifies for `n` HBM cells (R234). -/
def Device.qualifies (d : Device) (c : Clk) (s n : Nat) : Bool :=
  d.sepState s == 0 && decide (n ≤ d.hbmFree s) && decide (n * 10240000 ≤ d.tokensNow c s)

/-- The qualifying stack with the most tokens, the lowest-numbered among equals (R234 step 3). -/
def Device.richest (d : Device) (c : Clk) (n : Nat) : Option Nat :=
  (List.range 4).foldl (fun best s =>
    if d.qualifies c s n then
      match best with
      | some b => if d.tokensNow c b < d.tokensNow c s then some s else best
      | none => some s
    else best) none

/-- The stack steps 2 and 3 of R234 choose for a pool. -/
def Device.poolStack (d : Device) (c : Clk) (p n : Nat) : Option Nat :=
  let v := d.rd Obj.bufPoolConfig p 87 86
  if d.qualifies c v n then some v else d.richest c n

/-- The stack a packet's HBM cells come from (R234): its queue's assigned stack first. -/
def Device.chooseStack (d : Device) (c : Clk) (p q n : Nat) : Option Nat :=
  match mapGet? d.buf.steered q with
  | some s => if d.qualifies c s n then some s else d.poolStack c p n
  | none => d.poolStack c p n

/-- Vat allocation of `n` cells for a pool and queue; the failure says whether the spill budget was its cause (R234, R237). -/
def Device.vatAlloc (d : Device) (c : Clk) (p q n : Nat) : Except Bool (List Nat × Device) :=
  if 12 ≤ p ∨ d.poolVatSize p < d.poolVat p + n then .error false
  else match d.chooseStack c p q n with
    | none => .error ((List.range 4).any fun s => d.sepState s == 0 && decide (n ≤ d.hbmFree s))
    | some s =>
      let t := d.tokensNow c s
      let r := (d.setTokens c s (t - n * 10240000)).takeHbm s n
      let w := (mapGet d.buf.vatWrites s []).filter fun x => decide (c.ticks < x.1 + 1250)
      .ok (r.1, { r.2 with buf := { r.2.buf with vatWrites := mapPut d.buf.vatWrites s ((c.ticks, 1024 * n) :: w) } })

/-! ### ECN marking (R239) -/

/-- The offset of the first IP header after the Ethernet header and at most two tags, and whether it is IPv6. -/
def ipHeaderAt (b : Bytes) (o : Nat) : Nat → Option (Nat × Bool)
  | 0 => none
  | tags + 1 =>
    let t := beAt b o 2
    if t = 0x0800 then (if o + 22 ≤ b.length then some (o + 2, false) else none)
    else if t = 0x86DD then (if o + 42 ≤ b.length then some (o + 2, true) else none)
    else if t = 0x8100 ∨ t = 0x88A8 then ipHeaderAt b (o + 4) tags
    else none

/-- A packet examined for marking: the packet, and whether it counts as marked. -/
def ecnMark (b : Bytes) : Bytes × Bool :=
  match ipHeaderAt b 12 3 with
  | none => (b, false)
  | some (o, v6) =>
    let x := byteAt b (o + 1)
    let ecn := if v6 then x / 16 % 4 else x % 4
    if ecn = 0 then (b, false)
    else if ecn = 3 then (b, true)
    else
      let x' := if v6 then x - x / 16 % 4 * 16 + 48 else x - x % 4 + 3
      let b1 := overwrite b (o + 1) (natBe 1 x')
      if v6 then (b1, true)
      else (overwrite b1 (o + 10) (natBe 2 (rfc1624 (beAt b (o + 10) 2) (beAt b o 2) (beAt b1 o 2))), true)

/-! ### The Separator (R242, R243) -/

/-- The sum of byte counts of the last 4 µs in a list of them. -/
def recentBytes (ticks : Nat) (xs : List (Nat × Nat)) : Nat :=
  ((xs.filter fun x => decide (ticks < x.1 + 5000)).map Prod.snd).sum

/-- A queue's residence in ns; none when it is unbounded. -/
def Device.residenceOf (d : Device) (c : Clk) (q : Nat) : Option Nat :=
  let u := d.depth q
  let out := recentBytes c.ticks (mapGet d.buf.departs q [])
  if u = 0 then some 0 else if out = 0 then none else some (u * 256 * 4000 / out)

/-- A residence as SEP.QueueState shows it. -/
def residenceShown : Option Nat → Nat
  | none => 0xFFFFFFFF
  | some r => min r 0xFFFFFFFE

/-- A queue's arrival rate in Mb/s over the last 4 µs. -/
def Device.arrivalRate (d : Device) (c : Clk) (q : Nat) : Nat := 2 * recentBytes c.ticks (mapGet d.buf.arrivals q [])

/-- The summed arrival rate of steered queues, and 90 % of the summed Budget of OPEN stacks, both times 10. -/
def Device.steeredRate10 (d : Device) (c : Clk) : Nat := 10 * (d.buf.steered.map fun kv => d.arrivalRate c kv.1).sum
def Device.budgetLimit10 (d : Device) : Nat := 9 * ((List.range 4).map fun s => if d.sepState s = 0 then d.budget s else 0).sum

/-- A queue returned to on-chip placement. -/
def Device.unsteer (d : Device) (q : Nat) : Device := { d with buf := { d.buf with steered := mapDel d.buf.steered q } }

/-- One residence is smaller than another; an unbounded one is smaller than none. -/
def lessResidence : Option Nat → Option Nat → Bool
  | some a, some b => decide (a < b)
  | some _, none => true
  | none, _ => false

/-- The steered queue with the smallest residence. -/
def Device.smallestSteered (d : Device) (c : Clk) : Option Nat :=
  d.buf.steered.foldl (fun best kv =>
    match best with
    | none => some kv.1
    | some b => if lessResidence (d.residenceOf c kv.1) (d.residenceOf c b) then some kv.1 else some b) none

/-- Steered queues returned, smallest residence first, while their arrivals exceed 90 % of the budget (R243). -/
def Device.relieve (d : Device) (c : Clk) : Nat → Device
  | 0 => d
  | n + 1 =>
    if d.steeredRate10 c ≤ d.budgetLimit10 then d
    else match d.smallestSteered c with
      | some q => Device.relieve (d.unsteer q) c n
      | none => d

/-- The Separator evaluates a queue (R242). -/
def Device.separate (d : Device) (c : Clk) (q : Nat) : Device :=
  let r := d.residenceOf c q
  let shown := residenceShown r
  let d := { d with buf := { d.buf with residence := mapSet d.buf.residence q shown 0 } }
  let cfg := d.get Obj.sepConfig 0
  let p := d.heldPool q
  let d :=
    if (mapGet? d.buf.steered q).isSome then (if shown < fld cfg 63 32 then d.unsteer q else d)
    else if q ≠ puntPath ∧ bit cfg 127 ∧ fld cfg 95 64 < shown ∧ p < 12 ∧ 0 < d.poolVatSize p
        ∧ d.steeredRate10 c + 10 * d.arrivalRate c q ≤ d.budgetLimit10 then
      match d.poolStack c p 1 with
      | some s => { d with buf := { d.buf with steered := mapPut d.buf.steered q s } }
      | none => d
    else d
  d.relieve c d.buf.steered.length

/-- The Separator evaluates a queue's residence. -/
def execSeparatorEvaluate (queue : Nat) (s : State) : Host.Outcome State Fault Refusal :=
  onDev (Instr.separatorEvaluate queue).wf (fun c d => if d.forwarding then d.separate c queue else d) s

/-- A stack's closure starts (Table 11.12, t0): its steered queues are reassigned or returned on chip. -/
def Device.closeStack (d : Device) (c : Clk) (s : Nat) : Device :=
  let d := (d.setFld Obj.sepStack s 127 120 (if d.sepState s = 2 then 2 else 1)).setBudget c s
  (d.buf.steered.filter fun kv => kv.2 == s).foldl (fun d kv =>
    match d.poolStack c (d.heldPool kv.1) 1 with
    | some t => { d with buf := { d.buf with steered := mapPut d.buf.steered kv.1 t } }
    | none => d.unsteer kv.1) d

/-- A stack's reopening (Table 11.12, t5). -/
def Device.openStack (d : Device) (c : Clk) (s : Nat) : Device := (d.setFld Obj.sepStack s 127 120 0).setBudget c s

/-- A closing stack whose last cell has been freed is CLOSED (Table 11.12, t3). -/
def execStackClosed (stack : Nat) (s : State) : Host.Outcome State Fault Refusal :=
  onDev (Instr.stackClosed stack).wf
    (fun _ d => if d.sepState stack = 1 ∧ d.vatInUse stack = 0 then d.setFld Obj.sepStack stack 127 120 2 else d) s

/-! ### Segments (R247) -/

/-- A buffer segment fenced. -/
def Device.retireSegment (d : Device) (g : Nat) : Device :=
  if d.get Obj.bufSegmentState g ≠ 0 then d
  else ((d.set Obj.bufSegmentState g 1).setFld Obj.bufStatus 0 383 320 (d.availableCells - segmentCells)).freeGauge

/-- A buffer segment returned to service. -/
def Device.returnSegment (d : Device) (g : Nat) : Device :=
  if d.get Obj.bufSegmentState g = 0 then d
  else ((d.set Obj.bufSegmentState g 0).setFld Obj.bufStatus 0 383 320 (d.availableCells + segmentCells)).freeGauge

/-- A RETIRING segment none of whose cells is in use is RETIRED (R247). -/
def execBufferSegmentRetired (segment : Nat) (s : State) : Host.Outcome State Fault Refusal :=
  onDev (Instr.bufferSegmentRetired segment).wf
    (fun _ d =>
      if d.get Obj.bufSegmentState segment = 1 ∧ !(d.buf.cells.any fun a => decide (a < onChipCells) && a / segmentCells == segment)
      then d.set Obj.bufSegmentState segment 2 else d) s

/-! ### Admission (R237) -/

/-- What is offered to admission: the queue, the pool its cells come from, the ingress port a discard is counted at, whether it is a
mirror copy, a punt or an inject, its packet record and the packet as assembled. -/
structure Offer where
  queue : Nat
  pool : Nat
  port : Option Nat
  copy : Bool
  punt : Bool
  inject : Bool
  record : Nat
  packet : Bytes

/-- Whether an offered packet is of a lossless pair (R236). -/
def Device.offerLossless (d : Device) (o : Offer) : Bool :=
  match o.port with
  | some port => !o.copy && !o.punt && !o.inject && d.lossless port (queueClass o.queue)
  | none => false

/-- A field of BUF.PoolCounters advanced (Table 11.9), field 0 the most significant. -/
def Device.poolCount (d : Device) (p k : Nat) : Device := d.bump Obj.bufPoolCounters p 11 k 1

/-- Fields of BUF.PoolCounters. -/
abbrev pcAdmitted : Nat := 0
abbrev pcSteered : Nat := 1
abbrev pcFellBack : Nat := 2
abbrev pcCongestion : Nat := 3
abbrev pcBudget : Nat := 4
abbrev pcLadle : Nat := 5
abbrev pcHeadroom : Nat := 6
abbrev pcExceeded : Nat := 7
abbrev pcEcnMarked : Nat := 8
abbrev pcEcnNotEct : Nat := 9
abbrev pcInject : Nat := 10

/-- A lossy discard counted (R237). -/
def Device.lossyDiscard (d : Device) (o : Offer) (k : Nat) : Device :=
  let d := d.poolCount o.pool k
  let d := if o.inject then d.poolCount o.pool pcInject else d
  match o.port with
  | some port => if o.copy || o.punt then d else d.tally Obj.bufPortDiscard (port * 8 + queueClass o.queue) 1
  | none => d

/-- A pool gauge advanced by a signed count; it never falls below zero. -/
def Device.gauge (d : Device) (p msb lsb : Nat) (n : Int) : Device :=
  d.setFld Obj.bufPoolStatus p msb lsb ((d.rd Obj.bufPoolStatus p msb lsb : Int) + n).toNat

/-- On-chip and HBM cells of a chain. -/
def onChipIn (cells : List Nat) : Nat := (cells.filter fun a => !cellHbm a).length
def hbmIn (cells : List Nat) : Nat := (cells.filter cellHbm).length

/-- The packet put in its queue in its cells (R229, R230, R239). -/
def Device.enqueue (d : Device) (c : Clk) (o : Offer) (cells : List Nat) (headroom : Bool) : Device :=
  let a := d.admitElement o.pool o.queue
  let t := d.threshold o.pool o.queue
  let mark := !headroom && bit (d.get Obj.bufClassAdmit a) 18 && bit o.record 300
    && decide (t / 2 ^ d.rd Obj.bufClassAdmit a 21 19 ≤ d.depth o.queue)
  let m := ecnMark o.packet
  let d := if mark then d.poolCount o.pool (if m.2 then pcEcnMarked else pcEcnNotEct) else d
  let d := d.poolCount o.pool pcAdmitted
  let d := if headroom then (d.poolCount o.pool pcHeadroom).gauge o.pool 107 88 (onChipIn cells)
    else d.gauge o.pool 127 108 (onChipIn cells)
  let d := d.gauge o.pool 87 61 (hbmIn cells)
  let e : QEntry := { cells := cells, pool := o.pool, headroom := headroom, port := o.port, copy := o.copy, record := o.record,
                      packet := if mark then m.1 else o.packet }
  let d := (d.setQueue o.queue (d.queue o.queue ++ [e])).writeLinks cells
  let arr := (mapGet d.buf.arrivals o.queue []).filter fun x => decide (c.ticks < x.1 + 5000)
  let d := { d with buf := { d.buf with arrivals := mapPut d.buf.arrivals o.queue ((c.ticks, o.packet.length) :: arr) } }
  ((d.freeGauge.recloseOne o.pool o.queue).reclose o.pool).separate c o.queue

/-- A headroom admission, on-chip cells only (R234, R237). -/
def Device.headroomAdmit (d : Device) (c : Clk) (o : Offer) : Device × Bool :=
  let n := cellsFor o.packet.length 256
  if d.headroomInUse o.pool + n ≤ d.poolHeadroom o.pool ∧ n ≤ d.onChipFree then
    let r := d.takeOnChip n
    (r.2.enqueue c o r.1 true, true)
  else
    ((d.poolCount o.pool pcExceeded).raise 0x0E (0xA00 + o.port.getD 0) (queueClass o.queue), false)

/-- The failure case of R237. -/
def Device.admitFailed (d : Device) (c : Clk) (o : Offer) (budget : Bool) : Device × Bool :=
  if d.offerLossless o then d.headroomAdmit c o
  else (d.lossyDiscard o (if budget then pcBudget else pcCongestion), false)

/-- On-chip cells a normal admission can still take (R234). -/
def Device.onChipRoom (d : Device) (p : Nat) : Nat :=
  min (d.poolSize p - d.poolHeadroom p - (d.inUse p + d.headroomInUse p)) d.onChipFree

/-- The on-chip step and the fall-back to the Vat (R237). -/
def Device.admitOnChip (d : Device) (c : Clk) (o : Offer) : Device × Bool :=
  let len := o.packet.length
  let n := cellsFor len 256
  let room := d.onChipRoom o.pool
  if n ≤ room then
    let r := d.takeOnChip n
    (r.2.enqueue c o r.1 false, true)
  else if o.pool < 12 then
    match d.vatAlloc c o.pool o.queue (cellsFor (len - 256 * room) 1024) with
    | .error budget => d.admitFailed c o budget
    | .ok (hs, d1) =>
      let r := d1.takeOnChip room
      ((r.2.poolCount o.pool pcFellBack).enqueue c o (r.1 ++ hs) false, true)
  else (d.lossyDiscard o pcLadle, false)

/-- Admission of an offered packet (R237); true when it is admitted. A packet of a Ladle pool has no Vat cells to try, whatever its queue's
steering (R242). A restart that has begun stops admission (Table 18.4, t1). -/
def Device.takeOffer (d : Device) (c : Clk) (o : Offer) : Device × Bool :=
  if d.pwr.hold ≠ .none then (d, false) else
  let d := (d.reclose o.pool).recloseOne o.pool o.queue
  let closed := d.closed o.pool o.queue
  if d.offerLossless o && closed then (d.closePair (o.port.getD 0) o.pool o.queue).headroomAdmit c o
  else if !d.offerLossless o && (closed || decide (d.colourThreshold o.pool o.queue (fld o.record 299 298) ≤ d.depth o.queue)) then
    (d.lossyDiscard o pcCongestion, false)
  else if (mapGet? d.buf.steered o.queue).isSome && decide (o.pool < 12) then
    match d.vatAlloc c o.pool o.queue (cellsFor o.packet.length 1024) with
    | .ok (hs, d1) => ((d1.poolCount o.pool pcSteered).enqueue c o hs false, true)
    | .error _ => (d.unsteer o.queue).admitOnChip c o
  else d.admitOnChip c o

/-! ### Leaving the buffer -/

/-- One cell freed; a cell whose bit is clear is rejected (R245). -/
def Device.freeCell (d : Device) (a : Nat) : Device :=
  if setHas d.buf.cells a then
    { d with buf := { d.buf with cells := setDel d.buf.cells a, links := mapDel d.buf.links a, lostReads := setDel d.buf.lostReads a } }
  else (d.count Obj.bufStatus 0 255 192 1).raise 0x0C 3 0

/-- Cells of an entry freed, and its pool's gauges with them (R230). -/
def Device.freeEntry (d : Device) (e : QEntry) (cells : List Nat) : Device :=
  let d := cells.foldl Device.freeCell d
  let d := if e.headroom then d.gauge e.pool 107 88 (-(onChipIn cells : Int)) else d.gauge e.pool 127 108 (-(onChipIn cells : Int))
  ((d.gauge e.pool 87 61 (-(hbmIn cells : Int))).freeGauge).reclose e.pool

/-- An entry leaves its queue: Q falls and the thresholds of its pool are re-evaluated (R230, R235). -/
def Device.dequeue (d : Device) (c : Clk) (q : Nat) (e : QEntry) : Device :=
  let d := d.setQueue q ((d.queue q).drop 1)
  let out := (mapGet d.buf.departs q []).filter fun x => decide (c.ticks < x.1 + 5000)
  let d := { d with buf := { d.buf with departs := mapPut d.buf.departs q ((c.ticks, e.packet.length) :: out) } }
  let d := ((d.recloseOne e.pool q).reclose e.pool).recloseQueue q
  if (d.queue q).isEmpty then d.separate c q else d

/-! ### Chart writes and views -/

/-- Vat cells not retired (R232, R268): those of ACTIVE pseudo-channels. -/
def Device.vatCells (d : Device) : Nat :=
  688128 * ((List.range 128).filter fun pc => d.pcState (pc / 32) (pc % 32) == 0).length

/-- A write of BUF.PoolConfig (R232). -/
def Device.writePoolConfig (d : Device) (p v : Nat) : Wr :=
  let size := fld v 127 108
  let vat := fld v 79 53
  let others := (List.range 16).filter (· != p)
  if onChipCells < size ∨ size < fld v 107 88 ∨ fld v 85 83 = 0 ∨ 88080384 < vat ∨ (12 ≤ p ∧ vat ≠ 0) then .error stType
  else if d.availableCells < size + (others.map d.poolSize).sum ∨ d.vatCells < vat + (others.map d.poolVatSize).sum then .error stType
  else .ok (d.set Obj.bufPoolConfig p (putFld (putFld v 82 80 0) 52 0 0))

/-- A write of BUF.ClassAdmit (Table 11.5). -/
def Device.writeClassAdmit (d : Device) (e v : Nat) : Wr :=
  if 10 < fld v 31 28 then .error stType else .ok (d.set Obj.bufClassAdmit e (putFld v 17 0 0))

/-- A write of BUF.ClassPool. -/
def Device.writeClassPool (d : Device) (e v : Nat) : Wr := if 15 < v then .error stType else .ok (d.set Obj.bufClassPool e v)

/-- A write of SEP.Config (Table 11.7); with EN 0 no queue is steered. -/
def Device.writeSepConfig (d : Device) (v : Nat) : Wr :=
  let after := fld v 95 64
  let below := fld v 63 32
  if after < 1000 ∨ 1000000 < after ∨ below < 500 ∨ after ≤ below then .error stType
  else
    let d := d.set Obj.sepConfig 0 (at_ 127 127 (v / 2 ^ 127) + at_ 95 64 after + at_ 63 32 below)
    .ok (if bit v 127 then d else { d with buf := { d.buf with steered := [] } })

/-- A write of SEP.QueueSelect. -/
def Device.writeQueueSelect (d : Device) (v : Nat) : Wr := if 262143 < v then .error stType else .ok (d.set Obj.sepQueueSelect 0 v)

/-- SEP.QueueState of the selected queue (Table 11.11). -/
def Device.viewQueueState (d : Device) : Nat :=
  let q := d.get Obj.sepQueueSelect 0
  let st := mapGet? d.buf.steered q
  at_ 127 127 (b2n st.isSome) + at_ 126 126 (b2n (d.closed (d.heldPool q) q)) + at_ 125 124 (st.getD 0) + at_ 95 64 (d.depth q)
    + at_ 63 32 (((d.queue q).map fun e => 4 * hbmIn e.cells).sum) + at_ 31 0 (mapGet d.buf.residence q 0)

/-- BUF.PoolStatus with its FreeUnits and EMPTY (Table 11.6). -/
def Device.viewPoolStatus (d : Device) (p : Nat) : Nat :=
  putBit (putFld (d.get Obj.bufPoolStatus p) 60 32 (d.freeUnits p)) 31 (d.poolEmpty p)

/-- SEP.Stack with its WriteRate and VatInUse (Table 11.8). -/
def Device.viewSepStack (d : Device) (c : Clk) (s : Nat) : Nat :=
  let w := (((mapGet d.buf.vatWrites s []).filter fun x => decide (c.ticks < x.1 + 1250)).map Prod.snd).sum
  putFld (putFld (d.get Obj.sepStack s) 63 32 (8 * w)) 26 0 (d.vatInUse s)

end Sys2Proof.Machine
end

