-- ==== Sys2Proof/Machine/Hbm.lean ====
section
/-! DEFINITION. The HBM stacks (chapter 12): training, margins, refresh, parking and retraining, the churn log and replay, errors and
fences. The two copies of a pair's table region are one store here; the churn bits, the copies that wait to be healed and the poison say
where they differ or are lost (log 14). -/

namespace Sys2Proof.Machine

/-- The sister of a stack, and its pair (R250). -/
def sister (s : Nat) : Nat := (s + 2) % 4
def pairOf (s : Nat) : Nat := s % 2

/-- StackStatus State (Table 12.4): 0 TRAINING, 1 ACTIVE, 2 DRAINING, 3 PARKING, 4 PARKED, 5 RETRAINING, 6 WAKING, 7 REPLAYING,
8 FENCED. -/
def Device.stackState (d : Device) (s : Nat) : Nat := d.rd Obj.hbmStackStatus s 255 248

/-- A stack's State set, with the time of the change. -/
def Device.setStack (d : Device) (c : Clk) (s v : Nat) : Device :=
  (d.setFld Obj.hbmStackStatus s 79 0 c.time80).setFld Obj.hbmStackStatus s 255 248 v

/-- LastOutcome set. -/
def Device.setOutcome (d : Device) (s v : Nat) : Device := d.setFld Obj.hbmStackStatus s 247 240 v

/-- A field of HBM.Counters advanced (Table 12.6): 0 Refreshes, 1 RefreshBatches, 2 RefreshCatchUp, 3 Corrected, 4 Uncorrectable,
5 BlocksHealed, 6 BlocksLost, 7 Parks, 8 ParksAbandoned, 9 BlocksReplayed. -/
def Device.hbmCount (d : Device) (s k n : Nat) : Device := d.bump Obj.hbmCounters s 10 k n

/-- FencedPcs follows the pseudo-channels' states. -/
def Device.refreshFencedPcs (d : Device) (s : Nat) : Device :=
  d.setFld Obj.hbmStackStatus s 191 160 ((List.range 32).foldl (fun v k => if d.pcState s k = 0 then v else v + 2 ^ k) 0)

/-- A task of a stack set or ended. -/
def Device.setTask (d : Device) (s : Nat) (t : Option StackTask) : Device :=
  { d with hbm := { d.hbm with task := match t with | some x => mapPut d.hbm.task s x | none => mapDel d.hbm.task s } }

/-- Whether every pseudo-channel of a stack is ACTIVE. -/
def Device.allPcs (d : Device) (s : Nat) : Bool := (List.range 32).all fun k => d.pcState s k == 0

/-- MinMargin: the least margin over the ACTIVE pseudo-channels (Table 12.4). -/
def Device.minMargin (d : Device) (s : Nat) : Nat :=
  (List.range 32).foldl (fun m k =>
    if d.pcState s k = 0 then min m (min (d.rd Obj.hbmPcStatus (32 * s + k) 55 48) (d.rd Obj.hbmPcStatus (32 * s + k) 47 40)) else m) 255

/-- MinMargin follows the pseudo-channels' states and margins. -/
def Device.refreshMinMargin (d : Device) (s : Nat) : Device := d.setFld Obj.hbmStackStatus s 207 192 (d.minMargin s)

/-- A pseudo-channel's state set. -/
def Device.setPc (d : Device) (s k v : Nat) : Device :=
  ((d.setFld Obj.hbmPcStatus (32 * s + k) 63 56 v).refreshFencedPcs s).refreshMinMargin s

/-- The least of a figure over byte lanes, as an 8-bit field shows it. -/
def leastOf (f : LaneTrim → Nat) (ls : List LaneTrim) : Nat := ls.foldl (fun m l => min m (f l)) 255

/-- A pseudo-channel's delays and margins held, and its PcStatus margins with them (R252, Table 12.5). -/
def Device.setLaneTrims (d : Device) (pc : Nat) (ls : List LaneTrim) : Device :=
  let d := { d with hbm := { d.hbm with lanes := mapPut d.hbm.lanes pc ls } }
  (d.setFld Obj.hbmPcStatus pc 55 48 (leastOf LaneTrim.readMargin ls)).setFld Obj.hbmPcStatus pc 47 40 (leastOf LaneTrim.writeMargin ls)

/-- The delays and margins of a stack's pseudo-channels set, and MinMargin with them. -/
def Device.setTrims (d : Device) (s : Nat) (xs : List (List LaneTrim)) : Device :=
  (((List.range 32).zip xs).foldl (fun d x => d.setLaneTrims (32 * s + x.1) x.2) d).refreshMinMargin s

/-! ### The table region -/

/-- The pseudo-channel of a block of segment 0 (R249). -/
def blockPc (b : Nat) : Nat := b / 16 % 32

/-- A block of the churn log that a stack keeps for its sister, which is not mirrored (Table 12.1, R250). -/
def logBlock (b : Nat) : Bool := decide (0x38000000 ≤ b * 64 ∧ b * 64 < 0x39000000)

/-- Whether a block has been written in a non-reserved range of Table 12.1 (R266): all below the reserved range are cleared at start-up
(R367), and the dump region's are those a dump has covered. -/
def Device.blockWritten (d : Device) (s b : Nat) : Bool :=
  let off := b * 64 - 0x40000000 + s % 2 * 0x20000000
  decide (b * 64 < 0x39000000)
    || (decide (0x40000000 ≤ b * 64 ∧ b * 64 < 0x60000000) && d.hbm.dumpSpans.any fun x => decide (x.1 < off + 64 ∧ off < x.1 + x.2))

/-- Blocks of the table region (R128, R359, Table 12.1): of a flow slot, of a flex counter, of a queue-region offset, and of a dump
offset; each with its pair. -/
def flowBlock (i : Nat) : Nat × Nat := (i % 2, i / 2)
def flexBlock (n : Nat) : Nat × Nat := (n % 2, 0x400000 + n / 2 / 4)
def queueBlock (off : Nat) : Nat × Nat := (off / 0x8000000, 0xC00000 + off % 0x8000000 / 64)
def dumpBlock (off : Nat) : Nat × Nat := (off / 0x20000000, 0x1000000 + off % 0x20000000 / 64)

/-- The key of a block in a pair, and of a churn bit of a stack. -/
def blockKey (p b : Nat) : Nat := p * 2 ^ 26 + b

/-- Whether a stack takes a table write to a block itself (R251, R260, R263). -/
def Device.takesWrite (d : Device) (s b : Nat) : Bool :=
  let st := d.stackState s
  ((st == 1 || st == 2 || st == 3) && d.pcState s (blockPc b) == 0) || (st == 7 && decide (b < mapGet d.hbm.cursor s 0))

/-- Whether a stack's copy of a block can serve a read: it is ACTIVE, the pseudo-channel is, and the copy is good (R251). -/
def Device.copyServes (d : Device) (s b : Nat) : Bool :=
  d.stackState s == 1 && d.pcState s (blockPc b) == 0 && !setHas d.hbm.waitHeal (blockKey s b)

/-- Whether some copy of a block of a pair can serve a read. -/
def Device.blockServed (d : Device) (pb : Nat × Nat) : Bool := d.copyServes pb.1 pb.2 || d.copyServes (pb.1 + 2) pb.2

/-- The two candidate slots of a key. -/
def flowSlots (key : Nat) : Nat × Nat :=
  let h1 := crc32c (natBe 40 key) % 2 ^ 23
  let h2 := crc32c (natBe 1 0x5A ++ natBe 40 key) % 2 ^ 23
  (h1, if h2 = h1 then h1 ^^^ 1 else h2)

/-- The table blocks that a lookup of a flow key reads. -/
def keyReads (key : Nat) (pb : Nat × Nat) : Bool := pb == flowBlock (flowSlots key).1 || pb == flowBlock (flowSlots key).2

/-! ### The request queues (R251, R342, R346) -/

/-- The pseudo-channel of a request of a stack (R249). -/
def requestChannel : HbmRequest → Nat
  | .tableRead b => blockPc b
  | .tableWrite b => blockPc b
  | .vatRead k => k % 32
  | .commandParity pc => pc

/-- A lookup that is still in HBM. -/
def Lookup.sent (l : Lookup) : Bool := l.table == 9 && l.answer.isNone

/-- Where a flow lookup in HBM waits: with a packet that no context has, in a slot of a context, or by itself once its pass has ended. -/
inductive FlowPlace where
  | packet (id : Nat)
  | slot (context slot : Nat)
  | orphan (slice place : Nat)
deriving DecidableEq, Repr

/-- A flow lookup's request: where its lookup waits, its key, and the stack it was sent to. -/
structure FlowRequest where
  place : FlowPlace
  key : Nat
  stack : Nat
deriving DecidableEq, Repr

/-- The flow lookups sent to HBM and without result, whose requests no reset has lost (R168, R171). -/
def Device.flowsInHbm (d : Device) : List FlowRequest :=
  (d.sl.flights.filterMap fun f => match f.flowKey, f.flowLost with
      | some key, none => some { place := .packet f.id, key := key, stack := f.flowStack }
      | _, _ => none)
    ++ (d.eng.ctx.map fun kv =>
        (kv.2.lookups.filter fun l => l.2.sent && l.2.lost.isNone).map fun l =>
          { place := .slot kv.1 l.1, key := l.2.key, stack := l.2.stack : FlowRequest }).flatten
    ++ (d.sl.orphans.map fun kv =>
        (kv.2.zipIdx.filter fun o => o.1.lost.isNone).map fun o =>
          { place := .orphan kv.1 o.2, key := o.1.key, stack := o.1.stack : FlowRequest }).flatten

/-- The block of a flow lookup's first request, that of slot h1, with its pair. -/
def FlowRequest.block (x : FlowRequest) : Nat × Nat := flowBlock (flowSlots x.key).1

/-- The stack at which a request for a block stands: the one it was sent to, or its sister where that serves the block no more. -/
def Device.standsAt (d : Device) (stack b : Nat) : Nat := if d.copyServes stack b then stack else sister stack

/-- The first requests of a list, as far as the 64 places of each pseudo-channel's request FIFO reach; the distributor holds the others
(Table 16.7). -/
def requestFifo (block : α → Nat) : NMap Nat → List α → List α
  | _, [] => []
  | used, x :: xs =>
    let n := mapGet used (blockPc (block x)) 0
    if 64 ≤ n then requestFifo block used xs else x :: requestFifo block (mapPut used (blockPc (block x)) (n + 1)) xs

/-- The flow lookups in the request FIFOs of a stack. -/
def Device.flowFifo (d : Device) (s : Nat) : List FlowRequest :=
  requestFifo (fun x => x.block.2) [] (d.flowsInHbm.filter fun x => d.standsAt x.stack x.block.2 == s)

/-- The pseudo-channels of the requests in a stack's request FIFOs: of its flow lookups, and of the other requests without response (log
31). -/
def Device.hbmQueue (d : Device) (s : Nat) : List Nat :=
  let flows := d.flowFifo s
  let isFlow : HbmRequest → Bool
    | .tableRead b => flows.any fun x => x.block.2 == b
    | _ => false
  flows.map (fun x => blockPc x.block.2) ++ ((d.hbm.unanswered.filter fun x => x.1 == s && !isFlow x.2).map fun x => requestChannel x.2)

/-- The length of a pseudo-channel's request queue. -/
def Device.queueLength (d : Device) (s pc : Nat) : Nat := ((d.hbmQueue s).filter (· == pc)).length

/-- The stack that serves a read of a block: of two that can, the one whose pseudo-channel has the shorter request queue, and the
lower-numbered one among equals (R251). -/
def Device.servingStack (d : Device) (pb : Nat × Nat) : Nat :=
  if d.copyServes pb.1 pb.2 = false then pb.1 + 2
  else if d.copyServes (pb.1 + 2) pb.2 = true ∧ d.queueLength (pb.1 + 2) (blockPc pb.2) < d.queueLength pb.1 (blockPc pb.2) then pb.1 + 2
  else pb.1

/-- The stack that a flow lookup's request is sent to. -/
def Device.sentTo (d : Device) (key : Nat) : Nat := d.servingStack (flowBlock (flowSlots key).1)

/-- The crossings of the stacks that serve reads of blocks of the table region; no access is made of one that no copy serves. -/
def Device.blockCrossings (d : Device) (pbs : List (Nat × Nat)) : List Nat :=
  ((pbs.filter d.blockServed).map fun pb => 2 + d.servingStack pb).eraseDups

/-- The stacks of a pair that take a write of a block themselves (R251, R260, R263). -/
def Device.writingStacks (d : Device) (pb : Nat × Nat) : List Nat := [pb.1, pb.1 + 2].filter fun s => d.takesWrite s pb.2

/-- The crossings of the stacks that writes of blocks of the table region go to. -/
def Device.writeCrossings (d : Device) (pbs : List (Nat × Nat)) : List Nat :=
  ((pbs.map d.writingStacks).flatten.map (2 + ·)).eraseDups

/-- The key of a block in the poison: a block of the churn log, which is not mirrored, is one stack's own (R250, R267). -/
def poisonKey (s b : Nat) : Nat := blockKey (if logBlock b then s else pairOf s) b

/-- Whether a block is poisoned (R267). -/
def Device.poisoned (d : Device) (pb : Nat × Nat) : Bool := setHas d.hbm.poison (blockKey pb.1 pb.2)

/-- A block that no copy can serve, or which is poisoned (R128, R251, R267). -/
def Device.blockBad (d : Device) (pb : Nat × Nat) : Bool := d.poisoned pb || !d.blockServed pb

/-- A write of a whole block makes its copies good: its poison is cleared, and TABLE_LOSS is present while a poisoned block remains
(R267). -/
def Device.unpoison (d : Device) (pb : Nat × Nat) : Device :=
  let ps := setDel d.hbm.poison (blockKey pb.1 pb.2)
  let ws := setDel (setDel d.hbm.waitHeal (blockKey pb.1 pb.2)) (blockKey (pb.1 + 2) pb.2)
  ({ d with hbm := { d.hbm with poison := ps, waitHeal := ws } }).setCondition 0x14 0 !ps.isEmpty

/-- A block poisoned: BlocksLost counts it and TABLE_LOSS is raised (R267). -/
def Device.poisonBlock (d : Device) (s b : Nat) : Device :=
  let d := { d with hbm := { d.hbm with
    poison := setAdd d.hbm.poison (poisonKey s b)
    waitHeal := setDel (setDel d.hbm.waitHeal (blockKey s b)) (blockKey (sister s) b) } }
  ((d.hbmCount s 6 1).setCondition 0x14 0 true).raise 0x14 0 (pairOf s)

/-- The churn bit of a block of a stack set in both copies of the log, or cleared in both (R262, R263). -/
def Device.setChurn (d : Device) (s b : Nat) (on : Bool) : Device :=
  { d with hbm := { d.hbm with churn := setTo d.hbm.churn (blockKey s b) on, churnB := setTo d.hbm.churnB (blockKey s b) on } }

/-- A bit set in only one readable copy is treated as set (R262). -/
def Device.churnSet (d : Device) (s b : Nat) : Bool := setHas d.hbm.churn (blockKey s b) || setHas d.hbm.churnB (blockKey s b)

/-- A table-region write of a block (R251, R262): a stack of the pair that does not take it has its churn bit set. A write of a part of a
block whose only served copy fails, while its good copy is out of service, leaves no good copy: the block is poisoned (R267, log 70). -/
def Device.tableWrite (d : Device) (pb : Nat × Nat) : Device :=
  let mark (d : Device) (s : Nat) : Device := if d.takesWrite s pb.2 then d else d.setChurn s pb.2 true
  let lose (d : Device) (s : Nat) : Device := if setHas d.hbm.waitHeal (blockKey s pb.2) then d.poisonBlock s pb.2 else d
  lose (lose (mark (mark d pb.1) (pb.1 + 2)) pb.1) (pb.1 + 2)

/-- A write of a whole block. -/
def Device.wholeWrite (d : Device) (pb : Nat × Nat) : Device := (d.unpoison pb).tableWrite pb

/-- The blocks whose churn bits are set for a stack: DirtyBlocks counts them. -/
def Device.dirty (d : Device) (s : Nat) : List Nat :=
  ((d.hbm.churnB.foldl setAdd d.hbm.churn).filter fun k => k / 2 ^ 26 == s).map (· % 2 ^ 26)

/-- A wake of a PARKED stack started by the device (R264). -/
def Device.autoWake (d : Device) (c : Clk) (s : Nat) : Device :=
  if d.stackState s = 4 then (d.setTask s (some .autoWake)).setStack c s 6 else d

/-- Copies of a stack that wait to be healed, as blocks. -/
def Device.waiting (d : Device) (s : Nat) : List Nat := (d.hbm.waitHeal.filter fun k => k / 2 ^ 26 == s).map (· % 2 ^ 26)

/-- Pseudo-channels `ks` of a stack leave service: what only they held is lost and poisoned, the sister's copies being stale or waiting
for them (R264); their own waiting copies are instead recorded in the churn log, since the sister's are good. -/
def Device.loseCopies (d : Device) (s : Nat) (ks : List Nat) : Device :=
  let mine (bs : List Nat) : List Nat := bs.filter fun b => ks.contains (blockPc b)
  let d := (mine (d.dirty (sister s))).foldl (fun d b => d.poisonBlock s b) d
  let d := (mine (d.waiting (sister s))).foldl (fun d b => d.poisonBlock s b) d
  (mine (d.waiting s)).foldl (fun d b =>
    let d := d.setChurn s b true
    { d with hbm := { d.hbm with waitHeal := setDel d.hbm.waitHeal (blockKey s b) } }) d

/-- A pseudo-channel fenced: RETIRING, its sister woken if parked (R264, R268). -/
def Device.retirePc (d : Device) (c : Clk) (pc : Nat) : Device :=
  let s := pc / 32
  let d := { d with hbm := { d.hbm with fencedPcs := setAdd d.hbm.fencedPcs pc, back := setDel d.hbm.back pc,
                                        returning := setDel d.hbm.returning pc } }
  if d.pcState s (pc % 32) ≠ 0 then d
  else ((d.loseCopies s [pc % 32]).setPc s (pc % 32) 1).autoWake c (sister s)

/-- The ticks of a pseudo-channel's uncorrectable errors of the last 1,000 ms, with one now (R268). -/
def Device.errorTicks (d : Device) (c : Clk) (pc : Nat) : List Nat := c.ticks :: (mapGet d.hbm.errors pc []).filter (recentTick c)

/-- An uncorrectable error of a pseudo-channel counted and reported (R265, R267). -/
def Device.reportPc (d : Device) (pc : Nat) : Device :=
  ((d.hbmCount (pc / 32) 4 1).count Obj.hbmPcStatus pc 31 0 1).raise 0x12 (0x880 + pc) 0

/-- The pseudo-channel reported when its errors within 1,000 ms reach PcErrorLimit (R268). -/
def Device.reportLimit (d : Device) (pc errors : Nat) : Device :=
  if d.rd Obj.hbmConfig 0 95 88 ≤ errors then d.raise 0x13 (0x880 + pc) 0 else d

/-- An uncorrectable error of a pseudo-channel (R265, R267, R268). -/
def Device.pcError (d : Device) (c : Clk) (pc : Nat) : Device :=
  (Device.reportPc { d with hbm := { d.hbm with errors := mapPut d.hbm.errors pc (d.errorTicks c pc) } } pc).reportLimit pc
    (d.errorTicks c pc).length

/-- The read of a Vat cell has failed before its frame has ended (R265, R342): a frame in transmission ends with an inverted FCS and counts
in Stomped, and one that still waits will (R246). -/
def Device.vatReadLost (d : Device) (a : Nat) : Device :=
  match d.tm.transmit.find? fun kv => kv.2.entry.cells.contains a with
  | some (p, x) =>
    let d := if x.good then d.count Obj.bufStatus 0 127 64 1 else d
    { d with tm := { d.tm with transmit := mapPut d.tm.transmit p { x with good := false } } }
  | none =>
    if setHas d.buf.cells a then { d with buf := { d.buf with lostReads := setAdd d.buf.lostReads a } } else d

/-- The flow lookups that a fenced stack leaves without response, those among them whose requests a block reset of its crossing has lost, are
reissued to the sister (R342, R344). -/
def Device.reissueFlows (d : Device) (s : Nat) : Device :=
  let back (l : Option Nat) : Option Nat := if l = some s then none else l
  let go (t : Nat) : Nat := if t = s then sister s else t
  { d with
    sl := { d.sl with
      flights := d.sl.flights.map fun f => { f with flowLost := back f.flowLost, flowStack := go f.flowStack }
      orphans := d.sl.orphans.map fun kv => (kv.1, kv.2.map fun o => { o with lost := back o.lost, stack := go o.stack }) }
    eng := { d.eng with
      ctx := d.eng.ctx.map fun kv => (kv.1, { kv.2 with
        lookups := kv.2.lookups.map fun l => (l.1, { l.2 with lost := back l.2.lost, stack := go l.2.stack }) }) } }

/-- A request without response of a stack that is fenced (R342): a table read is reissued to the sister, which serves every later read; a
table write sets its churn bit; a Vat cell read is an uncorrectable error. -/
def Device.settleRequest (d : Device) (c : Clk) (s : Nat) : HbmRequest → Device
  | .tableRead _ => d
  | .tableWrite b => d.setChurn s b true
  | .vatRead k => (d.pcError c (32 * s + k % 32)).vatReadLost (hbmCell s k)
  | .commandParity _ => d

/-- The unanswered requests of a stack as it is fenced (R342). -/
def Device.settleUnanswered (d : Device) (c : Clk) (s : Nat) : Device :=
  let mine := (d.hbm.unanswered ++ d.hbm.discarded).filter fun x => x.1 == s
  let d := { d with hbm := { d.hbm with unanswered := d.hbm.unanswered.filter fun x => x.1 != s
                                        discarded := d.hbm.discarded.filter fun x => x.1 != s } }
  mine.foldl (fun d x => d.settleRequest c s x.2) (d.reissueFlows s)

/-- A stack fenced (R269, R342). -/
def Device.fenceStack (d : Device) (c : Clk) (s : Nat) : Device :=
  if d.stackState s = 8 then d
  else
    let d := d.loseCopies s (List.range 32)
    let d := (List.range 32).foldl (fun d k => if d.pcState s k = 0 then d.setPc s k 1 else d) d
    let d := { d with hbm := { d.hbm with back := d.hbm.back.filter (fun pc => pc / 32 != s),
                                          returning := d.hbm.returning.filter fun pc => pc / 32 != s } }
    ((((d.setTask s none).closeStack c s).autoWake c (sister s)).setStack c s 8).settleUnanswered c s

/-- A fenced stack returned: it retrains (R269). -/
def Device.unfenceStack (d : Device) (c : Clk) (s : Nat) : Device :=
  let d := { d with hbm := { d.hbm with
    back := (List.range 32).foldl (fun xs k => setAdd xs (32 * s + k)) d.hbm.back
    fencedPcs := d.hbm.fencedPcs.filter fun pc => pc / 32 != s } }
  (d.setTask s (some .retrain)).setStack c s 5

/-- A pseudo-channel returned at its stack's next retrain (R269). -/
def Device.unfencePc (d : Device) (pc : Nat) : Device :=
  { d with hbm := { d.hbm with back := setAdd d.hbm.back pc } }

/-! ### Training -/

/-- The margin in ps of a window: half its width, a step being 1/64 of the unit interval of a pin at 9.6 Gb/s (R252, Table 1.9). A part
of a picosecond is dropped (DESIGN CHOICE, log 71). -/
def windowMargin (steps : Nat) : Nat := steps * 625 / 768

/-- The delay at the centre of a window, in 1/128 unit interval. -/
def windowCentre (first steps : Nat) : Nat := 2 * first + steps - 1

/-- The delays and margins that a lane's windows give (R252). -/
def laneTrim (w : LaneWindow) : LaneTrim :=
  { readDelay := windowCentre w.readFirst w.readSteps, writeDelay := windowCentre w.writeFirst w.writeSteps,
    readMargin := windowMargin w.readSteps, writeMargin := windowMargin w.writeSteps }

/-- The first byte lane of a pseudo-channel with a window narrower than 8 steps (R252). -/
def narrowLane (ls : List LaneWindow) : Option Nat := (findFrom (fun w : LaneWindow => decide (min w.readSteps w.writeSteps < 8)) 0 ls).map Prod.fst

/-- The outcome of a sweep (R252): every delay is set to its window's centre; failing pseudo-channels are reported, or the whole stack,
which is then FENCED. True when the stack passed. -/
def Device.sweepResult (d : Device) (c : Clk) (s : Nat) (sweep : List (List LaneWindow)) : Device × Bool :=
  let d := d.setTrims s (sweep.map fun ls => ls.map laneTrim)
  let d := { d with hbm := { d.hbm with low := setDel d.hbm.low s, watch := setDel d.hbm.watch s } }
  let bad := ((List.range 32).zip sweep).filterMap fun x => (narrowLane x.2).map fun l => (x.1, l)
  if 8 ≤ bad.length then
    let d := d.raise 0x10 (0x900 + s) ((bad.head?.map Prod.snd).getD 0)
    ((d.fenceStack c s).setOutcome s 7, false)
  else
    let d := bad.foldl (fun d x => d.raise 0x10 (0x880 + 32 * s + x.1) x.2) d
    let failed := bad.map fun x => 32 * s + x.1
    let mine := d.hbm.back.filter fun pc => pc / 32 == s && !failed.contains pc
    ({ d with hbm := { d.hbm with back := d.hbm.back.filter (fun pc => pc / 32 != s),
                                  returning := mine.foldl setAdd d.hbm.returning } }, true)

/-- A stack's start-up training ends (R252). -/
def execHbmTrainingComplete (stack : Nat) (sweep : List (List LaneWindow)) (s : State) : Host.Outcome State Fault Refusal :=
  onDev (Instr.hbmTrainingComplete stack sweep).wf
    (fun c d =>
      if d.state = St.training ∧ d.stackState stack = 0 then
        let r := d.sweepResult c stack sweep
        let d := { r.1 with pwr := { r.1.pwr with trained := setAdd r.1.pwr.trained stack } }
        if r.2 then (d.openStack c stack).setStack c stack 1 else d
      else d) s

/-- The sweep of a RETRAINING stack ends: replay starts, or the stack is FENCED (R259, R269). -/
def execRetrainSweepDone (stack : Nat) (sweep : List (List LaneWindow)) (s : State) : Host.Outcome State Fault Refusal :=
  onDev (Instr.retrainSweepDone stack sweep).wf
    (fun c d =>
      if d.stackState stack = 5 then
        let r := d.sweepResult c stack sweep
        if r.2 then ({ r.1 with hbm := { r.1.hbm with cursor := mapPut r.1.hbm.cursor stack 0 } }).setStack c stack 7 else r.1
      else d) s

/-! ### Requests (R258, R259) -/

/-- Whether a PARK or RETRAIN of an ACTIVE stack would be accepted (R258). -/
def Device.mayPark (d : Device) (s : Nat) : Bool :=
  d.stackState s == 1 && d.stackState (sister s) == 1 && d.allPcs (sister s)

/-- Parking starts (Table 12.7, t0). -/
def Device.startPark (d : Device) (c : Clk) (s : Nat) (t : StackTask) : Device :=
  ((d.setTask s (some t)).closeStack c s).setStack c s 2

/-- Parking abandoned (R259). -/
def Device.abandonPark (d : Device) (c : Clk) (s outcome : Nat) : Device :=
  ((((d.setTask s none).openStack c s).hbmCount s 8 1).setOutcome s outcome).setStack c s 1

/-- A write of HBM.Request (R258, R328). -/
def Device.writeHbmRequest (d : Device) (c : Clk) (s v : Nat) : Wr :=
  let st := d.stackState s
  if v = 0 ∨ 3 < v then .error stType
  else if d.state = St.safe then .error stBusy
  else if v = 1 then (if d.mayPark s then .ok (d.startPark c s .park) else .error stBusy)
  else if v = 2 then
    if st = 4 then .ok ((d.setTask s (some .retrain)).setStack c s 6)
    else if d.mayPark s then .ok (d.startPark c s .retrain) else .error stBusy
  else if st = 4 then .ok ((d.setTask s (some .wake)).setStack c s 6)
  else if st = 2 then .ok (d.abandonPark c s 5)
  else .error stBusy

/-- A write of HBM.Config (Table 12.3). -/
def Device.writeHbmConfig (d : Device) (v : Nat) : Wr :=
  let dl := fld v 111 96
  let el := fld v 95 88
  let ml := fld v 87 80
  let sp := fld v 79 64
  if dl < 1 ∨ 10000 < dl ∨ el < 1 ∨ ml < 5 ∨ 50 < ml ∨ sp < 1 ∨ 3600 < sp then .error stType
  else .ok (d.set Obj.hbmConfig 0 (at_ 127 127 (v / 2 ^ 127) + at_ 111 96 dl + at_ 95 88 el + at_ 87 80 ml + at_ 79 64 sp))

/-- A stack not drained within DrainLimit: parking is abandoned unless its closure is complete (R259). -/
def execDrainTimeout (stack : Nat) (s : State) : Host.Outcome State Fault Refusal :=
  onDev (Instr.drainTimeout stack).wf (fun c d => if d.stackState stack = 2 ∧ d.sepState stack ≠ 2 then d.abandonPark c stack 4 else d) s

/-- A DRAINING stack whose closure is complete is PARKING (Table 12.7, t2). -/
def execParkPrepare (stack : Nat) (s : State) : Host.Outcome State Fault Refusal :=
  onDev (Instr.parkPrepare stack).wf
    (fun c d => if d.stackState stack = 2 ∧ d.sepState stack = 2 then d.setStack c stack 3 else d) s

/-- The commit of a PARKING stack (Table 12.7, t3 and t4; R260). One whose sister, or a pseudo-channel of it, has been fenced meanwhile is
woken at once (R264). -/
def execParkCommit (stack : Nat) (s : State) : Host.Outcome State Fault Refusal :=
  onDev (Instr.parkCommit stack).wf
    (fun c d =>
      if d.stackState stack = 3 then
        let d := d.hbmCount stack 7 1
        if mapGet? d.hbm.task stack = some .retrain then d.setStack c stack 5
        else
          let d := ((d.setTask stack none).setOutcome stack 1).setStack c stack 4
          if d.stackState (sister stack) = 8 ∨ d.allPcs (sister stack) = false then d.autoWake c stack else d
      else d) s

/-- A waking stack has relocked (Table 12.8, t1). -/
def execWakeRelock (stack : Nat) (s : State) : Host.Outcome State Fault Refusal :=
  onDev (Instr.wakeRelock stack).wf
    (fun c d =>
      if d.stackState stack = 6 then
        if mapGet? d.hbm.task stack = some .retrain then d.setStack c stack 5
        else ({ d with hbm := { d.hbm with cursor := mapPut d.hbm.cursor stack 0 } }).setStack c stack 7
      else d) s

/-- LastOutcome at the end of a replay (R263). -/
def replayOutcome : Option StackTask → Nat
  | some .retrain => 2
  | some .autoWake => 6
  | _ => 3

/-- The sister's copies that waited for a stack are healed from it as it returns (R264, R267). -/
def Device.healWaiting (d : Device) (s : Nat) : Device :=
  let bs := (d.waiting (sister s)).filter fun b => d.pcState s (blockPc b) == 0
  bs.foldl (fun d b =>
    ({ d with hbm := { d.hbm with waitHeal := setDel d.hbm.waitHeal (blockKey (sister s) b) } }).hbmCount (sister s) 5 1) d

/-- Pseudo-channels that a stack's sweep lets return are ACTIVE at the end of its replay (R269). -/
def Device.returnPcs (d : Device) (s : Nat) : Device :=
  let mine := d.hbm.returning.filter fun pc => pc / 32 == s
  let d := mine.foldl (fun d pc => d.setPc s (pc % 32) 0) d
  { d with hbm := { d.hbm with returning := d.hbm.returning.filter (fun pc => pc / 32 != s),
                               fencedPcs := d.hbm.fencedPcs.filter fun pc => !mine.contains pc } }

/-- Every bit is clear: the stack is ACTIVE and the Separator reopens it; unfenced pseudo-channels return (R263, R269). -/
def execReplayComplete (stack : Nat) (s : State) : Host.Outcome State Fault Refusal :=
  onDev (Instr.replayComplete stack).wf
    (fun c d =>
      if d.stackState stack = 7 ∧ (d.dirty stack).isEmpty then
        let t := mapGet? d.hbm.task stack
        let d := d.returnPcs stack
        let d := { d with hbm := { d.hbm with cursor := mapDel d.hbm.cursor stack } }
        ((((d.setTask stack none).openStack c stack).setOutcome stack (replayOutcome t)).setStack c stack 1).healWaiting stack
      else d) s

/-- A RETIRING pseudo-channel none of whose cells is in use is RETIRED (R268). -/
def execPcRetired (pc : Nat) (s : State) : Host.Outcome State Fault Refusal :=
  onDev (Instr.pcRetired pc).wf
    (fun _ d =>
      if d.pcState (pc / 32) (pc % 32) = 1 ∧
          !(d.buf.cells.any fun a => cellHbm a && cellStack a == pc / 32 && cellIndex a % 32 == pc % 32) then
        d.setPc (pc / 32) (pc % 32) 2
      else d) s

/-! ### Margins and refresh (R253 to R257) -/

/-- A stack whose MinMargin is below MarginLow retrains, or reports and is checked again (R253). -/
def Device.marginAct (d : Device) (c : Clk) (s : Nat) : Device :=
  if bit (d.get Obj.hbmConfig 0) 127 && d.mayPark s then
    ({ d with hbm := { d.hbm with watch := setDel d.hbm.watch s } }).startPark c s .retrain
  else ({ d with hbm := { d.hbm with watch := setAdd d.hbm.watch s } }).raise 0x11 (0x900 + s) (d.minMargin s)

/-- Whether a stack's margin is low. -/
def Device.marginLow (d : Device) (s : Nat) : Bool := decide (d.minMargin s < d.rd Obj.hbmConfig 0 87 80)

/-- A stack's controller drives it and trims its delays in service: ACTIVE, DRAINING, PARKING or REPLAYING (R253). -/
def Device.stackTrims (d : Device) (s : Nat) : Bool := [1, 2, 3, 7].contains (d.stackState s)

/-- The drift-tracking loop moves a stack's delays and updates its margins; a margin that falls below MarginLow is acted on (R253). -/
def execDriftTrack (stack : Nat) (trims : List (List LaneTrim)) (s : State) : Host.Outcome State Fault Refusal :=
  onDev (Instr.driftTrack stack trims).wf
    (fun c d =>
      if d.stackTrims stack then
        let d := d.setTrims stack trims
        if d.marginLow stack then
          if setHas d.hbm.low stack then d
          else ({ d with hbm := { d.hbm with low := setAdd d.hbm.low stack } }).marginAct c stack
        else { d with hbm := { d.hbm with low := setDel d.hbm.low stack, watch := setDel d.hbm.watch stack } }
      else d) s

/-- The check of a low margin whose fault was raised, again each second (R253). -/
def execMarginCheck (stack : Nat) (s : State) : Host.Outcome State Fault Refusal :=
  onDev (Instr.marginCheck stack).wf
    (fun c d => if d.stackTrims stack && setHas d.hbm.watch stack && d.marginLow stack then d.marginAct c stack else d) s

/-- The states in which the refresh rules apply (R254). -/
def Device.stackRefreshes (d : Device) (s : Nat) : Bool := [1, 2, 3, 5, 7].contains (d.stackState s)

/-- The owed count of a pseudo-channel (R256). -/
def Device.owed (d : Device) (pc : Nat) : Nat := mapGet d.hbm.owed pc 0

/-- The owed count set. -/
def Device.setOwed (d : Device) (pc n : Nat) : Device := { d with hbm := { d.hbm with owed := mapSet d.hbm.owed pc n 0 } }

/-- A time in tenths of a nanosecond, of ticks of 0.8 ns. -/
def Clk.tenths (c : Clk) : Nat := 8 * c.ticks

/-- A pseudo-channel is refreshing: each refresh holds it for 410 ns (R254). -/
def Device.refreshBusy (d : Device) (c : Clk) (pc : Nat) : Bool := decide (c.tenths < mapGet d.hbm.refreshing pc 0)

/-- The other pseudo-channels of a refresh group: 8g to 8g + 7 of a stack (R255). -/
def refreshGroup (pc : Nat) : List Nat := (List.range 8).map (fun k => pc / 8 * 8 + k) |>.filter (· != pc)

/-- A refresh may start: fewer than one other pseudo-channel of the group is refreshing, or fewer than two in doubled refresh (R255). -/
def Device.refreshRoom (d : Device) (c : Clk) (pc : Nat) : Bool :=
  decide (((refreshGroup pc).filter (d.refreshBusy c)).length < if bit (d.get Obj.hbmStackStatus (pc / 32)) 239 then 2 else 1)

/-- `n` refreshes of a pseudo-channel issued back to back: they hold it for 410 ns each (R254, R256). -/
def Device.refreshFor (d : Device) (c : Clk) (pc n : Nat) : Device :=
  let until_ := max c.tenths (mapGet d.hbm.refreshing pc 0) + 4100 * n
  ({ d with hbm := { d.hbm with refreshing := mapPut d.hbm.refreshing pc until_ } }).hbmCount (pc / 32) 0 n

/-- The owed refreshes of a pseudo-channel issued as one batch (R256). -/
def Device.refreshBatch (d : Device) (c : Clk) (pc : Nat) : Device :=
  let n := d.owed pc
  let d := { d with hbm := { d.hbm with groupWait := setDel d.hbm.groupWait pc } }
  if n = 0 then d
  else
    let d := (d.refreshFor c pc n).setOwed pc 0
    if 2 ≤ n then d.hbmCount (pc / 32) 1 1 else d

/-- The owed refreshes issued, or postponed while the group is full (R255). -/
def Device.refreshIssue (d : Device) (c : Clk) (pc : Nat) : Device :=
  if d.refreshRoom c pc then d.refreshBatch c pc
  else { d with hbm := { d.hbm with groupWait := setAdd d.hbm.groupWait pc } }

/-- One more refresh owed: the count never exceeds 8, and a ninth is issued at once (R256, log 72). -/
def Device.refreshDue (d : Device) (c : Clk) (pc : Nat) : Device :=
  if 8 ≤ d.owed pc then d.refreshFor c pc 1 else d.setOwed pc (d.owed pc + 1)

/-- A tREFI passes for a pseudo-channel (R254 to R256): refreshes of its group that were postponed go first. -/
def execRefreshInterval (pc : Nat) (requestsWaiting : Bool) (s : State) : Host.Outcome State Fault Refusal :=
  onDev (Instr.refreshInterval pc requestsWaiting).wf
    (fun c d =>
      if d.stackRefreshes (pc / 32) && d.pcState (pc / 32) (pc % 32) == 0 then
        let d := ((refreshGroup pc).filter fun k => setHas d.hbm.groupWait k).foldl (fun d k => d.refreshIssue c k) d
        let d := d.refreshDue c pc
        if requestsWaiting && decide (d.owed pc < 8) && !setHas d.hbm.groupWait pc then d else d.refreshIssue c pc
      else d) s

/-- A stack enters doubled refresh: owed counts double, and any excess over 8 is issued at once (R257). -/
def Device.doubleOwed (d : Device) (c : Clk) (s : Nat) : Device :=
  (List.range 32).foldl (fun d k =>
    let n := 2 * d.owed (32 * s + k)
    let d1 := d.setOwed (32 * s + k) (min 8 n)
    if 8 < n then (d1.refreshFor c (32 * s + k) (n - 8)).hbmCount s 2 1 else d1) d

/-- A stack returns to normal refresh (R257). -/
def Device.halveOwed (d : Device) (s : Nat) : Device :=
  (List.range 32).foldl (fun d k => d.setOwed (32 * s + k) ((d.owed (32 * s + k) + 1) / 2)) d

/-- REFRESH2X of a stack set in both its records, and the Budget with it (R243, R254). -/
def Device.setRefresh2x (d : Device) (c : Clk) (s : Nat) (on : Bool) : Device :=
  let d1 := d.setTokens c s (d.tokensNow c s)
  ((d1.setFld Obj.hbmStackStatus s 239 239 (b2n on)).setFld Obj.sepStack s 119 119 (b2n on)).setBudget c s

/-- A temperature reading of a stack, in 0.1 °C (R254, Table 15.4 source 0x15). -/
def execHbmTempSample (stack : Nat) (tenths : Int) (s : State) : Host.Outcome State Fault Refusal :=
  onDev (Instr.hbmTempSample stack tenths).wf
    (fun c d =>
      let d := d.setFld Obj.hbmStackStatus stack 223 208 (ofSigned 16 tenths)
      let hot := bit (d.get Obj.hbmStackStatus stack) 239
      let d :=
        if d.stackRefreshes stack && !hot && decide (850 < tenths) then (d.doubleOwed c stack).setRefresh2x c stack true
        else if d.stackRefreshes stack && hot && decide (tenths < 820) then (d.halveOwed stack).setRefresh2x c stack false
        else d
      d.conditionEvent 0x15 (0x900 + stack) (ofSigned 16 tenths) (decide (950 ≤ tenths))) s

/-! ### Errors (R265 to R268, R342) -/

/-- Where a block of the churn log lies in it: the first bit it holds of a copy, if it holds any (R262). -/
def logBits (b : Nat) : Option Nat :=
  let off := b * 64
  if 0x38000000 ≤ off ∧ off < 0x38600000 then some (8 * (off - 0x38000000))
  else if 0x38604000 ≤ off ∧ off < 0x38C04000 then some (8 * (off - 0x38604000))
  else none

/-- The block whose churn bit is a bit of the log. -/
def churnPlace (pos : Nat) : Nat := Config.churnBlock pos % 50331648

/-- The block that holds the same bits as a block of the churn log, in the log's other copy: 0x604000 bytes further on, or back (R262). -/
def logTwin (b : Nat) : Nat := if b * 64 < 0x38604000 then b + 0x604000 / 64 else b - 0x604000 / 64

/-- A block of the churn log bad in both copies, which lie in one stack (R262, R267): the second copy's error is counted too, the block is
lost and poisoned in both, and what its bits then say is not stated and is free (logs 2 and 14). A PARKED sister is woken (R264). -/
def Device.loseLog (d : Device) (c : Clk) (s b : Nat) : Device :=
  match logBits b with
  | none => (d.poisonBlock s b).autoWake c (sister s)
  | some pos =>
    let d := (d.pcError c (32 * s + blockPc (logTwin b))).poisonBlock s b
    let d := { d with hbm := { d.hbm with poison := setAdd d.hbm.poison (poisonKey s (logTwin b)) } }
    let v := Config.freeValue d.free
    ((List.range 512).foldl (fun d i => d.setChurn (sister s) (churnPlace (pos + i)) (bit v i)) d.spend).autoWake c (sister s)

/-- A failing copy of a mirrored block healed from the sister's, or the block poisoned (R267). A copy in a sister that is out of service
and current is waited for, and the sister woken (R264); in one that DRAINS or PARKS it can still be read (log 70). -/
def Device.healBlock (d : Device) (c : Clk) (s b : Nat) (sisterBad : Bool) : Device :=
  let t := sister s
  let st := d.stackState t
  let current := !d.churnSet t b && d.pcState t (blockPc b) == 0
  if st = 1 ∨ st = 2 ∨ st = 3 then
    if !current then d.poisonBlock s b
    else if sisterBad then (d.pcError c (32 * t + blockPc b)).poisonBlock s b
    else d.hbmCount s 5 1
  else if current && (st == 4 || st == 5 || st == 6 || st == 7) then
    ({ d with hbm := { d.hbm with waitHeal := setAdd d.hbm.waitHeal (blockKey s b) } }).autoWake c t
  else (d.poisonBlock s b).autoWake c t

/-- An uncorrectable copy of a block of segment 0 (R267): a block of the churn log, which is not mirrored, is healed from its second copy
in the same stack. -/
def Device.blockError (d : Device) (c : Clk) (f : BlockFound) : Device :=
  let d := d.pcError c (32 * f.stack + blockPc f.block)
  if logBlock f.block then if f.otherBad then d.loseLog c f.stack f.block else d.hbmCount f.stack 5 1
  else d.healBlock c f.stack f.block f.otherBad

/-- What the code finds as a block is read (R265, R267). -/
def Device.blockFound (d : Device) (c : Clk) (f : BlockFound) : Device :=
  match f.ecc with
  | .good => d
  | .single => d.hbmCount f.stack 3 1
  | .double => d.blockError c f

/-- What the code finds as copies of table blocks are read, of those that `reads` names by stack and block: a finding counts where that copy
can serve a read (R251, R265, R267). -/
def Device.copiesFound (d : Device) (c : Clk) (reads : Nat → Nat → Bool) (found : List BlockFound) : Device :=
  found.foldl (fun d f =>
    if reads f.stack f.block && d.copyServes f.stack f.block && !setHas d.hbm.poison (poisonKey f.stack f.block) then d.blockFound c f else d) d

/-- What the code finds as table blocks are read, of those that `reads` names as pair and block: of each block one copy is read, that of the
stack that serves it (R251). -/
def Device.readFound (d : Device) (c : Clk) (reads : Nat × Nat → Bool) (found : List BlockFound) : Device :=
  d.copiesFound c (fun s b => reads (pairOf s, b) && d.servingStack (pairOf s, b) == s) found

/-- What the code finds as a flow lookup reads its slots: slot h1 by the request that stands at a stack, slot h2 by one made then. -/
def Device.flowFound (d : Device) (c : Clk) (key stack : Nat) (found : List BlockFound) : Device :=
  d.copiesFound c (fun s b => keyReads key (pairOf s, b)
    && (if (pairOf s, b) = flowBlock (flowSlots key).1 then d.standsAt stack b else d.servingStack (pairOf s, b)) == s) found

/-- The scrub reads a written block of segment 0 in an ACTIVE stack (R266). -/
def execHbmScrubVisit (found : BlockFound) (s : State) : Host.Outcome State Fault Refusal :=
  onDev (Instr.hbmScrubVisit found).wf
    (fun c d => if d.blockWritten found.stack found.block then d.copiesFound c (fun _ _ => true) [found] else d) s

/-- Replay copies the lowest dirty block from the sister and clears its bit; the cursor never goes back (R263). `found` is what the code
finds as the sister's copy is read (R265, R267); a block that is poisoned stays so, and is not counted as copied (DEDUCED, log 14). -/
def execReplayBlockCopy (stack : Nat) (found : List BlockFound) (s : State) : Host.Outcome State Fault Refusal :=
  onDev (Instr.replayBlockCopy stack found).wf
    (fun c d =>
      if d.stackState stack = 7 then
        match d.dirty stack with
        | [] => d
        | b :: _ =>
          let pb := (pairOf stack, b)
          let d := (d.copiesFound c (fun s x => s == sister stack && x == b) found).setChurn stack b false
          let d := { d with hbm := { d.hbm with cursor := mapPut d.hbm.cursor stack (max (mapGet d.hbm.cursor stack 0) (b + 1)) } }
          if d.poisoned pb then d else d.hbmCount stack 9 1
      else d) s

/-- A pipeline request to a stack without response for 1 µs (R342), or a parity error of its command path (Table 15.4, source 0x16); each
pseudo-channel's controller is a detector (R313). A stack that is fenced already settles its request at once. -/
def execHbmResponseTimeout (stack : Nat) (request : HbmRequest) (s : State) : Host.Outcome State Fault Refusal :=
  onDev (Instr.hbmResponseTimeout stack request).wf
    (fun c d =>
      let d := d.raiseBy 0x16 (0x900 + stack) (requestChannel request) (requestChannel request)
      if (match request with | .commandParity _ => true | _ => false) then d
      else
        let d := { d with hbm := { d.hbm with unanswered := d.hbm.unanswered ++ [(stack, request)] } }
        if d.stackState stack = 8 then d.settleUnanswered c stack else d) s

/-- HBM.StackStatus with its DirtyBlocks gauge (Table 12.4). -/
def Device.viewStack (d : Device) (s : Nat) : Nat := putFld (d.get Obj.hbmStackStatus s) 159 128 (d.dirty s).length

end Sys2Proof.Machine
end

