-- ==== Sys2Proof/Machine/Tm.lean ====
section
/-! DEFINITION. The traffic manager (chapter 13): the hierarchy, selection, shapers, flushing, policers, punt policers and the
time-aware gates. -/

namespace Sys2Proof.Machine

/-! ### Records -/

/-- Kinds of record: port, service node, subscriber, policer, punt policer; then the aggregate punt bucket, queues and schedulers. -/
abbrev kPort : Nat := 0
abbrev kService : Nat := 1
abbrev kSubscriber : Nat := 2
abbrev kPolicer : Nat := 3
abbrev kPunt : Nat := 4
abbrev kAggregate : Nat := 5
abbrev kQueue : Nat := 6
abbrev kInstance : Nat := 7

/-- The name of a record. -/
def recKey (kind n : Nat) : Nat := kind * 2 ^ 20 + n

/-- The Chart element of a record. -/
def recObj (k : Nat) : Nat × Nat :=
  let n := k % 2 ^ 20
  match k / 2 ^ 20 with
  | 0 => (Obj.tmPort, n)
  | 1 => (Obj.tmService, n)
  | 2 => (Obj.tmSubscriber, n)
  | 3 => (Obj.polConfig0 + n / 32768, n % 32768)
  | _ => (Obj.tmPuntPolicer, n)

/-- A node record as the Chart holds it. -/
def Device.node (d : Device) (k : Nat) : Nat := d.get (recObj k).1 (recObj k).2

/-- The rates and bursts a record puts in effect: committed rate and burst, peak rate and burst, rates in 8 kb/s (R283). -/
def ratesOf (k v : Nat) : Nat × Nat × Nat × Nat :=
  if k / 2 ^ 20 = kPunt then (fld v 63 36, fld v 35 11, 0, 0)
  else if k / 2 ^ 20 = kAggregate then (2500000, 262144, 0, 0)
  else (fld v 159 132, fld v 131 107, fld v 106 79, fld v 78 54)

/-- The rates and bursts in effect, which a later write changes only at the refill (R284). -/
def Device.rates (d : Device) (k : Nat) : Nat × Nat × Nat × Nat :=
  ratesOf k ((mapGet? d.tm.applied k).getD (if k / 2 ^ 20 = kAggregate then 0 else d.node k))

/-- A record's full buckets in millibytes. -/
def Device.fullTokens (d : Device) (k : Nat) : Int × Int := ((d.rates k).2.1 * 1000, (d.rates k).2.2.2 * 1000)

/-- A record's token counts in millibytes (R283). -/
def Device.tokens (d : Device) (k : Nat) : Int × Int := mapGet d.tm.tokens k (d.fullTokens k)

/-- Token counts set; full buckets are not listed. -/
def Device.setTm (d : Device) (k : Nat) (t : Int × Int) : Device :=
  { d with tm := { d.tm with tokens := if t = d.fullTokens k then mapDel d.tm.tokens k else mapPut d.tm.tokens k t } }

/-- A debit of a node's applied buckets (R283). -/
def Device.debit (d : Device) (k : Nat) (milli : Int) : Device :=
  let (cr, _, pr, _) := d.rates k
  let (c, p) := d.tokens k
  d.setTm k (if cr = 0 then c else c - milli, if pr = 0 then p else p - milli)

/-- One bucket at a refill instant (R283): its count is first held to the burst (R284). -/
def refillOne (rate burst : Nat) (t : Int) : Int :=
  if rate = 0 then burst * 1000 else min (min t (burst * 1000) + rate) (burst * 1000)

/-- One record at a refill instant: its shadowed values take effect, then its buckets gain their rates (R283, R284). -/
def Device.refill (d : Device) (k : Nat) : Device :=
  let t := d.tokens k
  let d := { d with tm := { d.tm with applied := mapDel d.tm.applied k } }
  let (cr, cb, pr, pb) := d.rates k
  d.setTm k (refillOne cr cb t.1, refillOne pr pb t.2)

/-- The refill instant, every 1 µs of pipeline clock (R283): the records whose buckets are not full or whose values are shadowed. -/
def Device.refillAll (d : Device) : Device :=
  (d.tm.applied.map Prod.fst ++ d.tm.tokens.map Prod.fst).eraseDups.foldl Device.refill d

/-- The refill instant. -/
def execShaperRefill (s : State) : Host.Outcome State Fault Refusal :=
  onDev Instr.shaperRefill.wf (fun _ d => d.refillAll) s

/-- A record written (R283, R284): its first write since the Chart was reinitialised takes effect at once with full buckets, a later
one at the next refill. -/
def Device.writeRecord (d : Device) (k v : Nat) : Device :=
  let old := (mapGet? d.tm.applied k).getD (d.node k)
  let t := d.tokens k
  let d1 := d.set (recObj k).1 (recObj k).2 v
  if d.tm.written.contains k then
    let d2 := { d1 with tm := { d1.tm with applied := mapPut d1.tm.applied k old } }
    d2.setTm k t
  else
    { d1 with tm := { d1.tm with written := setAdd d1.tm.written k, tokens := mapDel d1.tm.tokens k } }

/-! ### Hierarchy (R272, R273) -/

/-- A node's BOUND bit and Parent. -/
def Device.bound (d : Device) (k : Nat) : Bool := bit (d.node k) 191
def Device.parent (d : Device) (k : Nat) : Nat := fld (d.node k) 175 160

/-- The service node above a subscriber, and the port above a service node, where they are bound. -/
def Device.serviceOf (d : Device) (s : Nat) : Option Nat :=
  if d.bound (recKey kSubscriber s) then some (d.parent (recKey kSubscriber s)) else none
def Device.portOfService (d : Device) (v : Nat) : Option Nat :=
  if d.bound (recKey kService v) then some (d.parent (recKey kService v)) else none

/-- Service node and port above a queue (R272). -/
def Device.pathOf (d : Device) (q : Nat) : Option (Nat × Nat) :=
  match d.serviceOf (q / 8) with
  | none => none
  | some v => (d.portOfService v).map fun p => (v, p)

/-- The queues with packets below a node. -/
def Device.queuesBelow (d : Device) (k : Nat) : List Nat :=
  ((d.buf.queues.map Prod.fst).filter (· < 262144)).filter fun q =>
    match k / 2 ^ 20 with
    | 2 => q / 8 == k % 2 ^ 20
    | 1 => d.serviceOf (q / 8) == some (k % 2 ^ 20)
    | _ => (d.pathOf q).map Prod.snd == some (k % 2 ^ 20)

/-- The scheduler instance a bound parent would put a node in (R273). -/
def Device.instanceUnder (d : Device) (kind : Nat) (v : Nat) : Option Nat :=
  if !bit v 191 then none
  else if kind = kService then some (fld v 175 160 / 32)
  else (d.portOfService (fld v 175 160)).map (· / 32)

/-- R275's checks of a node record. -/
def nodeOk (kind v : Nat) : Bool :=
  decide (fld v 131 107 ≤ 16777216) && decide (fld v 78 54 ≤ 16777216) && fld v 50 37 != 0
    && (if kind = kSubscriber then true else fld v 36 33 == 0)
    && (if kind = kPort then !bit v 191 && fld v 175 160 == 0 && decide (-32 ≤ toSigned 8 (fld v 32 25))
        else fld v 32 25 == 0 && (!bit v 191 || decide (fld v 175 160 < if kind = kService then 256 else 4096)))

/-- The deficit of a child in its parent (R280). -/
def Device.deficit (d : Device) (k : Nat) : Int := mapGet d.tm.deficit k 0

/-- A deficit set. -/
def Device.setDeficit (d : Device) (k : Nat) (v : Int) : Device :=
  { d with tm := { d.tm with deficit := mapSet d.tm.deficit k v 0 } }

/-- A node with no queued packet below it has deficit 0 (R280). -/
def Device.clearEmpty (d : Device) (k : Nat) : Device := if (d.queuesBelow k).isEmpty then d.setDeficit k 0 else d

/-- A service node and the port above it, where nothing is queued below them any more. -/
def Device.clearService (d : Device) (v : Nat) : Device :=
  let d := d.clearEmpty (recKey kService v)
  match d.portOfService v with
  | none => d
  | some p => d.clearEmpty (recKey kPort p)

/-- Children with no queued packet below them have deficit 0 (R280): those above a queue that has lost a packet. -/
def Device.clearDeficits (d : Device) (q : Nat) : Device :=
  let d := if (d.queue q).isEmpty then d.setDeficit (recKey kQueue q) 0 else d
  let d := d.clearEmpty (recKey kSubscriber (q / 8))
  match d.pathOf q with
  | none => d
  | some (v, _) => d.clearService v

/-- The nodes above the parent a child has left, where nothing is queued below them any more. -/
def Device.clearParent (d : Device) (kind parent : Nat) : Device :=
  if kind = kSubscriber then d.clearService parent else d.clearEmpty (recKey kPort parent)

/-- A node record without its reserved bits. -/
def nodeClean (v : Nat) : Nat := putFld (putFld v 190 176 0) 24 0 0

/-- A write of a node record (R273, R275, R282). -/
def Device.writeNode (d : Device) (kind n v : Nat) : Wr :=
  let k := recKey kind n
  let old := d.node k
  let moved := bit v 191 != bit old 191 || (bit v 191 && fld v 175 160 != fld old 175 160)
  let changed := bit v 191 != bit old 191 || fld v 175 160 != fld old 175 160
  let same := d.instanceUnder kind v == d.instanceUnder kind old && (d.instanceUnder kind v).isSome
  if !nodeOk kind v then .error stType
  else if changed && d.tm.flush.isSome then .error stBusy
  else if moved && bit v 191 && !same && !(d.queuesBelow k).isEmpty then .error stBusy
  else
    let d1 := d.writeRecord k (nodeClean v)
    .ok (if moved then (d1.setDeficit k 0).clearParent kind (fld old 175 160) else d1)

/-- A write of TM.ClassProfile (Table 13.4). -/
def Device.writeClassProfile (d : Device) (e v : Nat) : Wr :=
  if fld v 26 13 = 0 then .error stType else .ok (d.set Obj.tmClassProfile e (putFld (putFld v 28 27 0) 12 0 0))

/-! ### Gates (R289 to R293) -/

/-- A gate list laid out over its cycle: mask, start and end of each used entry; the last holds to the cycle's end (R290). -/
def gateLayout (cycle : Nat) : Nat → List (Nat × Nat) → List (Nat × Nat × Nat)
  | _, [] => []
  | t, [(m, _)] => if t < cycle then [(m, t, cycle)] else []
  | t, (m, dur) :: rest =>
    if t < cycle then (m, t, min (t + dur) cycle) :: gateLayout cycle (t + dur) rest else []

/-- The place in its cycle of an instant, in ns (R290). -/
def gatePhase (g : GateList) (ns : Nat) : Nat := (((ns : Int) - g.change) % (max g.cycle 1 : Nat)).toNat

/-- The entry in force at an instant, with its place in the list. -/
def gateEntry (g : GateList) (ns : Nat) : Option (Nat × Nat × Nat × Nat) :=
  findFrom (fun x => decide (x.2.1 ≤ gatePhase g ns ∧ gatePhase g ns < x.2.2)) 0 (gateLayout g.cycle 0 g.entries)

/-- The open gates at an instant: every gate where no list operates. -/
def Device.gatesNow (d : Device) (port ns : Nat) : Nat :=
  match mapGet? d.tm.gateOper port with
  | none => 255
  | some g => match gateEntry g ns with
    | some (_, m, _, _) => m
    | none => 255

/-- How long the class stays open from the start of the first of a sequence of entries; none if it never closes in them. -/
def openRun (cls : Nat) : List (Nat × Nat × Nat) → Option Nat
  | [] => none
  | (m, a, b) :: rest => if bit m cls then (openRun cls rest).map (· + (b - a)) else some 0

/-- The close time of a class's open gate in ns of device time, if it has one (R291). -/
def Device.gateClose (d : Device) (port ns cls : Nat) : Option Nat :=
  let pend := (mapGet? d.tm.gatePending port).map GateList.change
  let own := match mapGet? d.tm.gateOper port with
    | none => none
    | some g =>
      let l := gateLayout g.cycle 0 g.entries
      match gateEntry g ns with
      | none => none
      | some (i, _, _, b) =>
        if l.all fun x => bit x.1 cls then none
        else (openRun cls (l.drop (i + 1) ++ l.take i ++ [(0, 0, 0)])).map fun r => ns + (b - gatePhase g ns) + r
  match own, pend with
  | some t, some p => some (min t p)
  | some t, none => some t
  | none, p => p

/-- A port's speed in Gb/s (Table 4.1). -/
def Device.speed (d : Device) (port : Nat) : Nat :=
  match d.rd Obj.portConfig port 127 120 with
  | 1 => 100
  | 2 => 200
  | 3 => 400
  | 4 => 800
  | 5 => 1600
  | _ => 0

/-- d of R291 in ns: the frame's time on the wire and the FEC allowance. -/
def frameTime (len speed : Nat) : Nat := ceilDiv ((max len 60 + 24) * 8) speed + ceilDiv 10280 speed

/-- Tenths of a nanosecond that the frames already selected for a port still take: what is left of the one in transmission, and those that
wait. -/
def Device.selectedTime (d : Device) (c : Clk) (port : Nat) : Nat :=
  (mapGet d.tm.txEnd port 0 - c.tenths)
    + 10 * ((mapGet d.tm.egress port []).map fun x => frameTime x.entry.packet.length (d.speed port)).sum

/-- Tenths of a nanosecond from now to the start of the next frame selected for a port: the end of the frames already selected, which moves on while
they wait (R291). -/
def Device.startIn (d : Device) (c : Clk) (port : Nat) : Nat :=
  max 2000 (max (mapGet d.tm.portEnd port 0 - c.tenths) (d.selectedTime c port))

/-- Device time with its fraction, in units of a tenth of 2^-32 ns. -/
def Clk.fine (c : Clk) : Nat := 10 * (c.nsTotal * 2 ^ 32 + c.frac)

/-- Whether a class's gate lets a frame of a length start on a port now (R291). -/
def Device.gateAllows (d : Device) (c : Clk) (port cls len : Nat) : Bool :=
  bit (d.gatesNow port c.nsTotal) cls &&
    match d.gateClose port c.nsTotal cls with
    | none => true
    | some t => decide (c.fine + (d.startIn c port + 10 * frameTime len (d.speed port)) * 2 ^ 32 ≤ 10 * t * 2 ^ 32)

/-- Runs of open time of a class within one cycle, joined across its end (R292). -/
def longestRun (cls : Nat) (l : List (Nat × Nat × Nat)) : Nat :=
  if l.all fun x => bit x.1 cls then 0xFFFFFFFF
  else
    (((l ++ l).foldl (fun (r : Nat × Nat) x => if bit x.1 cls then (max r.1 (r.2 + (x.2.2 - x.2.1)), r.2 + (x.2.2 - x.2.1)) else (r.1, 0))
      (0, 0))).1

/-- LongestWindow of a list (Table 13.11, bits 255:0). -/
def longestWindows (g : GateList) : Nat :=
  let l := gateLayout g.cycle 0 g.entries
  (List.range 8).foldl (fun v cls => v + at_ (255 - 32 * cls) (224 - 32 * cls) (longestRun cls l)) 0

/-- The first BaseTime + N × CycleTime at or after an instant (R289), in ns. -/
def changeTime (base cycle ns : Nat) : Nat := if ns ≤ base then base else base + ceilDiv (ns - base) cycle * cycle

/-- A TIME80 number of nanoseconds. -/
def nsOfTime80 (v : Nat) : Nat := fld v 79 32 * 1000000000 + fld v 31 0
def time80OfNs (ns : Nat) : Nat := at_ 79 32 (ns / 1000000000) + ns % 1000000000

/-- Whether a queue is covered by a flush in progress (R285). -/
def Device.flushed (d : Device) (q : Nat) : Bool :=
  match d.tm.flush with
  | none => false
  | some rs => rs.any fun r => decide (r.1 ≤ q ∧ q < r.1 + r.2)

/-- A queue's class is paused at its port (R78). -/
def Device.classPaused (d : Device) (port cls : Nat) : Bool := (mapGet? d.ports.paused (port * 8 + cls)).isSome

/-- A field of TM.PortClassCounters advanced (Table 13.14): 0 TxFrames, 1 TxBytes, 2 TasOversize, 3 FlushDiscards. -/
def Device.classCount (d : Device) (port cls k n : Nat) : Device := d.bump Obj.tmPortClassCounters (port * 8 + cls) 4 k n

/-- The head packet of a queue leaves it by a discard: its cells are freed. -/
def Device.dropHead (d : Device) (c : Clk) (q : Nat) : Device :=
  match d.queue q with
  | [] => d
  | e :: _ => (((d.dequeue c q e).freeEntry e e.cells)).clearDeficits q

/-- Head packets that can never fit the class's longest window are discarded (R292), `n` at most. -/
def Device.dropOversize (d : Device) (c : Clk) (port q window : Nat) : Nat → Device
  | 0 => d
  | n + 1 =>
    match d.queue q with
    | [] => d
    | e :: _ =>
      if window < frameTime e.packet.length (d.speed port) then
        Device.dropOversize ((d.dropHead c q).classCount port (q % 8) 2 1) c port q window n
      else d

/-- The gates of a port that open at this instant examine their heads (R292); in SAFE no port is eligible (R278, R328). Of a class whose
window is 0 nothing is discarded. -/
def Device.gatesOpen (d : Device) (c : Clk) (port opened : Nat) : Device :=
  if d.state = St.safe then d
  else (d.queuesBelow (recKey kPort port)).foldl (fun d q =>
    let cls := q % 8
    let window := d.rd Obj.tasStatus port (255 - 32 * cls) (224 - 32 * cls)
    if bit opened cls && window != 0 && !d.classPaused port cls && !d.flushed q then d.dropOversize c port q window (d.queue q).length
    else d) d

/-- A frame in transmission whose gate closes is completed and counts as an overrun when it ends (R293). -/
def Device.gatesCut (d : Device) (port gates : Nat) : Device :=
  match mapGet? d.tm.transmit port with
  | some x => if bit gates (x.queue % 8) then d else { d with tm := { d.tm with gateCut := setAdd d.tm.gateCut port } }
  | none => d

/-- The gates of a port set as they now stand, those that were closed and are open having opened. -/
def Device.setGates (d : Device) (c : Clk) (port opened : Nat) : Device :=
  let d := d.gatesCut port (d.gatesNow port c.nsTotal)
  ({ d with tm := { d.tm with gates := mapSet d.tm.gates port (d.gatesNow port c.nsTotal) 255 } }).gatesOpen c port opened

/-- EN 0 applied: no list operates, and the gates that were closed open (R289, R292). The heads of those queues are held against the windows
of the list that ran, which stay in TAS.Status until another list is applied: R292 computes them at the apply of a list only (DEDUCED, log
76). -/
def Device.gatesOff (d : Device) (c : Clk) (port : Nat) : Device :=
  let was := mapGet d.tm.gates port 255
  let d := { d with tm := { d.tm with gatePending := mapDel d.tm.gatePending port, gateOper := mapDel d.tm.gateOper port } }
  (d.setGates c port (255 - was % 256)).setFld Obj.tasStatus port 511 504 0

/-- A write of TAS.Apply (R289, R292). -/
def Device.writeTasApply (d : Device) (c : Clk) (port v : Nat) : Wr :=
  let a := d.get Obj.tasAdmin port
  let n := fld a 239 224
  let cycle := fld a 223 192
  let entries := (List.range n).map fun i => let e := d.get Obj.tasEntry (port * 256 + i); (fld e 31 24, fld e 23 0)
  if v = 0 then .ok d
  else if !bit a 255 then .ok (d.gatesOff c port)
  else if n < 1 ∨ 256 < n ∨ cycle < 1000 ∨ 1000000000 < cycle ∨ (entries.any fun e => decide (e.2 < 8)) then .error stType
  else
    let g : GateList := { entries := entries, cycle := cycle, change := changeTime (nsOfTime80 (fld a 191 112)) cycle (c.nsUp + 2000) }
    let d1 := { d with tm := { d.tm with gatePending := mapPut d.tm.gatePending port g } }
    .ok (((d1.setFld Obj.tasStatus port 447 368 (time80OfNs g.change)).setFld Obj.tasStatus port 255 0 (longestWindows g)).setFld
      Obj.tasStatus port 511 504 1)

/-- A pending gate list's ChangeTime comes: the list operates, and counts as opening every class open in its first entry (R289, R292). A
class whose gate that entry leaves closed opens too where a step of time has passed into a later entry that opens it. -/
def execTasChangeTime (port : Nat) (s : State) : Host.Outcome State Fault Refusal :=
  onDev (Instr.tasChangeTime port).wf
    (fun c d =>
      match mapGet? d.tm.gatePending port with
      | none => d
      | some g =>
        if c.nsTotal < g.change then d
        else
          let d := { d with tm := { d.tm with gatePending := mapDel d.tm.gatePending port, gateOper := mapPut d.tm.gateOper port g } }
          let d := (d.setFld Obj.tasStatus port 495 480 g.entries.length).setFld Obj.tasStatus port 479 448 g.cycle
          let opened := d.gatesNow port c.nsTotal &&& (255 - mapGet d.tm.gates port 255 % 256)
          (d.setGates c port (((g.entries.head?.map Prod.fst).getD 0) ||| opened)).setFld Obj.tasStatus port 511 504 2) s

/-- An entry of an operating list starts: the gates change (R290, R292). -/
def execGateEntryStart (port : Nat) (s : State) : Host.Outcome State Fault Refusal :=
  onDev (Instr.gateEntryStart port).wf
    (fun c d =>
      if (mapGet? d.tm.gateOper port).isSome then
        let now := d.gatesNow port c.nsTotal
        let was := mapGet d.tm.gates port 255
        d.setGates c port (now &&& (255 - was % 256))
      else d) s

/-- TAS.Status with the entry in force (Table 13.11). -/
def Device.viewTas (d : Device) (c : Clk) (port : Nat) : Nat :=
  let cur := match mapGet? d.tm.gateOper port with
    | none => 0
    | some g => ((gateEntry g c.nsTotal).map Prod.fst).getD 0
  putFld (d.get Obj.tasStatus port) 367 352 cur

/-! ### Selection (R277 to R281) -/

/-- The charged length of a packet on a port (R281). -/
def Device.charged (d : Device) (port len : Nat) : Int :=
  max 1 ((max len 60 : Nat) + 4 + toSigned 8 (fld (d.node (recKey kPort port)) 32 25))

/-- Bytes of selected frames a port's egress stage holds that have not been transmitted, the one in transmission included (R278). -/
def Device.egressBytes (d : Device) (port : Nat) : Nat :=
  (match mapGet? d.tm.transmit port with | some x => max x.entry.packet.length 60 + 4 | none => 0)
    + ((mapGet d.tm.egress port []).map fun x => max x.entry.packet.length 60 + 4).sum

/-- A port is ready (R278). -/
def Device.portReady (d : Device) (port : Nat) : Bool :=
  d.speed port != 0 && d.get Obj.portEnable port == 1 && bit (d.get Obj.portStatus port) 127 && d.state != St.safe
    && decide (d.egressBytes port < 24576)

/-- A node's peak bucket lets it be eligible (R278). -/
def Device.peakOk (d : Device) (k : Nat) : Bool := (d.rates k).2.2.1 == 0 || decide (0 ≤ (d.tokens k).2)

/-- A node's committed bucket is applied and holds tokens (R279). -/
def Device.committedOk (d : Device) (k : Nat) : Bool := (d.rates k).1 != 0 && decide (0 ≤ (d.tokens k).1)

/-- The eligible queues of an instance (R277, R278): each queue with its service node and port. -/
def Device.eligible (d : Device) (c : Clk) (inst : Nat) : List (Nat × Nat × Nat) :=
  d.buf.queues.filterMap fun kv =>
    match kv.2, d.pathOf kv.1 with
    | e :: _, some (v, p) =>
      if kv.1 < 262144 ∧ p / 32 = inst ∧ d.portReady p ∧ !d.classPaused p (kv.1 % 8) ∧ !d.flushed kv.1
          ∧ d.gateAllows c p (kv.1 % 8) e.packet.length ∧ d.peakOk (recKey kSubscriber (kv.1 / 8)) ∧ d.peakOk (recKey kService v)
          ∧ d.peakOk (recKey kPort p) then some (kv.1, v, p) else none
    | _, _ => none

/-- A member of a band: its deficit's key, its number, its priority and its weight. -/
structure Member where
  key : Nat
  num : Nat
  priority : Nat
  weight : Nat
deriving DecidableEq, Repr

/-- A node as a member of its parent's band. -/
def Device.nodeMember (d : Device) (kind n : Nat) : Member :=
  let v := d.node (recKey kind n)
  { key := recKey kind n, num := n, priority := fld v 53 51, weight := fld v 50 37 }

/-- A queue as a member of its subscriber's band (R276). -/
def Device.queueMember (d : Device) (q : Nat) : Member :=
  let v := d.get Obj.tmClassProfile (fld (d.node (recKey kSubscriber (q / 8))) 36 33 * 8 + q % 8)
  { key := recKey kQueue q, num := q, priority := fld v 31 29, weight := fld v 26 13 }

/-- The band of a parent's eligible children (R279): the committed ones if any, then the highest priority. -/
def Device.band (d : Device) (committed : Bool) (ms : List Member) : List Member :=
  let cm := if committed then ms.filter fun m => d.committedOk m.key else []
  let b := if cm.isEmpty then ms else cm
  let top := b.foldl (fun t m => max t m.priority) 0
  b.filter fun m => m.priority == top

/-- A member's quantum (R280). -/
def quantum (m : Member) : Int := max 1 (m.weight * 64 : Nat)

/-- Whole quanta a member needs until its deficit is not negative. -/
def quantaNeeded (m : Member) (df : Int) : Nat := if 0 ≤ df then 0 else ceilDiv (-df).toNat (quantum m).toNat

/-- Deficits replenished so that some member may be chosen (R280). -/
def Device.replenish (d : Device) (b : List Member) : Device :=
  if b.any fun m => decide (0 ≤ d.deficit m.key) then d
  else
    let k := (b.map fun m => quantaNeeded m (d.deficit m.key)).foldl (fun a n => if a = 0 then n else min a n) 0
    b.foldl (fun d m => d.setDeficit m.key (min (d.deficit m.key + k * quantum m) (quantum m))) d

/-- The member deficit round robin chooses (R280): the first with a deficit that is not negative, in ascending node order after the
one chosen last in the parent. -/
def Device.drr (d : Device) (parent : Nat) (b : List Member) : Option (Member × Device) :=
  let d := d.replenish b
  let ok := b.filter fun m => decide (0 ≤ d.deficit m.key)
  let sorted := ok.foldl (fun (xs : NMap Member) m => mapPut xs m.num m) []
  let last := mapGet? d.tm.last parent
  let after := match last with
    | some l => sorted.filter fun kv => decide (l < kv.1)
    | none => sorted
  match (after ++ sorted).head? with
  | none => none
  | some (_, m) => some (m, { d with tm := { d.tm with last := mapPut d.tm.last parent m.num } })

/-- The members of a level, without repeats. -/
def members (f : Nat → Member) (xs : List Nat) : List Member := xs.eraseDups.map f

/-- A selection's path: port, service node, subscriber and queue, with the deficits and marks the choice has changed (R279). -/
def Device.choosePath (d : Device) (c : Clk) (inst : Nat) : Option (Nat × Nat × Nat × Device) :=
  let el := d.eligible c inst
  match d.drr (recKey kInstance inst) (d.band true (members (d.nodeMember kPort) (el.map fun x => x.2.2))) with
  | none => none
  | some (mp, d) =>
    let el := el.filter fun x => x.2.2 == mp.num
    match d.drr mp.key (d.band true (members (d.nodeMember kService) (el.map fun x => x.2.1))) with
    | none => none
    | some (mv, d) =>
      let el := el.filter fun x => x.2.1 == mv.num
      match d.drr mv.key (d.band true (members (d.nodeMember kSubscriber) (el.map fun x => x.1 / 8))) with
      | none => none
      | some (ms, d) =>
        let el := el.filter fun x => x.1 / 8 == ms.num
        match d.drr ms.key (d.band false (members d.queueMember (el.map fun x => x.1))) with
        | none => none
        | some (mq, d) => some (mq.num, mv.num, mp.num, d)

/-- The head packet of a chosen queue is selected for its port (R279, R280, R283, R291). -/
def Device.selectHead (d : Device) (c : Clk) (q v p : Nat) (e : QEntry) : Device :=
  let len := e.packet.length
  let ch := d.charged p len
  let keys := [recKey kPort p, recKey kService v, recKey kSubscriber (q / 8)]
  let d := (recKey kQueue q :: keys).foldl (fun d k => d.setDeficit k (d.deficit k - ch)) d
  let d := keys.foldl (fun d k => d.debit k (ch * 1000)) d
  let fin := c.tenths + d.startIn c p + 10 * frameTime len (d.speed p)
  let d := { d with tm := { d.tm with portEnd := mapPut d.tm.portEnd p fin,
                                      egress := mapPut d.tm.egress p (mapGet d.tm.egress p [] ++ [({ queue := q, entry := e } : Selected)]) } }
  (d.dequeue c q e).clearDeficits q

/-- A scheduler instance makes one selection. -/
def execSchedulerSelect (inst : Nat) (s : State) : Host.Outcome State Fault Refusal :=
  onDev (Instr.schedulerSelect inst).wf
    (fun c d =>
      match d.choosePath c inst with
      | none => d
      | some (q, v, p, d1) =>
        match d1.queue q with
        | [] => d
        | e :: _ => d1.selectHead c q v p e) s

/-! ### Flushing (R285) -/

/-- The queue ranges a flush covers: of a queue, a subscriber, or the subscribers bound below a node. -/
def Device.flushRanges (d : Device) (kind n : Nat) : List (Nat × Nat) :=
  if kind = 1 then [(n, 1)]
  else if kind = 2 then [(8 * n, 8)]
  else
    ((List.range 32768).filter fun s =>
      match d.serviceOf s with
      | none => false
      | some v => if kind = 3 then v == n else d.portOfService v == some n).map fun s => (8 * s, 8)

/-- Every packet of a queue discarded by a flush, and how many. -/
def Device.flushQueue (d : Device) (c : Clk) (q : Nat) : Nat → Device
  | 0 => d
  | n + 1 =>
    let d1 := match d.pathOf q with
      | some (_, p) => d.classCount p (q % 8) 3 1
      | none => d
    Device.flushQueue (d1.dropHead c q) c q n

/-- A write of TM.Flush (R285). -/
def Device.writeFlush (d : Device) (c : Clk) (v : Nat) : Wr :=
  let kind := fld v 63 56
  let n := fld v 31 0
  let limit := match kind with
    | 1 => 262144
    | 2 => 32768
    | 3 => 4096
    | 4 => 256
    | _ => 0
  if limit ≤ n then .error stType
  else if d.tm.flush.isSome then .error stBusy
  else
    let rs := d.flushRanges kind n
    let d := { d with tm := { d.tm with flush := some rs } }
    let qs := (d.buf.queues.map Prod.fst).filter fun q => decide (q < 262144) && d.flushed q
    let count := (qs.map fun q => (d.queue q).length).sum
    let d := qs.foldl (fun d q => d.flushQueue c q (d.queue q).length) d
    .ok (d.set Obj.tmFlushStatus 0 (at_ 63 63 1 + at_ 31 0 count))

/-- A flush in progress ends: BUSY clears (R285). -/
def execFlushComplete (s : State) : Host.Outcome State Fault Refusal :=
  onDev Instr.flushComplete.wf
    (fun _ d =>
      if d.tm.flush.isSome then ({ d with tm := { d.tm with flush := none } }).setFld Obj.tmFlushStatus 0 63 63 0 else d) s

/-! ### Policers (R286 to R288) -/

/-- A write of a policer record (R286, R284). -/
def Device.writePolicer (d : Device) (slice n v : Nat) : Wr :=
  if 16777216 < fld v 131 107 ∨ 16777216 < fld v 78 54 ∨ (!bit v 190 ∧ fld v 106 79 < fld v 159 132) then .error stType
  else .ok (d.writeRecord (recKey kPolicer (slice * 32768 + n)) (putFld (putFld (putFld v 188 184 0) 175 160 0) 53 0 0))

/-- The meter of R286: result colour and buckets, for B millibytes and an input colour. -/
def meter (rfc4115 : Bool) (input : Nat) (b tc tp : Int) : Nat × Int × Int :=
  if rfc4115 then
    if input = 0 ∧ b ≤ tc then (0, tc - b, tp)
    else if input ≠ 2 ∧ b ≤ tp then (1, tc, tp - b)
    else (2, tc, tp)
  else if input = 2 ∨ tp < b then (2, tc, tp)
  else if input = 1 ∨ tc < b then (1, tc, tp - b)
  else (0, tc - b, tp - b)

/-- A POLICE operation applied (R286, R287): its result colour, counted per slice. -/
def Device.police (d : Device) (policer bytes colour : Nat) : Nat × Device :=
  let k := recKey kPolicer policer
  let v := d.node k
  let input := if 2 ≤ colour then 2 else colour
  let (res, d1) :=
    if !bit v 191 then (input, d)
    else
      let b : Int := max 1000 (((bytes : Int) + toSigned 8 (fld v 183 176)) * 1000)
      let (tc, tp) := d.tokens k
      let r := meter (bit v 190) (if bit v 189 then input else 0) b tc tp
      (r.1, d.setTm k (r.2.1, r.2.2))
  (res, d1.bump Obj.polCounters (policer / 32768) 3 res 1)

/-- A write of TM.PuntPolicer (R288). -/
def Device.writePuntPolicer (d : Device) (e v : Nat) : Wr :=
  let others := ((List.range 16).filter (· != e)).map fun i => d.rd Obj.tmPuntPolicer i 63 36
  if 16777216 < fld v 35 11 ∨ 2500000 < fld v 63 36 + others.sum then .error stType
  else .ok (d.writeRecord (recKey kPunt e) (putFld v 10 0 0))

/-- A punt presented to its punt policer and the aggregate bucket (R288): whether it passes. -/
def Device.puntPolice (d : Device) (reason len : Nat) : Bool × Device :=
  let g := reason / 4096 % 16
  let k := recKey kPunt g
  let a := recKey kAggregate 0
  let size : Int := (min len 8950 + 70 : Nat) * 1000
  if (d.rates k).1 ≠ 0 ∧ size ≤ (d.tokens k).1 ∧ size ≤ (d.tokens a).1 then (true, (d.debit k size).debit a size)
  else (false, d.tally Obj.tmPuntDrops g 1)

/-- A write of TM.HistEdges (R294). -/
def Device.writeHistEdges (d : Device) (port v : Nat) : Wr :=
  let e (k : Nat) := fld v (511 - 32 * k) (480 - 32 * k)
  if e 0 = 0 ∨ !((List.range 14).all fun k => decide (e k < e (k + 1))) then .error stType
  else .ok (d.set Obj.tmHistEdges port (putFld v 31 0 0))

end Sys2Proof.Machine
end

