-- ==== Sys2Proof/Machine/TimeUnit.lean ====
section
/-! DEFINITION. Device time (chapter 14): the tick, frequency and phase, the pulse pins, time-stamp queues and the one-step edit.
A write of a time object answers a status, for a refused step still counts and reports (R299). -/

namespace Sys2Proof.Machine

/-! ### The time counter (R296) -/

/-- Device time with a count of nanoseconds that carries into the seconds at a whole second, seconds wrapping modulo 2^48 (R296). -/
def Clk.carry (c : Clk) (ns frac : Nat) : Clk :=
  { c with sec := (c.sec + ns / 1000000000) % 2 ^ 48, ns := ns % 1000000000, frac := frac }

/-- Device time one tick later, with an increment in 32.32 nanoseconds. -/
def Clk.tick (c : Clk) (inc : Nat) : Clk :=
  let sum := c.ns * 2 ^ 32 + c.frac + inc
  c.carry (sum / 2 ^ 32) (sum % 2 ^ 32)

/-- Whether a tick carries nanoseconds into a new second. -/
def Clk.carries (c : Clk) (inc : Nat) : Bool := decide (1000000000 ≤ (c.ns * 2 ^ 32 + c.frac + inc) / 2 ^ 32)

/-- PPS.OutConfig EN. -/
def Device.ppsEnabled (d : Device) : Bool := bit (d.get Obj.ppsOutConfig 0) 31

/-- Device time runs: from the Pilot's reset release on, while the time clock runs (R296, R337). -/
def Device.timeRuns (d : Device) : Bool := d.state != St.reset && d.clockState 7 == 0

/-- The events that wait now were detected before the tick to come (R313). -/
def Device.lookTick (d : Device) : Device := { d with look := { d.look with older := d.look.waiting.length } }

/-- A tick of the time clock: device time advances by TIME.Increment, and a carry into a new second makes a pulse due (R310). -/
def tickClock (c : Clk) (d : Device) : Clk × Device :=
  let inc := d.get Obj.timeIncrement 0
  let c1 := { c with ticks := c.ticks + 1 }
  let d := d.lookTick
  if d.timeRuns then
    (c1.tick inc,
     { d with time := { d.time with ppsDue := d.ppsEnabled && (d.time.ppsDue || c.carries inc),
                                    ppsOut := d.ppsEnabled && d.time.ppsOut } })
  else (c1, d)

/-! ### Frequency, steps and sets (R297 to R300) -/

/-- A write of TIME.Increment (R297). -/
def Device.writeIncrement (d : Device) (v : Nat) : Wr :=
  if v < 3434255850 ∨ 3437691824 < v then .error stType else .ok (d.set Obj.timeIncrement 0 v)

/-- A write of TIME.JumpLimit (Table 14.1). -/
def Device.writeJumpLimit (d : Device) (v : Nat) : Wr :=
  if 2 ^ 63 ≤ v then .error stType else .ok (d.set Obj.timeJumpLimit 0 v)

/-- Seconds and nanoseconds of a total, seconds wrapping modulo 2^48. -/
def Clk.withTotal (c : Clk) (total : Int) : Clk :=
  let t := (total % (2 ^ 48 * 1000000000 : Nat)).toNat
  { c with sec := t / 1000000000, ns := t % 1000000000 }

/-- A field of TIME.Counters advanced (Table 14.5): 0 StepsApplied, 1 StepsRefused, 2 PpsCaptures, 3 OneStepEdits,
4 TsEditSkipped. -/
def Device.timeCount (d : Device) (k : Nat) : Device := d.bump Obj.timeCounters 0 5 k 1

/-- A phase step of `x` ns (R299): the status, and the state it leaves. -/
def timeStep (c : Clk) (d : Device) (x : Int) : Nat × Clk × Device :=
  if x.natAbs ≤ d.get Obj.timeJumpLimit 0 then (0, c.withTotal (c.nsTotal + x), d.timeCount 0)
  else (stType, c, (((d.set Obj.timeJumpRefused 0 1).timeCount 1).raise 0x28 4 0))

/-- A write of TIME.Step. -/
def writeTimeStep (c : Clk) (d : Device) (v : Nat) : Nat × Clk × Device := timeStep c d (toSigned 64 v)

/-- A write of TIME.Now (R300): a set while SET is 0, a step afterwards. -/
def writeTimeNow (c : Clk) (d : Device) (v : Nat) : Nat × Clk × Device :=
  if 999999999 < fld v 31 0 then (stType, c, d)
  else if bit (d.get Obj.timeStatus 0) 0 then timeStep c d ((nsOfTime80 v : Int) - c.nsTotal)
  else (0, { c with sec := fld v 79 32, ns := fld v 31 0, frac := 0 }, d.set Obj.timeStatus 0 1)

/-! ### Pulse pins (R310, R311) -/

/-- A write of PPS.OutConfig. -/
def Device.writePpsOut (d : Device) (v : Nat) : Wr :=
  if fld v 19 0 < 1 ∨ 500000 < fld v 19 0 then .error stType else .ok (d.set Obj.ppsOutConfig 0 (putFld v 30 20 0))

/-- PPS_OUT rises for a second reached by ticking (R310). -/
def execPpsOutRise (s : State) : Host.Outcome State Fault Refusal :=
  onDev Instr.ppsOutRise.wf
    (fun _ d => if d.time.ppsDue && d.ppsEnabled then { d with time := { d.time with ppsDue := false, ppsOut := true } } else d) s

/-- PPS_OUT falls after Width (R310). -/
def execPpsOutFall (s : State) : Host.Outcome State Fault Refusal :=
  onDev Instr.ppsOutFall.wf
    (fun _ d => if d.time.ppsOut then { d with time := { d.time with ppsOut := false } } else d) s

/-- A rising edge on PPS_IN is ignored within 1 µs of the previous captured edge (R311). -/
def Device.ppsTooSoon (d : Device) (c : Clk) : Bool :=
  match d.time.ppsLast with
  | some t => decide (c.ticks < t + ticksOf 1000)
  | none => false

/-- A rising edge on PPS_IN captured: Count advances and device time is stored (R311). -/
def execPpsCapture (s : State) : Host.Outcome State Fault Refusal :=
  onDev Instr.ppsCapture.wf
    (fun c d =>
      if d.state = St.reset ∨ d.ppsTooSoon c then d
      else
        let d := { d with time := { d.time with ppsLast := some c.ticks } }
        let d := (d.setFld Obj.ppsCapture 0 79 0 c.time80).count Obj.ppsCapture 0 127 96 1
        let d := d.timeCount 2
        if d.get Obj.ppsNotify 0 = 1 then d.notify Obj.ppsCapture 0 else d) s

/-! ### Time-stamps (R303 to R309) -/

/-- A time-stamp of the MAC in ns of device time: the reference instant, and 0 to 2 ns more, free which (R303). -/
def Device.stampNow (d : Device) (c : Clk) : Nat := c.nsTotal + Config.freeValue d.free % 3

/-- The signed difference of two short times (R302). -/
def shortDiff (a b : Nat) : Int := toSigned 32 (a + 2 ^ 32 - b % 2 ^ 32)

/-- A UDP checksum at `u + 6` updated for bytes of the frame changed from `f` to `g` between `p + 8` and `p + 20`, in 16-bit words
counted from the UDP header (R304, R305); a checksum of 0 is left, and a result of 0 is sent as 0xFFFF. -/
def udpFix (f g : Bytes) (u p : Nat) : Bytes :=
  let old := beAt f (u + 6) 2
  if old = 0 then g
  else
    let o := u + (p + 8 - u) / 2 * 2
    let r := rfc1624All old (slice f o 14) (slice g o 14)
    overwrite g (u + 6) (natBe 2 (if r = 0 then 0xFFFF else r))

/-- Whether the one-step edit of a record is skipped on a frame of a length (R305). -/
def oneStepSkipped (record len : Nat) : Bool :=
  decide (len < fld record 248 240 + 20) || (bit record 253 && decide (fld record 248 240 < fld record 232 224 + 8))

/-- The one-step egress edit (R305) of frame `f` with transmit time-stamp `t` in ns. -/
def oneStepEdit (f : Bytes) (record t : Nat) : Bytes :=
  let p := fld record 248 240
  let r := shortDiff (t % 2 ^ 32) (beAt f (p + 16) 4)
  let corr := ofSigned 64 ((beAt f (p + 8) 8 : Int) + r * 65536)
  let g := overwrite (overwrite f (p + 8) (natBe 8 corr)) (p + 16) (natBe 4 0)
  if bit record 253 then udpFix f g (fld record 232 224) p else g

/-- The time-stamp queue entry of a frame (Table 14.3). -/
def tsqEntry (port tsId t : Nat) : Nat := at_ 127 127 1 + at_ 119 112 port + at_ 111 96 tsId + time80OfNs t

/-- An entry placed in a time-stamp queue, or lost to a full one (R308). -/
def Device.tsqPut (d : Device) (oe e : Nat) : Device :=
  let q := mapGet d.time.tsq oe []
  if 64 ≤ q.length then (d.set Obj.tsqOverflow oe 1).count Obj.tsqStatus oe 95 64 1
  else
    ({ d with time := { d.time with tsq := mapPut d.time.tsq oe (q ++ [e]) } }).setFld Obj.tsqStatus oe 127 120 (q.length + 1)

/-- A two-step frame's entry: pushed while PUSH is 1 and a supervisor can receive it, else queued (R307, R309). -/
def Device.tsqAdd (d : Device) (oe e : Nat) : Device :=
  if bit (d.get Obj.tsqConfig oe) 0 then
    let sent := d.notifyTargets.any fun sup => (d.reachable sup).isSome
    let d1 := d.notifyValue Obj.tsqPop oe e
    if sent then d1.count Obj.tsqStatus oe 63 32 1 else d1.tsqPut oe e
  else d.tsqPut oe e

/-- A read of TSQ.Pop (R308): the oldest entry, removed; all zero from an empty queue. -/
def Device.readTsqPop (d : Device) (oe : Nat) : Nat × Device :=
  match mapGet d.time.tsq oe [] with
  | [] => (0, d)
  | e :: rest =>
    (e, ({ d with time := { d.time with tsq := mapSet d.time.tsq oe rest [] } }).setFld Obj.tsqStatus oe 127 120 rest.length)

end Sys2Proof.Machine
end

