-- ==== Sys2Proof/Machine/Egress.lean ====
section
/-! DEFINITION. The egress stage: the start and the end of a frame's transmission (R229, R230, R246, R294, R305, R307). -/

namespace Sys2Proof.Machine

/-- A port may transmit and accept frames: configured, enabled, its link up, and the device not SAFE (R72, R75, R328). -/
def Device.portUp (d : Device) (port : Nat) : Bool :=
  d.speed port != 0 && d.get Obj.portEnable port == 1 && bit (d.get Obj.portStatus port) 127 && d.state != St.safe

/-- The histogram bin of a sojourn (R294). -/
def histBin (edges : Nat) (s : Int) : Nat :=
  ((List.range 15).filter fun k => decide ((fld edges (511 - 32 * k) (480 - 32 * k) : Int) ≤ s)).length

/-- A frame's sojourn counted in its port's histogram (R294). -/
def Device.countSojourn (d : Device) (c : Clk) (port record : Nat) : Device :=
  let s := shortDiff c.short (fld record 447 416)
  d.bump Obj.tmHistogram port 16 (histBin (d.get Obj.tmHistEdges port) s) 1

/-- The segment a cell failure blames: a buffer segment, or an HBM pseudo-channel (Table 15.4, source 0x0D). -/
def cellTarget (a : Nat) : Nat :=
  if cellHbm a then 0x880 + 32 * cellStack a + cellIndex a % 32 else 0x840 + a / segmentCells

/-- An uncorrectable error of an on-chip cell: BUF_ECC, and BUF_SEGMENT when it is the fourth of its segment within 1,000 ms
(Table 15.4). -/
def Device.bufEcc (d : Device) (c : Clk) (seg : Nat) : Device :=
  let recent := c.ticks :: (mapGet d.buf.segErrors seg []).filter (recentTick c)
  let d := { d with buf := { d.buf with segErrors := mapPut d.buf.segErrors seg recent } }
  let d := d.raise 0x0A (0x840 + seg) 0
  if recent.length = 4 then d.raise 0x0B (0x840 + seg) 0 else d

/-- Uncorrectable data in a cell of a frame is reported (R246, R265). -/
def Device.cellDataBad (d : Device) (c : Clk) (a : Nat) : Device :=
  if cellHbm a then d.pcError c (32 * cellStack a + cellIndex a % 32) else d.bufEcc c (a / segmentCells)

/-- Bytes that cells hold. -/
def cellBytes (cells : List Nat) : Nat := (cells.map fun a => if cellHbm a then 1024 else 256).sum

/-- A frame whose cells are being read: the device, the entry with the cells and bytes that are left, whether some of its data is
uncorrectable, and whether its chain is cut. -/
structure CellsRead where
  dev : Device
  entry : QEntry
  spoilt : Bool
  cut : Bool

/-- What one finding makes of a frame (R246, R265). A link word of which one copy is good or can be corrected is good (R228), and what lies
beyond a cell at which the chain is cut is not read. -/
def CellsRead.next (c : Clk) (r : CellsRead) : CellFinding → CellsRead
  | .clean => r
  | .single k =>
    match r.entry.cells[k]? with
    | some a => if cellHbm a then { r with dev := r.dev.hbmCount (cellStack a) 3 1 } else r
    | none => r
  | .dataBad k =>
    match r.entry.cells[k]? with
    | some a => { r with dev := r.dev.cellDataBad c a, spoilt := true }
    | none => r
  | .link k first second =>
    match r.entry.cells[k]?, decide (first = .double ∧ second = .double) with
    | some a, true =>
      let kept := r.dev.chainFrom (r.entry.cells.headD a) (k + 1)
      let lost := r.entry.cells.length - kept.length
      { r with dev := (r.dev.count Obj.bufStatus 0 191 128 lost).raise 0x0D (cellTarget a) 0
               entry := { r.entry with cells := kept, packet := r.entry.packet.take (cellBytes kept) }
               cut := true }
    | _, _ => r

/-- What the read of a frame's cells makes of it, `found` being what the words of its cells show in turn: the device, the entry with the cells
and bytes that are left, and whether the frame leaves with a good FCS (R246). One with uncorrectable data, or a Vat cell of which was read
ahead without response (R342), counts in Stomped once. -/
def Device.readCells (d : Device) (c : Clk) (e : QEntry) (found : List CellFinding) : Device × QEntry × Bool :=
  let r := found.foldl (CellsRead.next c) { dev := d, entry := e, spoilt := false, cut := false }
  let stomped := r.spoilt || r.entry.cells.any (setHas d.buf.lostReads)
  (if stomped then r.dev.count Obj.bufStatus 0 127 64 1 else r.dev, r.entry, !stomped && !r.cut)

/-- The PTP action of a frame as it starts (R305 to R307). -/
def Device.ptpEgress (d : Device) (port : Nat) (e : QEntry) (t : Nat) : Device × Bytes :=
  let mode := if e.copy then 0 else fld e.record 255 254
  if mode = 1 then
    if oneStepSkipped e.record e.packet.length then (d.timeCount 4, e.packet)
    else (d.timeCount 3, oneStepEdit e.packet e.record t)
  else if mode = 2 then (d.tsqAdd (port / 32) (tsqEntry port (fld e.record 271 256) t), e.packet)
  else (d, e.packet)

/-- The first selected frame of a port starts; one that starts late, as its gate is closed already, ends after its gate has closed (R293). -/
def Device.startFrame (d : Device) (c : Clk) (port : Nat) (found : List CellFinding) (q : Nat) (e : QEntry) (rest : List Selected) :
    Device :=
  let t := d.stampNow c
  let d := d.spend.countSojourn c port e.record
  let p := d.ptpEgress port e t
  let r := p.1.readCells c { e with packet := p.2 } found
  let e' := { r.2.1 with packet := padTo 60 r.2.1.packet }
  { r.1 with tm := { r.1.tm with egress := mapSet r.1.tm.egress port rest [],
                                 transmit := mapPut r.1.tm.transmit port { queue := q, entry := e', good := r.2.2 },
                                 gateCut := setTo r.1.tm.gateCut port (!bit (r.1.gatesNow port c.nsTotal) (q % 8)),
                                 txEnd := mapPut r.1.tm.txEnd port
                                   (c.tenths + 10 * frameTime e.packet.length (r.1.speed port)) } }

/-- The egress stage starts the port's first selected frame (R75, R78, R305). A frame of a paused class waits. -/
def execFrameTransmitStart (port : Nat) (found : List CellFinding) (s : State) : Host.Outcome State Fault Refusal :=
  onDev (Instr.frameTransmitStart port found).wf
    (fun c d =>
      match mapGet d.tm.egress port [], mapGet? d.tm.transmit port with
      | x :: rest, none =>
        if d.portUp port && !d.classPaused port (x.queue % 8) then d.startFrame c port found x.queue x.entry rest else d
      | _, _ => d) s

/-- Fields of PORT.Counters (Table 4.6). -/
def Device.portCount (d : Device) (port k n : Nat) : Device := d.bump Obj.portCounters port 12 k n

/-- A frame that ends after its gate has closed counts in GateOverruns (R293). -/
def Device.countOverrun (d : Device) (c : Clk) (port cls : Nat) : Device :=
  let late := setHas d.tm.gateCut port || !bit (d.gatesNow port c.nsTotal) cls
  let d := { d with tm := { d.tm with gateCut := setDel d.tm.gateCut port } }
  if late then d.count Obj.tasStatus port 351 320 1 else d

/-- The last bit of a frame is transmitted: its cells are freed and it is counted (R230, R293, Table 4.6, Table 13.14). -/
def Device.endFrame (d : Device) (c : Clk) (port : Nat) (x : Transmit) : Device :=
  let len := x.entry.packet.length + 4
  let d := { d with tm := { d.tm with transmit := mapDel d.tm.transmit port, txEnd := mapDel d.tm.txEnd port } }
  let d := d.countOverrun c port (x.queue % 8)
  let d := ((d.portCount port 2 1).portCount port 3 len)
  let d := (d.classCount port (x.queue % 8) 0 1).classCount port (x.queue % 8) 1 len
  let d := d.freeEntry x.entry x.entry.cells
  { d with ports := { d.ports with sent := d.ports.sent ++ [({ port := port, frame := x.entry.packet, fcsGood := x.good } : TxFrame)] } }

/-- The frame in transmission ends. One that LINK left at 0 ends too, and counts as transmitted: R75 lets no frame be transmitted then and does
not say what becomes of it (DESIGN CHOICE, log 87). -/
def execFrameTransmitEnd (port : Nat) (s : State) : Host.Outcome State Fault Refusal :=
  onDev (Instr.frameTransmitEnd port).wf
    (unlessSafe fun c d =>
      match mapGet? d.tm.transmit port with
      | some x => d.endFrame c port x
      | none => d) s

end Sys2Proof.Machine
end

