-- ==== Sys2Proof/Machine/Ports.lean ====
section
/-! DEFINITION. Ports and the MAC (chapter 04): lane groups, link state, reception, pause and PFC. LANE.Status and PORT.Status are
stored in part; what follows from the port's configuration, fences and pauses is filled in when they are shown. -/

namespace Sys2Proof.Machine

/-! ### Lane groups (R69 to R71) -/

/-- Lanes of a speed (Table 4.1); also its alignment. -/
def lanesOf (speed : Nat) : Nat :=
  match speed with
  | 1 => 1
  | 2 => 1
  | 3 => 2
  | 4 => 4
  | 5 => 8
  | _ => 0

/-- A port's Speed code. -/
def Device.speedCode (d : Device) (p : Nat) : Nat := d.rd Obj.portConfig p 127 120

/-- The global lanes of a port's group. -/
def Device.group (d : Device) (p : Nat) : List Nat := (List.range (lanesOf (d.speedCode p))).map (p + ·)

/-- The configured port a lane belongs to. -/
def Device.portOf (d : Device) (lane : Nat) : Option Nat :=
  ((List.range 8).map (lane - ·)).find? fun p => decide (lane < p + lanesOf (d.speedCode p))

/-- The feed group of a lane, as OE × 8 + group (R82). -/
def feedOf (lane : Nat) : Nat := lane / 4

/-- Whether a lane is fenced: its feed group is, or the port it belongs to now; a lane that a new carving gives to another port is free of
its former port's fence (R71, R86; DESIGN CHOICE, log 82). -/
def Device.laneFenced (d : Device) (lane : Nat) : Bool :=
  setHas d.ports.feedFenced (feedOf lane) ||
    match d.portOf lane with
    | some p => setHas d.ports.fenced p
    | none => false

/-- Whether a port is fenced: itself or a lane of its group (Table 4.4). -/
def Device.portFenced (d : Device) (p : Nat) : Bool :=
  setHas d.ports.fenced p || (d.group p).any fun l => setHas d.ports.feedFenced (feedOf l)

/-- Stored RxState of a lane: 0 NO_SIGNAL, 1 ACQUIRING, 2 LOCKED (Table 4.5). -/
def Device.rxState (d : Device) (lane : Nat) : Nat := d.rd Obj.laneStatus lane 63 56

/-- Receive rate a lane adapts at: 1 for 106.25 Gb/s, 2 for 212.5 Gb/s (R73). -/
def Device.laneRate (d : Device) (lane : Nat) : Nat :=
  match d.portOf lane with
  | some p => if d.speedCode p = 1 then 1 else 2
  | none => 2

/-- Whether lanes adapt and lasers are lit: from the optics bring-up onward (R73). -/
def Device.opticsOn (d : Device) : Bool := d.ports.lit

/-- A lane emits no light: before the optics bring-up, or while its feed group is dark (R82, R86). -/
def Device.laneDark (d : Device) (lane : Nat) : Bool :=
  !d.opticsOn || setHas d.ports.feedFenced (feedOf lane) || setHas d.ports.feedDark (feedOf lane) || setHas d.ports.feedDead (feedOf lane)

/-- LANE.Status of a lane as it stands (Table 4.5). A lit lane of no configured port shows UNMODULATED, as one of a port that is not enabled
does: R72 speaks of ports only (DESIGN CHOICE, log 87). -/
def Device.laneNow (d : Device) (lane : Nat) : Nat :=
  let v := d.get Obj.laneStatus lane
  let rx := if d.laneFenced lane then 3 else fld v 63 56
  let dark := d.laneDark lane
  let enabled := match d.portOf lane with
    | some p => d.get Obj.portEnable p == 1
    | none => false
  let tx := if dark then 0 else if enabled then 2 else 1
  putFld (putFld (putFld v 63 56 rx) 55 48 (if d.opticsOn then d.laneRate lane else 0)) 23 16 tx

/-! ### Link state (R74, R75) -/

/-- PORT.Status LINK. -/
def Device.link (d : Device) (p : Nat) : Bool := bit (d.get Obj.portStatus p) 127

/-- Every lane of the group is LOCKED at the port's rate. -/
def Device.groupLocked (d : Device) (p : Nat) : Bool :=
  d.speedCode p != 0 && (d.group p).all fun l => d.rxState l == 2 && !d.laneFenced l

/-- DownReason (Table 4.4): the first reason that applies. -/
def Device.downReason (d : Device) (p : Nat) : Nat :=
  let v := d.get Obj.portStatus p
  if d.state = St.safe then 8
  else if d.speedCode p = 0 then 2
  else if d.portFenced p then 7
  else if d.get Obj.portEnable p ≠ 1 then 1
  else if (d.group p).any fun l => d.rxState l == 0 then 3
  else if !d.groupLocked p || !bit v 124 || !bit v 123 then 4
  else if bit v 126 then 5
  else if bit v 125 then 6
  else if bit v 127 then 0
  else 4

/-- PORT.Status as it is shown (Table 4.4). A received pause still running as PORT.Config's Pause changes, or LINK falls, stays in force, and
shows under the field of the present mode alone: R78 settles neither (DESIGN CHOICE, log 87). -/
def Device.viewPortStatus (d : Device) (p : Nat) : Nat :=
  let v := d.get Obj.portStatus p
  let mode := d.rd Obj.portConfig p 111 104
  let paused := (List.range 8).filter fun c => d.classPaused p c
  let v := putBit v 122 (d.portFenced p)
  let v := putBit v 121 (mode == 1 && !paused.isEmpty)
  let v := putFld v 119 112 (if mode = 2 then (paused.map fun c => 2 ^ c).sum else 0)
  putFld v 111 104 (d.downReason p)

/-- An event written to PORT.Event, and pushed if the bit of PORT.Notify is set (R87). -/
def Device.portEvent (d : Device) (c : Clk) (kind oe unit detail : Nat) : Device :=
  let d := d.set Obj.portEvent 0 (at_ 127 120 kind + at_ 119 112 oe + at_ 111 104 unit + at_ 103 96 detail + c.time80)
  if bit (d.get Obj.portNotify 0) (if kind ≤ 2 then 0 else 1) then d.notify Obj.portEvent 0 else d

/-- LINK changes: the change is counted and dated, and its event posted, with the feed group or the reason (Tables 4.4 and 4.8, R87). Of a port
in two feed groups it is that of the first lane, which Table 4.8 leaves open (DESIGN CHOICE, log 87). -/
def Device.setLink (d : Device) (c : Clk) (p : Nat) (up : Bool) : Device :=
  let d := d.setFld Obj.portStatus p 127 127 (b2n up)
  let d := d.count Obj.portStatus p 95 64 1
  let d := (d.setFld Obj.portStatus p 63 32 c.sec).setFld Obj.portStatus p 31 0 c.ns
  d.portEvent c (if up then 1 else 2) (p / 32) (p % 32) (if up then p % 32 / 4 else d.downReason p)

/-- What a configured port sends (R72, R75, Table 18.4): idle and frames, unless its link faults or the device's state say otherwise. -/
def Device.signal (d : Device) (p : Nat) : Signal :=
  let v := d.get Obj.portStatus p
  if (d.group p).isEmpty ∨ (d.group p).any d.laneDark = true then .dark
  else if d.pwr.localFault.contains p then .localFault
  else if d.get Obj.portEnable p ≠ 1 then .unmodulated
  else if d.state = St.safe then .localFault
  else if !bit v 123 || bit v 126 then .remoteFault
  else .data

/-- A port whose link is up loses it. -/
def Device.dropLink (d : Device) (c : Clk) (p : Nat) : Device := if d.link p then d.setLink c p false else d

/-- FEC_LOCK and PCS_LOCK follow the group's lanes (Table 4.4, Table 4.9 t3); without a lock no ordered set is received. -/
def Device.setLocks (d : Device) (p : Nat) (on : Bool) : Device :=
  d.setFld Obj.portStatus p 126 123 (if on then d.rd Obj.portStatus p 126 125 * 4 + 3 else 0)

/-- A port's locks follow its lanes, and a link that is up falls with them (R75). -/
def Device.followLanes (d : Device) (c : Clk) (p : Nat) : Device :=
  let on := d.groupLocked p
  if on then d.setLocks p true else (d.setLocks p false).dropLink c p

/-- A receive lane's RxState changes (R73, R75): it reads LOCKED, ACQUIRING or NO_SIGNAL, with a fresh estimate of its signal, and
its port's locks and link follow. -/
def execLaneLockChange (lane rxState : Nat) (s : State) : Host.Outcome State Fault Refusal :=
  onDev (Instr.laneLockChange lane rxState).wf
    (fun c d =>
      if d.opticsOn && !d.laneFenced lane then
        let r := d.drawN 2 65536
        let d1 := r.2.setFld Obj.laneStatus lane 47 32 (r.1.getD 0 0)
        let d2 := d1.setFld Obj.laneStatus lane 31 24 (r.1.getD 1 0)
        let d3 := d2.setFld Obj.laneStatus lane 63 56 rxState
        match d3.portOf lane with
        | some p => d3.followLanes c p
        | none => d3
      else d) s

/-- FEC_LOCK and PCS_LOCK hold, and neither Local Fault nor Remote Fault is received (R74). -/
def Device.lockedClean (d : Device) (p : Nat) : Bool := d.rd Obj.portStatus p 126 123 == 3

/-- A port may come up: enabled, not fenced, its lanes locked and lit, outside SAFE and a restart (R74, R75, R85). -/
def Device.mayLink (d : Device) (p : Nat) : Bool :=
  d.groupLocked p && d.get Obj.portEnable p == 1 && !d.portFenced p && !(d.group p).any d.laneDark && d.state != St.safe
    && d.pwr.hold == Hold.none

/-- A port whose locks hold and that has had no fault for 10 ms comes up (R74). -/
def execLinkUp (port : Nat) (s : State) : Host.Outcome State Fault Refusal :=
  onDev (Instr.linkUp port).wf
    (fun c d => if d.mayLink port && d.lockedClean port && !d.link port then d.setLink c port true else d) s

/-- What a port shows of a loss: no PCS lock, the one kind of fault it receives, or the end of a fault (R75, Table 4.4). -/
def Device.lossShown (d : Device) (p : Nat) : LinkLoss → Device
  | .pcsLock => (d.setFld Obj.portStatus p 126 125 0).setFld Obj.portStatus p 123 123 0
  | .localFault => d.setFld Obj.portStatus p 126 125 2
  | .remoteFault => d.setFld Obj.portStatus p 126 125 1
  | .faultEnds => d.setFld Obj.portStatus p 126 125 0

/-- A port loses its lock, or receives a fault or no fault any more: a link that is up falls with a loss, and one that is down and has
its locks shows what it receives (R75). -/
def execLinkDown (port : Nat) (why : LinkLoss) (s : State) : Host.Outcome State Fault Refusal :=
  onDev (Instr.linkDown port why).wf
    (fun c d =>
      let seen := d.lossShown port why
      if d.link port then (if why = .faultEnds then seen else seen.setLink c port false)
      else if d.groupLocked port && bit (d.get Obj.portStatus port) 123 then seen
      else d) s

/-! ### Enables (R71, R72, Table 18.1) -/

/-- Whether some port is enabled. -/
def Device.anyEnabled (d : Device) : Bool := (List.range 256).any fun p => d.get Obj.portEnable p == 1

/-- DEV.State follows the enables (R372, R373). -/
def Device.serviceState (d : Device) : Device :=
  if d.state = 5 ∨ d.state = 7 then (if d.anyEnabled then d.set Obj.devState 0 6 else d)
  else if d.state = 6 ∧ !d.anyEnabled then d.set Obj.devState 0 7
  else d

/-- PORT.Enable set: a port brought down loses its link (R71, R72). -/
def Device.setEnable (d : Device) (c : Clk) (p : Nat) (on : Bool) : Device :=
  let d := d.set Obj.portEnable p (b2n on)
  (if on then d else d.dropLink c p).serviceState

/-- A port fenced by the Lookout (R71). Its lanes are ACQUIRING and both locks clear from the fence on, and still as it is unfenced: R71 does
not say what they show then (DESIGN CHOICE, log 87). -/
def Device.fencePort (d : Device) (c : Clk) (p : Nat) : Device :=
  let d : Device := { d with ports := { d.ports with fenced := setAdd d.ports.fenced p } }
  let d : Device := (d.group p).foldl (fun d l => d.setFld Obj.laneStatus l 63 56 1) d
  if d.get Obj.portEnable p = 1 then (d.setLocks p false).setEnable c p false else d.setLocks p false

/-- A fenced port returned; its PORT.Enable stays 0. -/
def Device.unfencePort (d : Device) (p : Nat) : Device :=
  { d with ports := { d.ports with fenced := setDel d.ports.fenced p } }

/-! ### Configuration (R70) -/

/-- A PORT.Config value's own TYPE cases (Table 4.3). -/
def portConfigOk (v : Nat) : Bool :=
  let speed := fld v 127 120
  let reach := fld v 119 112
  let pause := fld v 111 104
  decide (speed ≤ 5 ∧ reach ≤ 1 ∧ (reach = 1 → speed ≠ 1) ∧ pause ≤ 2 ∧ (fld v 103 96 = 0 ∨ pause = 2) ∧ fld v 95 80 ≠ 0
    ∧ 64 ≤ fld v 79 64 ∧ fld v 79 64 ≤ 12288)

/-- The group of a new speed is aligned, and no lane of it belongs to another port (R70). -/
def Device.groupFree (d : Device) (p speed : Nat) : Bool :=
  speed == 0 || (p % lanesOf speed == 0 && (List.range (lanesOf speed)).all fun i =>
    match d.portOf (p + i) with
    | some q => q == p
    | none => true)

/-- The selected frames of a port that have not started discarded (R75). -/
def Device.dropSelected (d : Device) (p : Nat) : Device :=
  let xs := mapGet d.tm.egress p []
  let d := { d with tm := { d.tm with egress := mapDel d.tm.egress p, portEnd := mapDel d.tm.portEnd p } }
  xs.foldl (fun d x => (d.freeEntry x.entry x.entry.cells).classCount p (x.queue % 8) 3 1) d

/-- The frames in the receive FIFOs of ports, counted, and the device without them (R346). -/
def Device.emptyReceive (d : Device) (at_ : Nat → Bool) : Nat × Device :=
  (((d.ports.fifo.filter fun kv => at_ kv.1).map fun kv => kv.2.length).sum,
   { d with ports := { d.ports with fifo := d.ports.fifo.filter fun kv => !at_ kv.1 } })

/-- The frames in the transmit FIFOs of ports, counted, and the device without them (R346): each is the frame in transmission. The egress
stage writes only into free space, 1 KiB for each lane, so that no other frame has a part there (Table 16.7); a frame whose part is lost
ends without being counted as transmitted (log 31). -/
def Device.emptyTransmit (d : Device) (at_ : Nat → Bool) : Nat × Device :=
  let xs := d.tm.transmit.filter fun kv => at_ kv.1
  let d := { d with tm := { d.tm with transmit := d.tm.transmit.filter fun kv => !at_ kv.1
                                      txEnd := d.tm.txEnd.filter fun kv => !at_ kv.1
                                      gateCut := d.tm.gateCut.filter fun p => !at_ p } }
  (xs.length, xs.foldl (fun d kv => d.freeEntry kv.2.entry kv.2.entry.cells) d)

/-- Lanes whose rate changes restart their adaptation, and the lane side of the engine's crossings is reset: their shares of the FIFOs are
emptied (R73, R343, R346). -/
def Device.restartLanes (d : Device) (p : Nat) (lanes : List Nat) : Device :=
  let d := lanes.foldl (fun d l => if d.rxState l = 2 then d.setFld Obj.laneStatus l 63 56 1 else d) d
  if lanes.isEmpty then d
  else
    let mine (q : Nat) : Bool := q == p || lanes.contains q
    let rx := d.emptyReceive mine
    let tx := rx.2.emptyTransmit mine
    ((tx.2.crossCount (0x28 + p / 32) 4 rx.1).crossCount (0x30 + p / 32) 4 tx.1).laneSideReset (p / 32) lanes

/-- A write of PORT.Config (R70, R71, R75, R303). A told XOFF and a pause-time-0 frame still due are forgotten: R79 does not say what becomes
of them (DESIGN CHOICE, log 87). -/
def Device.writePortConfig (d : Device) (c : Clk) (p v : Nat) : Wr :=
  let speed := fld v 127 120
  if !portConfigOk v || !d.groupFree p speed then .error stType
  else if d.get Obj.portEnable p = 1 then .error stBusy
  else
    let old := d.speedCode p
    let was := (List.range 8).map fun i => (p + i, d.laneRate (p + i))
    let d := d.dropSelected p
    let d := d.set Obj.portConfig p (putFld v 63 0 0)
    let d := d.set Obj.timePortDelay p
      (if speed = 0 then 0 else putFld (Config.portDelay (speed * 2 + fld v 119 112) % 2 ^ 64) 15 0 0)
    let d := { d with ports := { d.ports with xoff := d.ports.xoff.filter fun k => k / 8 != p
                                              reopened := d.ports.reopened.filter fun k => k / 8 != p } }
    let d := d.restartLanes p ((was.filter fun x => x.1 / 32 == p / 32 && d.laneRate x.1 != x.2).map Prod.fst)
    let d := if speed = old then d else (d.setLocks p (d.groupLocked p)).dropLink c p
    .ok (if old = 0 ∧ speed ≠ 0 then d.setEnable c p (bit (d.get Obj.devStraps 0) 8) else d)

/-- What FEC has corrected and could not correct since the counters were last copied (Table 4.6): the codewords depend on the light, and
their numbers are free (log 66). Only a port whose locks hold decodes codewords. -/
def Device.fecCounted (d : Device) : Device :=
  (List.range 256).foldl (fun d p =>
    if bit (d.get Obj.portStatus p) 124 then
      ((d.portCount p 10 (Config.freeValue d.free)).portCount p 11 (Config.freeValue (d.free + 1))).spend.spend
    else d) d

/-- A write of PORT.Enable (R71, R72, R373); `halted` says that the Sextant holds an engine of an unfenced cluster halted. -/
def Device.writePortEnable (d : Device) (c : Clk) (p v : Nat) (halted : Bool) : Wr :=
  let was := d.get Obj.portEnable p
  if v = 1 then
    if d.speedCode p = 0 ∨ d.portFenced p = true ∨ halted = true then .error stBusy
    else .ok (if was = 1 then d else d.setEnable c p true)
  else .ok (if was = 1 then d.setEnable c p false else d)

/-! ### Reception (R76 to R78) -/

/-- A class paused for a number of quanta, or resumed by 0 (R78). -/
def Device.pauseClass (d : Device) (p cls quanta : Nat) : Device :=
  { d with ports := { d.ports with paused := mapSet d.ports.paused (p * 8 + cls) quanta 0 } }

/-- A MAC Control frame (R77, R78): counted in RxPause, and honoured when the port is configured for its kind. -/
def Device.macControl (d : Device) (p : Nat) (f : Bytes) : Device :=
  let d := d.portCount p 8 1
  let mode := d.rd Obj.portConfig p 111 104
  let op := beAt f 14 2
  if mode = 1 ∧ op = 0x0001 then (List.range 8).foldl (fun d c => d.pauseClass p c (beAt f 16 2)) d
  else if mode = 2 ∧ op = 0x0101 then
    (List.range 8).foldl (fun d c => if bit (beAt f 16 2) c then d.pauseClass p c (beAt f (18 + 2 * c) 2) else d) d
  else d

/-- A port's receive FIFO is too full for a frame (R76, Table 16.7): 2 KiB per lane of the port. An empty FIFO takes any frame, whose
bytes the slice draws as they arrive. -/
def Device.fifoFull (d : Device) (p : Nat) (f : Bytes) : Bool :=
  let q := mapGet d.ports.fifo p []
  !q.isEmpty && decide (2048 * lanesOf (d.speedCode p) < (q.map fun x => x.frame.length).sum + f.length)

/-- A frame that has passed the MAC's checks enters the receive FIFO with its time-stamp, or is discarded by a full one (R76). -/
def Device.fifoIn (d : Device) (c : Clk) (p : Nat) (f : Bytes) : Device :=
  let q := mapGet d.ports.fifo p []
  if d.fifoFull p f then d.portCount p 7 1
  else
    let stamp := d.stampNow c % 2 ^ 32
    let d := (d.spend.portCount p 0 1).portCount p 1 (f.length + 4)
    { d with ports := { d.ports with fifo := mapPut d.ports.fifo p (q ++ [({ frame := f, stamp := stamp } : RxFrame)]) } }

/-- The MAC's checks (R76). -/
def Device.macReceive (d : Device) (c : Clk) (p : Nat) (f : Bytes) (fcsOk : Bool) : Device :=
  if !fcsOk then d.portCount p 4 1
  else if f.length + 4 < 64 then d.portCount p 5 1
  else if d.rd Obj.portConfig p 79 64 < f.length + 4 then d.portCount p 6 1
  else if beAt f 12 2 = 0x8808 then d.macControl p f
  else d.fifoIn c p f

/-- A frame is received on a port (R72, R75, R76, R328). An uncorrectable error in the MAC's own buffers is reported and the frame
discarded. -/
def execMacFrameReceive (port : Nat) (frame : Bytes) (fcsOk bufferBad : Bool) (s : State) : Host.Outcome State Fault Refusal :=
  onDev (Instr.macFrameReceive port frame fcsOk bufferBad).wf
    (fun c d =>
      if d.portUp port then
        if bufferBad then d.raise 0x1C (0xA00 + port) 0 else d.macReceive c port frame fcsOk
      else d) s

/-- A pause or PFC frame is received on a port (R77, R78). -/
def execPauseFrameReceive (port : Nat) (frame : Bytes) (s : State) : Host.Outcome State Fault Refusal :=
  onDev (Instr.pauseFrameReceive port frame).wf
    (fun _ d => if d.portUp port && beAt frame 12 2 == 0x8808 then d.macControl port frame else d) s

/-- A received pause runs out (R78). -/
def execPauseExpiry (port cls : Nat) (s : State) : Host.Outcome State Fault Refusal :=
  onDev (Instr.pauseExpiry port cls).wf (fun _ d => d.pauseClass port cls 0) s

/-! ### Sending pause (R79) -/

/-- A pair is closed and of a class the port sends pause for (R236, R238). -/
def Device.pauses (d : Device) (p cls : Nat) : Bool :=
  d.rd Obj.bufPairState p cls cls == 1 && d.lossless p cls

/-- The closed classes of a port. -/
def Device.closedClasses (d : Device) (p : Nat) : List Nat := (List.range 8).filter fun c => d.pauses p c

/-- A MAC Control frame of the device (R79). -/
def Device.pauseFrame (d : Device) (body : Bytes) : Bytes :=
  padTo 60 (natBe 6 0x0180C2000001 ++ natBe 6 (d.get Obj.bdpStationAddress 0) ++ natBe 2 0x8808 ++ body)

/-- The PFC frame that gives classes a pause time. -/
def Device.pfcFrame (d : Device) (classes : List Nat) (quanta : Nat) : Bytes :=
  d.pauseFrame (natBe 2 0x0101 ++ natBe 2 ((classes.map fun c => 2 ^ c).sum)
    ++ ((List.range 8).map fun c => natBe 2 (if classes.contains c then quanta else 0)).flatten)

/-- A pause or PFC frame leaves a port (R75, R79). It counts in TxPause and not in TxFrames and TxBytes: Table 4.6 does not say whether
it counts there too (DESIGN CHOICE, log 23). -/
def Device.sendPause (d : Device) (p : Nat) (frame : Bytes) : Device :=
  let d := d.portCount p 9 1
  { d with ports := { d.ports with sent := d.ports.sent ++ [({ port := p, frame := frame, fcsGood := true } : TxFrame)] } }

/-- The XOFF of a port for its closed classes. -/
def Device.sendXoff (d : Device) (p : Nat) : Device :=
  let quanta := d.rd Obj.portConfig p 95 80
  d.sendPause p (if d.rd Obj.portConfig p 111 104 = 1 then d.pauseFrame (natBe 2 1 ++ natBe 2 quanta)
    else d.pfcFrame (d.closedClasses p) quanta)

/-- A pause frame may start on a port: it may transmit, and no frame is in transmission. -/
def Device.mayPause (d : Device) (p : Nat) : Bool := d.portUp p && (mapGet? d.tm.transmit p).isNone

/-- XOFF sent for every class of a port that is closed at that moment: each of them is told, and its resumption is due no more (R79). -/
def Device.tellXoff (d : Device) (p : Nat) : Device :=
  let told := (d.closedClasses p).map (p * 8 + ·)
  let d1 := d.sendXoff p
  { d1 with ports := { d1.ports with xoff := told.foldl setAdd d1.ports.xoff, reopened := told.foldl setDel d1.ports.reopened } }

/-- A class of a port has closed: XOFF is sent (R79). -/
def execPfcXoffTransmit (port : Nat) (s : State) : Host.Outcome State Fault Refusal :=
  onDev (Instr.pfcXoffTransmit port).wf
    (fun _ d =>
      if d.mayPause port && (d.closedClasses port).any (fun c => !setHas d.ports.xoff (port * 8 + c)) then d.tellXoff port else d) s

/-- Half of the pause time has passed while a class stays closed: XOFF is sent again, for every class closed by then (R79). -/
def execPauseRepeat (port : Nat) (s : State) : Host.Outcome State Fault Refusal :=
  onDev (Instr.pauseRepeat port).wf
    (fun _ d =>
      if d.mayPause port && (d.closedClasses port).any (fun c => setHas d.ports.xoff (port * 8 + c)) then d.tellXoff port else d) s

/-- A class for which XOFF was sent has reopened (R79): PFC resumes it; link pause is ended for the whole port, and while another class of
the port stays closed no frame is sent and the resumption stays due. -/
def Device.resume (d : Device) (p cls : Nat) : Device :=
  if d.rd Obj.portConfig p 111 104 = 1 then
    if (d.closedClasses p).isEmpty then
      ({ d with ports := { d.ports with reopened := d.ports.reopened.filter fun k => k / 8 != p } }).sendPause p
        (d.pauseFrame (natBe 2 1 ++ natBe 2 0))
    else d
  else ({ d with ports := { d.ports with reopened := setDel d.ports.reopened (p * 8 + cls) } }).sendPause p (d.pfcFrame [cls] 0)

/-- A reopened class is resumed (R79). -/
def execPauseResumeTransmit (port cls : Nat) (s : State) : Host.Outcome State Fault Refusal :=
  onDev (Instr.pauseResumeTransmit port cls).wf
    (fun _ d =>
      if d.mayPause port && setHas d.ports.reopened (port * 8 + cls) && !d.pauses port cls then d.resume port cls else d) s

end Sys2Proof.Machine
end

