-- ==== Sys2Proof/Machine/Laser.lean ====
section
/-! DEFINITION. Laser sources, swaps and sparing (R82 to R87). Ordinary swaps are kept per optical engine; a source that fails while a
spare is unused moves its feed group under the key 16 + OE × 10 + spare. -/

namespace Sys2Proof.Machine

/-- LASER.Status State (Table 4.7): 0 ACTIVE, 1 SPARE, 2 SWAP_IN, 3 SWAP_OUT, 4 RETIRED, 5 FAILED; FeedGroup; BiasRatio. -/
def Device.laserState (d : Device) (e : Nat) : Nat := d.rd Obj.laserStatus e 63 56
def Device.laserGroup (d : Device) (e : Nat) : Nat := d.rd Obj.laserStatus e 55 48
def Device.biasRatio (d : Device) (e : Nat) : Nat := d.rd Obj.laserStatus e 47 32

/-- LASER.Status as read: the temperature is free at each read. So is the bias ratio of a source that has been lit, but for what the
threshold it has reached says: below 1.500 before BIAS_RATIO_REACHED (log 66). -/
def Device.readLaser (d : Device) (e : Nat) : Nat × Device :=
  let v := d.get Obj.laserStatus e
  let ratio := if d.laserState e = 1 then d.biasRatio e else if d.biasRatio e < 1500 then Config.freeValue d.free % 1500 else Config.freeValue d.free
  (putFld (putFld v 47 32 ratio) 31 16 (Config.freeValue (d.free + 1)), d.spend.spend)

/-- A source's State and feed group set. -/
def Device.setLaser (d : Device) (e st g : Nat) : Device :=
  (d.setFld Obj.laserStatus e 63 56 st).setFld Obj.laserStatus e 55 48 g

/-- LASER.SparesLeft of an optical engine. -/
def Device.sparesLeft (d : Device) (oe : Nat) : Nat := d.get Obj.laserSparesLeft oe

/-- The lower-numbered unused spare of an engine, as a LASER.Status element (R82). -/
def Device.unusedSpare (d : Device) (oe : Nat) : Option Nat :=
  ((List.range 10).map (oe * 10 + ·)).find? fun e => d.laserState e == 1

/-- The lit source of a feed group. -/
def Device.sourceOf (d : Device) (oe g : Nat) : Option Nat :=
  ((List.range 10).map (oe * 10 + ·)).find? fun e => d.laserState e == 0 && d.laserGroup e == g

/-- Targets of a laser source and of a feed group (Table 15.2). -/
def laserTarget (e : Nat) : Nat := 0x910 + e
def feedTarget (oe g : Nat) : Nat := 0x960 + oe * 8 + g

/-- A source's end of life, RETIRED or FAILED, kept in the laser-history fuses (R368). -/
def Device.fuseLaser (d : Device) (e st g : Nat) : Device :=
  let d := d.setLaser e st 0xFF
  { d with ports := { d.ports with fuses := mapPut d.ports.fuses e (st, g) } }

/-- The source a feed group's lanes show (Table 4.5). -/
def Device.feedLanes (d : Device) (oe g e : Nat) : Device :=
  (List.range 4).foldl (fun d i => d.setFld Obj.laneStatus (oe * 32 + g * 4 + i) 15 12 (e % 10)) d

/-- A swap record set or ended. -/
def Device.setSwap (d : Device) (k : Nat) (x : Option Swap) : Device :=
  { d with ports := { d.ports with swap := match x with | some w => mapPut d.ports.swap k w | none => mapDel d.ports.swap k } }

/-- Ports with a lane in a feed group, named OE × 8 + group. -/
def Device.feedPorts (d : Device) (k : Nat) : List Nat := ((List.range 4).filterMap fun i => d.portOf (k * 4 + i)).eraseDups

/-- A feed group loses its light: the links on its lanes go down (R85). -/
def Device.feedGoesDark (d : Device) (c : Clk) (k : Nat) : Device :=
  (d.feedPorts k).foldl (fun d p => d.dropLink c p) { d with ports := { d.ports with feedDark := setAdd d.ports.feedDark k } }

/-- The group of a failed source goes to a spare, which from then on acts for the source's reaction (R320, Table 15.5). -/
def Device.movesTo (d : Device) (old spare : Nat) : Device :=
  { d with ports := { d.ports with moved := mapPut d.ports.moved old (setAdd (mapGet d.ports.moved old []) spare) } }

/-- Every lane shows the spare that feeds its group, where one does (Table 4.5: set at start-up). -/
def Device.feedSources (d : Device) : Device :=
  (List.range 64).foldl (fun d k =>
    match d.sourceOf (k / 8) (k % 8) with
    | some e => if e % 10 = k % 8 then d else d.feedLanes (k / 8) (k % 8) e
    | none => d) d

/-- A swap of a feed group starts (Table 4.10 t0): the spare enters SWAP_IN, the old source SWAP_OUT, and LASER_SWAP is raised. The
event's Unit is the source that goes out: Table 4.8 says only that it is a source (DESIGN CHOICE, log 24). -/
def Device.startSwap (d : Device) (c : Clk) (oe g : Nat) : Device :=
  match d.sourceOf oe g, d.unusedSpare oe with
  | some old, some spare =>
    let d := (d.setLaser spare 2 g).setLaser old 3 g
    let d := d.setSwap oe (some { group := g, old := old, spare := spare, stage := .started })
    (d.portEvent c 3 oe (old % 10) g).raise 0x18 (laserTarget old) g
  | _, _ => d

/-- No spare is left for a source at ratio 1.500: the event is posted and SPARES_OUT reported (R86). -/
def Device.sparesOut (d : Device) (c : Clk) (oe e : Nat) : Device :=
  let g := d.laserGroup e
  if d.condition 0x1A (feedTarget oe g) then d
  else (d.portEvent c 6 oe (e % 10) g).conditionEvent 0x1A (feedTarget oe g) (e % 10) true

/-- A source's group swaps at once, waits for the swap in progress, or finds no spare left (R82, R84, R86). -/
def Device.wantSwap (d : Device) (c : Clk) (oe e : Nat) : Device :=
  if d.sparesLeft oe = 0 then d.sparesOut c oe e
  else if (mapGet? d.ports.swap oe).isSome ∨ (d.unusedSpare oe).isNone then
    let w := mapGet d.ports.swapWait oe []
    if w.contains e then d else { d with ports := { d.ports with swapWait := mapPut d.ports.swapWait oe (w ++ [e]) } }
  else d.startSwap c oe (d.laserGroup e)

/-- The next waiting source of an engine, after a swap has ended (R84); with no spare left every waiting source is reported, and while the
last spare ramps for a failed source they go on waiting. -/
def Device.nextSwap (d : Device) (c : Clk) (oe : Nat) : Nat → Device
  | 0 => d
  | n + 1 =>
    match mapGet d.ports.swapWait oe [] with
    | [] => d
    | e :: rest =>
      if (mapGet? d.ports.swap oe).isSome ∨ ((d.unusedSpare oe).isNone ∧ d.sparesLeft oe ≠ 0) then d
      else
        let d := { d with ports := { d.ports with swapWait := mapSet d.ports.swapWait oe rest [] } }
        Device.nextSwap (if d.laserState e = 0 then d.wantSwap c oe e else d) c oe n

/-- A source's bias ratio reaches 1.500 (R82, R84, R86). -/
def execBiasRatioReached (oe source : Nat) (s : State) : Host.Outcome State Fault Refusal :=
  onDev (Instr.biasRatioReached oe source).wf
    (fun c d =>
      let e := oe * 10 + source
      if d.opticsOn && d.laserState e == 0 then (d.setFld Obj.laserStatus e 47 32 1500).wantSwap c oe e else d) s

/-- A write of LASER.SwapRequest (R82). While a spare ramps for a failed source the write is refused with BUSY where no spare is unused, and
otherwise accepted; a group with no ACTIVE source has nothing to swap, so that it then changes nothing (DESIGN CHOICE, log 24). -/
def Device.writeSwapRequest (d : Device) (c : Clk) (oe g : Nat) : Wr :=
  if 7 < g ∨ d.sparesLeft oe = 0 then .error stType
  else if (mapGet? d.ports.swap oe).isSome ∨ (d.unusedSpare oe).isNone then .error stBusy
  else .ok (d.startSwap c oe g)

/-- A stage of an engine's swap is reached. -/
def Device.swapStage (d : Device) (oe : Nat) (w : Swap) (st : SwapStage) : Device := d.setSwap oe (some { w with stage := st })

/-- The spare is settled at minimum power (Table 4.10 t1). -/
def execLaserSwapSettled (oe : Nat) (s : State) : Host.Outcome State Fault Refusal :=
  onDev (Instr.laserSwapSettled oe).wf
    (fun _ d => match mapGet? d.ports.swap oe with
      | some w => if w.stage = .started then d.swapStage oe w .settled else d
      | none => d) s

/-- The spare has reached full share and the old source is dark (Table 4.10 t2): the lanes show the spare. -/
def execLaserSwapFullShare (oe : Nat) (s : State) : Host.Outcome State Fault Refusal :=
  onDev (Instr.laserSwapFullShare oe).wf
    (fun _ d => match mapGet? d.ports.swap oe with
      | some w => if w.stage = .settled then (d.feedLanes oe w.group w.spare).swapStage oe w .fullShare else d
      | none => d) s

/-- LASER.SparesLeft falls by one. -/
def Device.useSpare (d : Device) (oe : Nat) : Device := d.set Obj.laserSparesLeft oe (d.sparesLeft oe - 1)

/-- The swap is complete (Table 4.10 t3), and the next waiting one starts (R84). The event's Unit is the source that came in
(DESIGN CHOICE, log 24). -/
def Device.completeSwap (d : Device) (c : Clk) (oe : Nat) (w : Swap) : Device :=
  let d := (d.fuseLaser w.old 4 w.group).setLaser w.spare 0 w.group
  let d := ((d.useSpare oe).setSwap oe none).portEvent c 4 oe (w.spare % 10) w.group
  d.nextSwap c oe 10

/-- The swap in progress completes. -/
def execLaserSwapComplete (oe : Nat) (s : State) : Host.Outcome State Fault Refusal :=
  onDev (Instr.laserSwapComplete oe).wf
    (fun c d => match mapGet? d.ports.swap oe with
      | some w => if w.stage = .fullShare then d.completeSwap c oe w else d
      | none => d) s

/-! ### Failures (R85, R86) -/

/-- A feed group that no source can feed, permanently: FEED_DARK is reported, whose reaction fences it (R86). -/
def Device.feedGone (d : Device) (oe g src : Nat) : Device :=
  let d := { d with ports := { d.ports with feedDead := setAdd d.ports.feedDead (oe * 8 + g) } }
  d.conditionEvent 0x1B (feedTarget oe g) src true

/-- A feed group whose source has failed is dark; it moves to a spare at once, or can no longer be fed (R85, R86). -/
def Device.moveGroup (d : Device) (c : Clk) (oe g old : Nat) : Device :=
  let d := d.feedGoesDark c (oe * 8 + g)
  match d.unusedSpare oe with
  | none => d.feedGone oe g (old % 10)
  | some spare =>
    ((d.setLaser spare 2 g).setSwap (16 + spare) (some { group := g, old := old, spare := spare, stage := .failed })).movesTo old spare

/-- The swap, of either kind, in which a source is the spare: its key and record. -/
def Device.swapInOf (d : Device) (e : Nat) : Option (Nat × Swap) := d.ports.swap.find? fun kv => kv.2.spare == e

/-- The old source of a swap abandoned as its spare `e` failed feeds its group alone again: a new swap starts with the other spare, which
then acts for `e`'s reaction (R85, R320), or the source waits for one, or the group has no spare left (R84, R86). -/
def Device.swapAbandoned (d : Device) (c : Clk) (oe old g e : Nat) : Device :=
  let d := (d.setLaser old 0 g).feedLanes oe g old
  let d := match d.unusedSpare oe with
    | some spare => (d.movesTo e spare).startSwap c oe g
    | none => if 1500 ≤ d.biasRatio old then d.wantSwap c oe old else d
  d.nextSwap c oe 10

/-- A spare that ramps for a failed source fails too: the group moves on to the other spare, which then acts for both reactions (R85,
R320); with none left the sources that wait are reported (R86). -/
def Device.rampFailed (d : Device) (c : Clk) (oe old g e : Nat) : Device :=
  let d := match d.unusedSpare oe with
    | some spare => d.movesTo e spare
    | none => d
  (d.moveGroup c oe g old).nextSwap c oe 10

/-- A lit source is FAILED and what it fed goes on as R85 says. After t2 of Table 4.10, the old source dark and the spare at full share, R85 does
not say what the lanes do: they stay lit, fed by the old source again, as the spare fails, and are darkened as the old source does
(DESIGN CHOICE, log 87). -/
def Device.failSource (d : Device) (c : Clk) (oe e : Nat) : Device :=
  let g := d.laserGroup e
  match d.laserState e with
  | 0 => (d.fuseLaser e 5 g).moveGroup c oe g e
  | 3 =>
    match mapGet? d.ports.swap oe with
    | some w => (((d.fuseLaser e 5 g).swapStage oe w .failed).movesTo e w.spare).feedGoesDark c (oe * 8 + g)
    | none => d
  | 2 =>
    match d.swapInOf e with
    | some (k, w) =>
      let d := (((d.fuseLaser e 5 g).useSpare oe).setSwap k none)
      if d.laserState w.old = 3 then d.swapAbandoned c oe w.old g e else d.rampFailed c oe w.old g e
    | none => d
  | _ => d

/-- A source that has light to lose: ACTIVE, SWAP_IN or SWAP_OUT. -/
def Device.canFail (d : Device) (e : Nat) : Bool := d.laserState e == 0 || d.laserState e == 2 || d.laserState e == 3

/-- A source that the Lookout's reaction makes FAILED: its failure is an event of its optical engine (R85, R87), unless it emits nothing. -/
def Device.fenceSource (d : Device) (c : Clk) (e : Nat) : Device :=
  if d.canFail e then (d.portEvent c 5 (e / 10) (e % 10) (d.laserGroup e)).failSource c (e / 10) e else d

/-- A source loses its output abruptly (R85): the event is posted, LASER_FAILED raised, and then what it fed goes on. A source that emits
nothing cannot. -/
def execLaserSourceFailed (oe source : Nat) (s : State) : Host.Outcome State Fault Refusal :=
  onDev (Instr.laserSourceFailed oe source).wf
    (fun c d =>
      let e := oe * 10 + source
      if d.opticsOn && d.canFail e then
        let g := d.laserGroup e
        ((d.portEvent c 5 oe source g).raise 0x19 (laserTarget e) g).failSource c oe e
      else d) s

/-- The spare of a failed source has reached full power (R85): its group is lit again. It shows SWAP_IN until then, and SparesLeft falls
now, as at the end of a swap: R85 states neither for a failed source (DESIGN CHOICE, log 24). -/
def Device.fullPower (d : Device) (c : Clk) (oe k : Nat) (w : Swap) : Device :=
  let d := (((d.setLaser w.spare 0 w.group).feedLanes oe w.group w.spare).useSpare oe).setSwap k none
  let d := { d with ports := { d.ports with feedDark := setDel d.ports.feedDark (oe * 8 + w.group) } }
  d.nextSwap c oe 10

/-- A spare reaches full power. -/
def execSpareFullPower (oe source : Nat) (s : State) : Host.Outcome State Fault Refusal :=
  onDev (Instr.spareFullPower oe source).wf
    (fun c d =>
      match d.swapInOf (oe * 10 + source) with
      | some (k, w) => if w.stage = .failed then d.fullPower c oe k w else d
      | none => d) s

/-- With no spare left, a source that holds its target reaches ratio 1.800, or one cannot hold its target, whatever its ratio (R86). -/
def execBiasRatioLimit (oe source : Nat) (held : Bool) (s : State) : Host.Outcome State Fault Refusal :=
  onDev (Instr.biasRatioLimit oe source held).wf
    (fun c d =>
      let e := oe * 10 + source
      if d.opticsOn && d.laserState e == 0 && d.sparesLeft oe == 0 then
        let d := if held then (d.setFld Obj.laserStatus e 47 32 1800).sparesOut c oe e else d
        d.feedGone oe (d.laserGroup e) source
      else d) s

/-! ### Fences of a feed group (R71, R86) -/

/-- The source that the event of a feed group's fence names: the one that feeds it; where none does, the lowest-numbered one that has
FAILED as it fed it (DESIGN CHOICE, log 24). -/
def Device.feedSource (d : Device) (oe g : Nat) : Nat :=
  match d.sourceOf oe g with
  | some e => e % 10
  | none =>
    match d.ports.fuses.find? fun kv => kv.1 / 10 == oe && kv.2 == (5, g) with
    | some kv => kv.1 % 10
    | none => g

/-- A feed group fenced by the Lookout: its lanes are dark and every port with a lane in it is fenced. -/
def Device.fenceFeed (d : Device) (c : Clk) (k : Nat) : Device :=
  if setHas d.ports.feedFenced k then d
  else
    let ports := d.feedPorts k
    let d : Device := { d with ports := { d.ports with feedFenced := setAdd d.ports.feedFenced k } }
    let d : Device := ports.foldl (fun d p => (d.setLocks p false).dropLink c p) d
    let d : Device := (List.range 4).foldl (fun d i => d.setFld Obj.laneStatus (k * 4 + i) 63 56 1) d
    let d : Device := ports.foldl (fun d p => if d.get Obj.portEnable p = 1 then d.setEnable c p false else d) d
    d.portEvent c 7 (k / 8) (d.feedSource (k / 8) (k % 8)) (k % 8)

/-- A fenced feed group returned: its lanes are relit, and PORT.Enable stays 0. One that no source can feed stays fenced (R86). -/
def Device.unfenceFeed (d : Device) (k : Nat) : Device :=
  if setHas d.ports.feedDead k then d
  else { d with ports := { d.ports with feedFenced := setDel d.ports.feedFenced k } }

end Sys2Proof.Machine
end

