-- ==== Sys2Proof/Machine/Tables.lean ====
section
/-! DEFINITION. The forwarding tables (chapter 06): Layer-2 tables with learning and aging, LPM, direct-indexed tables, ECMP, the flow
table with its caches, and what INSERT, UPDATE, DELETE, SEARCH, NEXT and FLUSH_BY_PORT do to each. A command's outcome is the device,
a completion status and a result. -/

namespace Sys2Proof.Machine

/-- Completion statuses (Table 3.10). -/
abbrev csOk : Nat := 0
abbrev csNotFound : Nat := 1
abbrev csExists : Nat := 2
abbrev csFull : Nat := 3
abbrev csMalformed : Nat := 4
abbrev csCursor : Nat := 5
abbrev csPartial : Nat := 6
abbrev csStopped : Nat := 7
abbrev csBusy : Nat := 8
abbrev csFenced : Nat := 9
abbrev csTimeout : Nat := 10

/-- A command's outcome: the device, its status and its 64-bit result. -/
abbrev Outcome := Device × Nat × Nat

/-- A field of TBL.Counters (Table 6.15) moved by a signed amount: 0 L2Entries, 1 Learned, 2 Moves, 3 AgedOut, 4 LearnFull,
5 LearnDropped, 6 NotifyDropped, 7 FlowCacheHits, 8 FlowCacheMisses, 9 FlowUnresolved. -/
def Device.tblCount (d : Device) (slice k : Nat) (n : Int) : Device := d.bump Obj.tblCounters slice 10 k (ofSigned 64 n)

/-- A field of TBL.Shared (Table 6.16): 0 LpmUnits, 1 FlowEntries, 2 FlowRelocations, 3 FlowInsertFull. -/
def Device.sharedCount (d : Device) (k : Nat) (n : Int) : Device := d.bump Obj.tblShared 0 4 k (ofSigned 64 n)

/-! ### Operands (R116, Table 6.2) -/

/-- Bytes of a table's key in an operand, and of its data. -/
def keyBytes (table : Nat) : Nat := if table = 1 ∨ table = 2 then 8 else if table = 3 then 12 else if table = 9 then 40 else 0
def dataBytes (table : Nat) : Nat := if table = 4 then 32 else if table = 5 ∨ table = 6 then 16 else 8

/-- Indices of a direct-indexed table; 0 for the others. -/
def directSize (table : Nat) : Nat :=
  match table with
  | 4 => 1048576
  | 5 => 65536
  | 6 => 256
  | 7 => 16384
  | 8 => 1048576
  | _ => 0

/-- Reserved bits of an entry's data cleared (Tables 6.4 to 6.11, R6). -/
def cleanEntry (table v : Nat) : Nat :=
  match table with
  | 1 => putFld (putFld v 54 48 0) 19 0 0
  | 2 => putFld v 55 52 0
  | 3 => putFld v 55 52 0
  | 4 => putFld (putFld (putFld v 239 234 0) 101 96 0) 59 58 0
  | 5 => putFld (putFld (putFld v 118 112 0) 67 64 0) 37 32 0
  | 6 => putFld (putFld (putFld v 118 112 0) 79 64 0) 37 32 0
  | 7 => putFld (putFld v 55 52 0) 31 26 0
  | 8 => putFld v 55 52 0
  | _ => putFld v 55 48 0

/-- The key as it is stored: an LPM prefix without the bits beyond its length, reserved bits cleared (Table 6.5). -/
def cleanKey (table k : Nat) : Nat :=
  let len := fld k 15 8
  match table with
  | 2 => at_ 63 48 (fld k 63 48) + at_ 47 16 (fld k 47 16 / 2 ^ (32 - len) * 2 ^ (32 - len)) + at_ 15 8 len
  | 3 => at_ 95 80 (fld k 95 80) + at_ 79 16 (fld k 79 16 / 2 ^ (64 - len) * 2 ^ (64 - len)) + at_ 15 8 len
  | _ => k

/-- A key or data field lies in the range its table states (R116). -/
def keyOk (table k : Nat) : Bool :=
  match table with
  | 2 => decide (fld k 15 8 ≤ 32)
  | 3 => decide (fld k 15 8 ≤ 64)
  | _ => true
def dataOk (table v : Nat) : Bool :=
  if table = 7 then decide (1 ≤ fld v 25 16 ∧ fld v 25 16 ≤ 512 ∧ fld v 51 32 + fld v 25 16 ≤ 1048576) else true

/-! ### Layer-2 (R118) -/

/-- The set of a key. -/
def l2Set (key : Nat) : Nat := crc32c (natBe 8 key) % 65536

/-- The place of a way in the store. -/
def l2Key (slice set way : Nat) : Nat := slice * 262144 + set * 4 + way

/-- The entry of a key in a slice: its index and the entry. -/
def Device.l2Find (d : Device) (slice key : Nat) : Option (Nat × L2Entry) :=
  (List.range 4).findSome? fun w =>
    match mapGet? d.tbl.l2 (l2Key slice (l2Set key) w) with
    | some e => if e.key = key then some (l2Set key * 4 + w, e) else none
    | none => none

/-- A free way of a key's set, free which (log 8). -/
def Device.l2Free (d : Device) (slice key : Nat) : Option Nat :=
  (nextFree (fun w => (mapGet? d.tbl.l2 (l2Key slice (l2Set key) w)).isSome) 4 4 (Config.freeValue d.free)).map (l2Set key * 4 + ·)

/-- An entry put at an index of a slice. -/
def Device.l2Put (d : Device) (slice idx : Nat) (e : L2Entry) : Device :=
  { d with tbl := { d.tbl with l2 := mapPut d.tbl.l2 (slice * 262144 + idx) e } }

/-- An entry removed. -/
def Device.l2Del (d : Device) (slice idx : Nat) : Device :=
  ({ d with tbl := { d.tbl with l2 := mapDel d.tbl.l2 (slice * 262144 + idx) } }).tblCount slice 0 (-1)

/-- Port and STATIC of Layer-2 data (Table 6.4). -/
def l2Port (v : Nat) : Nat := fld v 47 40
def l2Static (v : Nat) : Bool := bit v 55

/-- An entry as a command writes it (R123). -/
def l2Written (c : Clk) (key data : Nat) : L2Entry :=
  { key := key, data := data, hit := true, strikes := 0, learned := false, changed := c.time80 }

/-- INSERT into one slice. -/
def Device.l2Insert (d : Device) (c : Clk) (slice key data : Nat) : Outcome :=
  match d.l2Find slice key with
  | some (i, _) => (d, csExists, i)
  | none =>
    match d.l2Free slice key with
    | none => (d, csFull, 0)
    | some i => ((d.spend.l2Put slice i (l2Written c key data)).tblCount slice 0 1, csOk, i)

/-- UPDATE, DELETE and SEARCH of one slice. -/
def Device.l2Update (d : Device) (c : Clk) (slice key data : Nat) : Outcome :=
  match d.l2Find slice key with
  | some (i, _) => (d.l2Put slice i (l2Written c key data), csOk, i)
  | none => (d, csNotFound, 0)
def Device.l2Delete (d : Device) (slice key : Nat) : Outcome :=
  match d.l2Find slice key with
  | some (i, _) => (d.l2Del slice i, csOk, i)
  | none => (d, csNotFound, 0)

/-- A command applied to each slice of a scope: the first failing status, and SL0's result (Table 3.6). -/
def overSlices (f : Device → Nat → Outcome) (d : Device) (scope : Nat) : Outcome :=
  if scope < 4 then f d scope
  else
    let a := f d 0
    let b := f a.1 1
    let c := f b.1 2
    let e := f c.1 3
    (e.1, if a.2.1 ≠ 0 then a.2.1 else if b.2.1 ≠ 0 then b.2.1 else if c.2.1 ≠ 0 then c.2.1 else e.2.1, a.2.2)

/-! ### LPM (R124) -/

/-- A prefix's entry by exact key. -/
def Device.lpmFind (d : Device) (v6 : Bool) (vrf pfx len : Nat) : Option (Nat × LpmEntry) :=
  d.tbl.lpm.find? fun kv => kv.2.v6 == v6 && kv.2.vrf == vrf && kv.2.pfx == pfx && kv.2.len == len

/-- Units in use. -/
def Device.lpmUsed (d : Device) (u : Nat) : Bool :=
  d.tbl.lpm.any fun kv => kv.1 == u || kv.2.second == some u

/-- Units a prefix of a kind takes. -/
def lpmUnits (v6 : Bool) : Nat := if v6 then 2 else 1

/-- Units of the store. -/
def lpmSize : Nat := 2097152

/-- TBL.Shared LpmUnits. -/
def Device.lpmInUse (d : Device) : Nat := (d.tbl.lpm.map fun kv => lpmUnits kv.2.v6).sum

/-- The parts of an LPM key: VRF, prefix, length. -/
def lpmParts (v6 : Bool) (k : Nat) : Nat × Nat × Nat :=
  if v6 then (fld k 95 80, fld k 79 16, fld k 15 8) else (fld k 63 48, fld k 47 16, fld k 15 8)

/-- INSERT of a prefix; which free units it takes is free (log 8). -/
def Device.lpmInsert (d : Device) (c : Clk) (v6 : Bool) (key data : Nat) : Outcome :=
  let (vrf, pfx, len) := lpmParts v6 key
  match d.lpmFind v6 vrf pfx len with
  | some (u, _) => (d, csExists, u)
  | none =>
    if lpmSize < d.lpmInUse + lpmUnits v6 then (d, csFull, 0)
    else
      match nextFree d.lpmUsed lpmSize lpmSize (Config.freeValue d.free) with
      | none => (d, csFull, 0)
      | some u =>
        let second := if v6 then nextFree (fun x => x == u || d.lpmUsed x) lpmSize lpmSize (Config.freeValue (d.free + 1)) else none
        let e : LpmEntry := { v6 := v6, vrf := vrf, pfx := pfx, len := len, data := data, second := second, changed := c.time80 }
        let d := { d.spend.spend with tbl := { d.tbl with lpm := mapPut d.tbl.lpm u e } }
        (d.sharedCount 0 (lpmUnits v6), csOk, u)

/-- UPDATE of a prefix. -/
def Device.lpmUpdate (d : Device) (c : Clk) (v6 : Bool) (key data : Nat) : Outcome :=
  let (vrf, pfx, len) := lpmParts v6 key
  match d.lpmFind v6 vrf pfx len with
  | none => (d, csNotFound, 0)
  | some (u, e) => ({ d with tbl := { d.tbl with lpm := mapPut d.tbl.lpm u { e with data := data, changed := c.time80 } } }, csOk, u)

/-- DELETE of a prefix. -/
def Device.lpmDelete (d : Device) (v6 : Bool) (key : Nat) : Outcome :=
  let (vrf, pfx, len) := lpmParts v6 key
  match d.lpmFind v6 vrf pfx len with
  | none => (d, csNotFound, 0)
  | some (u, _) =>
    (({ d with tbl := { d.tbl with lpm := mapDel d.tbl.lpm u } }).sharedCount 0 (-(lpmUnits v6 : Int)), csOk, u)

/-- Whether a prefix of `w`-bit addresses covers an address. -/
def covers (w pfx len addr : Nat) : Bool := pfx / 2 ^ (w - len) == addr / 2 ^ (w - len)

/-- The longest prefix that covers an address in a VRF, with its unit (R124). An IPv6 lookup key carries the 64 most significant bits. -/
def Device.lpmLookup (d : Device) (v6 : Bool) (vrf addr : Nat) : Option (Nat × LpmEntry) :=
  let w := if v6 then 64 else 32
  d.tbl.lpm.foldl (fun (best : Option (Nat × LpmEntry)) kv =>
    let e := kv.2
    if e.v6 == v6 && e.vrf == vrf && covers w e.pfx e.len addr then
      match best with
      | some b => if b.2.len < e.len then some kv else best
      | none => some kv
    else best) none

/-! ### Direct-indexed tables and ECMP (R126, R127) -/

/-- An index of a direct-indexed table; one beyond its last entry holds none (R207). -/
def Device.direct (d : Device) (table i : Nat) : Option Entry :=
  if i < directSize table then mapGet? d.tbl.direct (table * 2 ^ 24 + i) else none

/-- INSERT, UPDATE and DELETE of an index. -/
def Device.directInsert (d : Device) (c : Clk) (table i data : Nat) : Outcome :=
  match d.direct table i with
  | some _ => (d, csExists, i)
  | none =>
    ({ d with tbl := { d.tbl with direct := mapPut d.tbl.direct (table * 2 ^ 24 + i) { key := 0, data := data, changed := c.time80 } } },
     csOk, i)
def Device.directUpdate (d : Device) (c : Clk) (table i data : Nat) : Outcome :=
  match d.direct table i with
  | none => (d, csNotFound, 0)
  | some _ =>
    ({ d with tbl := { d.tbl with direct := mapPut d.tbl.direct (table * 2 ^ 24 + i) { key := 0, data := data, changed := c.time80 } } },
     csOk, i)
def Device.directDelete (d : Device) (table i : Nat) : Outcome :=
  match d.direct table i with
  | none => (d, csNotFound, 0)
  | some _ => ({ d with tbl := { d.tbl with direct := mapDel d.tbl.direct (table * 2 ^ 24 + i) } }, csOk, i)

/-- The member a hash selects of `n` (R111). -/
def memberOf (hash n : Nat) : Nat := fld hash 31 16 * n / 2 ^ 16

/-- An ECMP lookup (R127): the selected member's index, the group's data and the member's. -/
def Device.ecmpLookup (d : Device) (g hash : Nat) : Option (Nat × Nat × Nat) :=
  match d.direct 7 g with
  | none => none
  | some e =>
    let i := fld e.data 51 32 + memberOf hash (fld e.data 25 16)
    (d.direct 8 i).map fun m => (i, e.data, m.data)

/-! ### Flow table (R128 to R130) -/

/-- A slot that no copy can serve (R128, R251). -/
def Device.slotFenced (d : Device) (i : Nat) : Bool := !d.blockServed (flowBlock i)

/-- A slot that cannot be read: fenced or poisoned (R128, R267). -/
def Device.slotBad (d : Device) (i : Nat) : Bool := d.blockBad (flowBlock i)

/-- Whether a slot holds a key. -/
def Device.slotHas (d : Device) (i key : Nat) : Bool :=
  match mapGet? d.tbl.flow i with
  | some e => e.key == key
  | none => false

/-- A slot written whole, or cleared, in both copies (R128); a whole write clears its poison (R267). -/
def Device.slotWrite (d : Device) (i : Nat) (e : Option Entry) : Device :=
  let d := { d with tbl := { d.tbl with flow := match e with | some x => mapPut d.tbl.flow i x | none => mapDel d.tbl.flow i } }
  d.wholeWrite (flowBlock i)

/-- The other candidate slot of the entry in a slot. -/
def otherSlot (e : Entry) (i : Nat) : Nat := let s := flowSlots e.key; if s.1 = i then s.2 else s.1

/-- A slot an entry can be written into: free, or poisoned (R267). -/
def Device.slotFree (d : Device) (i : Nat) : Bool :=
  !d.slotFenced i && (d.poisoned (flowBlock i) || (mapGet? d.tbl.flow i).isNone)

/-- The relocation path from a slot: the slots in order, ending at a free one, with at most `n` moves (R129). -/
def Device.flowPath (d : Device) : Nat → Nat → Option (List Nat)
  | 0, i => if d.slotFree i then some [i] else none
  | n + 1, i =>
    if d.slotFree i then some [i]
    else if d.slotFenced i then none
    else match mapGet? d.tbl.flow i with
      | none => none
      | some e => (Device.flowPath d n (otherSlot e i)).map (i :: ·)

/-- The moves of a path, from its end (R129): each entry is written to the next slot, then its old slot is cleared. -/
def Device.flowMoves (d : Device) (c : Clk) : List Nat → Device
  | a :: b :: rest =>
    let d := Device.flowMoves d c (b :: rest)
    match mapGet? d.tbl.flow a with
    | some e => ((d.slotWrite b (some { e with changed := c.time80 })).slotWrite a none).sharedCount 2 1
    | none => d
  | _ => d

/-- The cache key of a set of a slice's flow cache. -/
def cacheKey (slice key : Nat) : Nat := slice * 2 ^ 20 + Config.flowCacheSet key % 16384

/-- A key's cached copies changed in every slice: replaced, or dropped (R130). -/
def Device.recache (d : Device) (key : Nat) (e : Option Entry) : Device :=
  (List.range 4).foldl (fun d s =>
    let k := cacheKey s key
    let ways := mapGet d.tbl.flowCache k []
    let ways' := match e with
      | some x => ways.map fun w => if w.1 = key then (key, x) else w
      | none => ways.filter fun w => w.1 != key
    { d with tbl := { d.tbl with flowCache := mapSet d.tbl.flowCache k ways' [] } }) d

/-- A key that a poisoned slot holds leaves the caches as the slot is written anew (R130, R267). -/
def Device.dropStale (d : Device) (i : Nat) : Device :=
  match mapGet? d.tbl.flow i with
  | some e => d.recache e.key none
  | none => d

/-- The entry of a key that a poisoned slot still holds is lost as the key is inserted into another slot, so that no key has two slots
(DEDUCED from R128 and R267, log 26). -/
def Device.dropGhost (d : Device) (key i : Nat) : Device :=
  if d.slotHas i key then ({ d with tbl := { d.tbl with flow := mapDel d.tbl.flow i } }).sharedCount 1 (-1) else d

/-- The slots that the search of a relocation path from a slot reads, whether or not it reaches a free one (R129). -/
def Device.flowWalk (d : Device) : Nat → Nat → List Nat
  | 0, i => [i]
  | n + 1, i =>
    if d.slotFree i || d.slotFenced i then [i]
    else match mapGet? d.tbl.flow i with
      | none => [i]
      | some e => i :: Device.flowWalk d n (otherSlot e i)

/-- The slots that an INSERT reads (R128, R129): both candidates and, where neither ends it or is free, those that the searches of the two
relocation paths look at. -/
def Device.insertReads (d : Device) (key : Nat) : List Nat :=
  let s := flowSlots key
  let ends (i : Nat) : Bool := d.slotFenced i || (d.slotHas i key && !d.poisoned (flowBlock i)) || d.slotFree i
  s.1 :: s.2 :: if ends s.1 || ends s.2 then [] else d.flowWalk 16 s.1 ++ d.flowWalk 16 s.2

/-- The slots that an INSERT can be written along: a free candidate alone, else the relocation paths (R129). -/
def Device.flowPaths (d : Device) (a b : Nat) : List (List Nat) :=
  let room := [a, b].filter d.slotFree
  if room.isEmpty then [d.flowPath 16 a, d.flowPath 16 b].filterMap id else room.map fun i => [i]

/-- INSERT of a flow (R129): into a free candidate slot, or along a relocation path; which of two slots or paths is free (log 8). -/
def Device.flowInsert (d : Device) (c : Clk) (key data : Nat) : Outcome :=
  let (a, b) := flowSlots key
  let e : Entry := { key := key, data := data, changed := c.time80 }
  if d.slotFenced a ∨ d.slotFenced b then (d, csFenced, 0)
  else if d.slotHas a key && !d.poisoned (flowBlock a) then (d, csExists, a)
  else if d.slotHas b key && !d.poisoned (flowBlock b) then (d, csExists, b)
  else
    let paths := d.flowPaths a b
    match paths[Config.freeValue d.free % paths.length]? with
    | some (i :: rest) =>
      let last := (i :: rest).getLast?.getD i
      let occupied := (mapGet? d.tbl.flow last).isSome
      let d := [a, b].foldl (fun d j => if j = last then d else d.dropGhost key j) (d.spend.dropStale last)
      let d := ((d.flowMoves c (i :: rest)).slotWrite i (some e)).recache key (some e)
      (if occupied then d else d.sharedCount 1 1, csOk, i)
    | _ => (d.sharedCount 3 1, csFull, 0)

/-- A slot that a command with a key can use: one that can be read or, for an UPDATE, a poisoned one that held the key, which it rewrites
whole (R267). -/
def Device.slotReadable (d : Device) (key : Nat) (rewrite : Bool) (i : Nat) : Bool :=
  !d.slotBad i || (rewrite && !d.slotFenced i && d.slotHas i key)

/-- The slot in which a command finds a key, or the status it ends with. UPDATE,
DELETE and SEARCH look at slot h1 first and address h2 only where h1 does not hold the key; INSERT addresses both. Which slots a command
addresses, whose fence ends it with FENCED, R128 leaves open (DESIGN CHOICE, log 26). -/
def Device.flowAt (d : Device) (key : Nat) (rewrite : Bool) : Except Nat Nat :=
  let (a, b) := flowSlots key
  if !d.slotReadable key rewrite a then .error csFenced
  else if d.slotHas a key then .ok a
  else if !d.slotReadable key rewrite b then .error csFenced
  else if d.slotHas b key then .ok b
  else .error csNotFound

/-- UPDATE and DELETE of a flow. -/
def Device.flowUpdate (d : Device) (c : Clk) (key data : Nat) : Outcome :=
  match d.flowAt key true with
  | .error st => (d, st, 0)
  | .ok i =>
    let e : Entry := { key := key, data := data, changed := c.time80 }
    ((d.slotWrite i (some e)).recache key (some e), csOk, i)
def Device.flowDelete (d : Device) (key : Nat) : Outcome :=
  match d.flowAt key false with
  | .error st => (d, st, 0)
  | .ok i => (((d.slotWrite i none).sharedCount 1 (-1)).recache key none, csOk, i)

/-- A flow entry as a lookup in HBM finds it, with its slot: a bad slot reads as a miss (R128, R267). -/
def Device.flowRead (d : Device) (key : Nat) : Option (Nat × Entry) :=
  let (a, b) := flowSlots key
  if !d.slotBad a && d.slotHas a key then (mapGet? d.tbl.flow a).map fun e => (a, e)
  else if !d.slotBad b && d.slotHas b key then (mapGet? d.tbl.flow b).map fun e => (b, e)
  else none

/-- A slice's flow cache looked up: a hit becomes the most recently used way and is counted; a miss is counted (R130). -/
def Device.cacheLookup (d : Device) (slice key : Nat) : Option Entry × Device :=
  let k := cacheKey slice key
  let ways := mapGet d.tbl.flowCache k []
  match ways.find? fun w => w.1 == key with
  | some w =>
    (some w.2, ({ d with tbl := { d.tbl with flowCache := mapPut d.tbl.flowCache k (w :: ways.filter fun x => x.1 != key) } }).tblCount
      slice 7 1)
  | none => (none, d.tblCount slice 8 1)

/-- An entry found in HBM enters the slice's flow cache, replacing the least recently used of 8 ways (R130). -/
def Device.cacheFill (d : Device) (slice key : Nat) (e : Entry) : Device :=
  let k := cacheKey slice key
  let ways := (mapGet d.tbl.flowCache k []).filter fun x => x.1 != key
  { d with tbl := { d.tbl with flowCache := mapPut d.tbl.flowCache k (((key, e) :: ways).take 8) } }

/-- Flow lookups a slice has sent to HBM in the window of an instant (R131). -/
def Device.sentIn (d : Device) (window slice : Nat) : Nat :=
  match mapGet? d.sl.budget slice with
  | some (n, w) => if w = window then n else 0
  | none => 0

/-- The reserve of a slice that has sent `sent` lookups in this window, in fifths of a lookup (R131): t is 0.8 ns for each tick. -/
def flowReserve (c : Clk) (sent : Nat) : Nat := min (5 * (750 - sent)) (3 * (1250 - c.ticks % 1250))

/-- Whether a cache miss of a slice is sent to HBM (R131), and the device with it counted or reported not resolved. The 1 µs windows, whose origin
R131 does not give, begin at the multiples of 1,250 ticks since power-on (DESIGN CHOICE, log 88). -/
def Device.sendFlow (d : Device) (c : Clk) (slice : Nat) : Bool × Device :=
  let window := c.ticks / 1250
  let sent := ((List.range 4).map (d.sentIn window)).sum
  let reserves := (((List.range 4).filter (· != slice)).map fun j => flowReserve c (d.sentIn window j)).sum
  if 5 * (sent + 1) + reserves ≤ 5 * 3000 then
    (true, { d with sl := { d.sl with budget := mapPut d.sl.budget slice (d.sentIn window slice + 1, window) } })
  else (false, d.tblCount slice 9 1)

/-! ### Learning and aging (R119 to R123) -/

/-- A Layer-2 event that its slice's L2.Notify asks for: it is written to L2.Event and waits to be sent (R121). -/
def Device.l2Event (d : Device) (c : Clk) (slice kind key port old : Nat) : Device :=
  if bit (d.get Obj.l2Notify slice) (kind - 1) then
    let v := at_ 127 120 kind + at_ 119 118 slice + at_ 111 48 key + at_ 47 40 port + at_ 39 32 old + c.short
    let d := d.set Obj.l2Event 0 v
    let q := mapGet d.sl.events slice []
    if 4096 ≤ q.length then d.tblCount slice 6 1
    else { d with sl := { d.sl with events := mapPut d.sl.events slice (q ++ [v]) } }
  else d

/-- A learning outcome written (R120). Of the checks of a key that finds its set full, those merged in the queue count once in LearnFull,
and take the queue's place that any outcome does: the rule states the merging for Learned and Moves (DESIGN CHOICE, log 69). -/
def Device.learn (d : Device) (c : Clk) (slice : Nat) (l : Learn) : Device :=
  match d.l2Find slice l.key with
  | some (i, e) =>
    if l2Static e.data then d
    else if l2Port e.data = l.port then d.l2Put slice i { e with hit := true, strikes := 0, changed := c.time80 }
    else
      let e' : L2Entry := { e with data := putFld e.data 47 40 l.port, hit := true, strikes := 0, learned := true, changed := c.time80 }
      ((d.l2Put slice i e').tblCount slice 2 1).l2Event c slice 2 l.key l.port (l2Port e.data)
  | none =>
    match d.l2Free slice l.key with
    | none => d.tblCount slice 4 1
    | some i =>
      let e : L2Entry := { key := l.key, data := at_ 63 56 l.action + at_ 47 40 l.port, hit := true, strikes := 0, learned := true,
                           changed := c.time80 }
      (((d.spend.l2Put slice i e).tblCount slice 0 1).tblCount slice 1 1).l2Event c slice 1 l.key l.port 0

/-- The oldest learning outcome of a slice is written. -/
def execLearnWrite (slice : Nat) (s : State) : Host.Outcome State Fault Refusal :=
  onDev (Instr.learnWrite slice).wf
    (fun c d =>
      match mapGet d.sl.learn slice [] with
      | [] => d
      | l :: rest => ({ d with sl := { d.sl with learn := mapSet d.sl.learn slice rest [] } }).learn c slice l) s

/-- A learning check's outcome queued (R120): a key that waits keeps one place and takes the latest check's port. -/
def Device.learnQueue (d : Device) (slice : Nat) (l : Learn) : Device :=
  let q := mapGet d.sl.learn slice []
  if q.any fun x => x.key == l.key then
    { d with sl := { d.sl with learn := mapPut d.sl.learn slice (q.map fun x => if x.key = l.key then l else x) } }
  else if 256 ≤ q.length then d.tblCount slice 5 1
  else { d with sl := { d.sl with learn := mapPut d.sl.learn slice (q ++ [l]) } }

/-- A learning check (R119, R120): a static entry is left; an entry that agrees is marked hit at once. -/
def Device.learnCheck (d : Device) (c : Clk) (slice key port action : Nat) : Device :=
  let waits := (mapGet d.sl.learn slice []).any fun x => x.key == key
  match d.l2Find slice key with
  | some (i, e) =>
    if l2Static e.data then d
    else if l2Port e.data = port ∧ !waits then d.l2Put slice i { e with hit := true, strikes := 0, changed := c.time80 }
    else d.learnQueue slice { key := key, port := port, action := action }
  | none => d.learnQueue slice { key := key, port := port, action := action }

/-- A NOTIFY frame of several values of one object's element to one supervisor (R39, R40). -/
def Device.notifyMany (d : Device) (obj elem : Nat) (vs : List Nat) (sup : Nat) : Device :=
  match d.reachable sup with
  | none => d.tally Obj.bdpCount (d.unsentPort sup * 16 + 9) 1
  | some (port, mac) =>
    match objInfo? obj with
    | none => d
    | some r =>
      let items := (vs.map fun v => itemBytes obj elem 1 0 r.ty (natBe r.size v)).flatten
      let seq := mapGet d.mgmt.notifySeq sup 0
      ({ d with mgmt := { d.mgmt with notifySeq := mapPut d.mgmt.notifySeq sup ((seq + 1) % 65536) } }).sendOwn port
        (d.frame mac sup 0x10 seq vs.length 0 items.length items)

/-- Up to 64 waiting Layer-2 events of a slice are sent (R121). -/
def execL2NotifyFlush (slice : Nat) (s : State) : Host.Outcome State Fault Refusal :=
  onDev (Instr.l2NotifyFlush slice).wf
    (fun _ d =>
      match mapGet d.sl.events slice [] with
      | [] => d
      | q =>
        let d := { d with sl := { d.sl with events := mapSet d.sl.events slice (q.drop 64) [] } }
        d.notifyTargets.foldl (fun d sup => d.notifyMany Obj.l2Event 0 (q.take 64) sup) d) s

/-- The sweeper visits an index (R122). -/
def Device.sweep (d : Device) (c : Clk) (slice idx : Nat) : Device :=
  match mapGet? d.tbl.l2 (slice * 262144 + idx) with
  | none => d
  | some e =>
    if l2Static e.data then d
    else if e.hit then d.l2Put slice idx { e with hit := false, strikes := 0, changed := c.time80 }
    else if e.strikes + 1 < 2 then d.l2Put slice idx { e with strikes := e.strikes + 1, changed := c.time80 }
    else ((d.l2Del slice idx).tblCount slice 3 1).l2Event c slice 3 e.key (l2Port e.data) 0

/-- The sweeper visits an index of a slice whose age period is not 0. In SAFE, of which neither R122 nor Table 15.12 says it, it makes no visit
(DESIGN CHOICE, log 88). -/
def execL2SweepVisit (slice index : Nat) (s : State) : Host.Outcome State Fault Refusal :=
  onDev (Instr.l2SweepVisit slice index).wf
    (fun c d => if d.forwarding && d.get Obj.l2AgePeriod slice != 0 then d.sweep c slice index else d) s

/-- A write of L2.AgePeriod (Table 6.1, R123). -/
def Device.writeAgePeriod (d : Device) (slice v : Nat) : Wr :=
  if 65535 < v then .error stType else .ok (d.set Obj.l2AgePeriod slice v)

/-! ### Entry images and iteration (R117, R133) -/

/-- The status word of an entry image (Table 6.3). -/
def statusWord (index : Nat) (hit learned : Bool) (strikes slice units changed : Nat) : Nat :=
  at_ 127 96 index + at_ 95 95 1 + at_ 93 93 (b2n hit) + at_ 92 92 (b2n learned) + at_ 91 90 strikes + at_ 89 88 slice
    + at_ 87 80 units + changed

/-- An entry image: the operand left-aligned in 48 bytes, and the status word. -/
def image (operand : Bytes) (status : Nat) : Bytes := padTo 48 operand ++ natBe 16 status

/-- The entry image at a position of a table, if it holds an entry. -/
def Device.imageAt (d : Device) (table slice i : Nat) : Option Bytes :=
  if table = 1 then
    (mapGet? d.tbl.l2 (slice * 262144 + i)).map fun e =>
      image (natBe 8 e.key ++ natBe 8 e.data) (statusWord i e.hit e.learned e.strikes slice 0 e.changed)
  else if table = 2 ∨ table = 3 then
    match mapGet? d.tbl.lpm i with
    | none => none
    | some e =>
      if e.v6 != (table == 3) then none
      else
        let key := if e.v6 then natBe 12 (at_ 95 80 e.vrf + at_ 79 16 e.pfx + at_ 15 8 e.len)
          else natBe 8 (at_ 63 48 e.vrf + at_ 47 16 e.pfx + at_ 15 8 e.len)
        some (image (key ++ natBe 8 e.data) (statusWord i false false 0 0 (lpmUnits e.v6) e.changed))
  else if table = 9 then
    (mapGet? d.tbl.flow i).map fun e => image (natBe 40 e.key ++ natBe 8 e.data) (statusWord i false false 0 0 0 e.changed)
  else
    (d.direct table i).map fun e => image (natBe (dataBytes table) e.data) (statusWord i false false 0 0 0 e.changed)

/-- Positions of a table. -/
def tableSize (table : Nat) : Nat :=
  if table = 1 then 262144 else if table = 2 ∨ table = 3 then lpmSize else if table = 9 then 8388608 else directSize table

/-- The positions that hold entries, from a position on, in rising order. -/
def Device.positions (d : Device) (table slice start : Nat) : List Nat :=
  let all := if table = 1 then (d.tbl.l2.map Prod.fst).filterMap fun k => if k / 262144 = slice then some (k % 262144) else none
    else if table = 2 ∨ table = 3 then (d.tbl.lpm.filter fun kv => kv.2.v6 == (table == 3)).map Prod.fst
    else if table = 9 then d.tbl.flow.map Prod.fst
    else (d.tbl.direct.map Prod.fst).filterMap fun k => if k / 2 ^ 24 = table then some (k % 2 ^ 24) else none
  all.filter (start ≤ ·)

/-- A cursor's first position, or none where it is invalid (R133). -/
def cursorStart (gen size cursor : Nat) : Option Nat :=
  let p := fld cursor 39 0
  if cursor = 0 then some 0
  else if fld cursor 47 40 ≠ gen ∨ p = 0 ∨ size < p then none
  else some (p - 1)

/-- What NEXT finds from a position: the positions returned, and the next position to examine, over `held`, the positions that hold
entries (R133). -/
def nextFrom (size start count : Nat) (held : List Nat) : List Nat × Nat :=
  let stop := min (start + 65536) size
  let found := (held.filter (· < stop)).take count
  (found, if found.length = count then (found.getLast?.getD start) + 1 else stop)

/-- The cursor after NEXT: 0 when the table is exhausted. -/
def cursorAfter (gen size next : Nat) : Nat := if size ≤ next then 0 else at_ 47 40 gen + (next + 1)

/-- The generation of a table's cursors. -/
def Device.generation (d : Device) (table slice : Nat) : Nat := if table = 1 then d.get Obj.l2Generation slice else 0

/-! ### FLUSH_BY_PORT (R134) -/

/-- One slice flushed of a port's entries: its generation advances, and the entries removed are counted. -/
def Device.flushSlice (d : Device) (slice port : Nat) (statics : Bool) : Device × Nat :=
  let d := d.set Obj.l2Generation slice ((d.get Obj.l2Generation slice + 1) % 256)
  let go := (d.tbl.l2.filter fun kv =>
    kv.1 / 262144 == slice && l2Port kv.2.data == port && (statics || !l2Static kv.2.data)).map fun kv => kv.1 % 262144
  (go.foldl (fun d i => d.l2Del slice i) d, go.length)

/-- A flush over a scope, and the total removed. -/
def Device.flushPort (d : Device) (scope port : Nat) (statics : Bool) : Device × Nat :=
  (if scope < 4 then [scope] else [0, 1, 2, 3]).foldl (fun r s =>
    let x := r.1.flushSlice s port statics
    (x.1, r.2 + x.2)) (d, 0)

/-! ### The four entry commands by table -/

/-- INSERT, UPDATE, DELETE and SEARCH of tables 0x01 to 0x09. -/
def Device.tblInsert (d : Device) (c : Clk) (table scope idx key data : Nat) : Outcome :=
  let key := cleanKey table key
  let data := cleanEntry table data
  match table with
  | 1 => overSlices (fun d s => d.l2Insert c s key data) d scope
  | 2 => d.lpmInsert c false key data
  | 3 => d.lpmInsert c true key data
  | 9 => d.flowInsert c key data
  | _ => d.directInsert c table idx data
def Device.tblUpdate (d : Device) (c : Clk) (table scope idx key data : Nat) : Outcome :=
  let key := cleanKey table key
  let data := cleanEntry table data
  match table with
  | 1 => overSlices (fun d s => d.l2Update c s key data) d scope
  | 2 => d.lpmUpdate c false key data
  | 3 => d.lpmUpdate c true key data
  | 9 => d.flowUpdate c key data
  | _ => d.directUpdate c table idx data
def Device.tblDelete (d : Device) (table scope idx key : Nat) : Outcome :=
  let key := cleanKey table key
  match table with
  | 1 => overSlices (fun d s => d.l2Delete s key) d scope
  | 2 => d.lpmDelete false key
  | 3 => d.lpmDelete true key
  | 9 => d.flowDelete key
  | _ => d.directDelete table idx

/-- Where SEARCH finds an entry: its position, or the status it ends with. -/
def Device.tblSearch (d : Device) (table scope idx key : Nat) : Except Nat Nat :=
  let key := cleanKey table key
  let pos (o : Option Nat) : Except Nat Nat := match o with | some i => .ok i | none => .error csNotFound
  match table with
  | 1 => pos ((d.l2Find scope key).map Prod.fst)
  | 2 => let (vrf, pfx, len) := lpmParts false key; pos ((d.lpmFind false vrf pfx len).map Prod.fst)
  | 3 => let (vrf, pfx, len) := lpmParts true key; pos ((d.lpmFind true vrf pfx len).map Prod.fst)
  | 9 => d.flowAt key false
  | _ => pos ((d.direct table idx).map fun _ => idx)

end Sys2Proof.Machine
end

