-- ==== Sys2Proof/Machine/Tcam.lean ====
section
/-! DEFINITION. The TCAM (chapter 07): banks and tables, search, the commands on its rows, parity and scrub, fencing. A row's CONTROL
part and validity stand with component 0, in the first bank of its group. -/

namespace Sys2Proof.Machine

/-! ### Tables and groups (R141, Table 7.2) -/

/-- TCAM.Table of a slice's table. -/
def Device.tcamTable (d : Device) (slice n : Nat) : Nat := d.get Obj.tcamTable (slice * 12 + n)

/-- Fields of TCAM.Table. -/
def tcWidth (v : Nat) : Nat := fld v 61 60
def tcMask (v : Nat) : Nat := fld v 59 48
def tcTagPos (v : Nat) : Nat := fld v 46 37

/-- The table whose BankMask names a bank. -/
def Device.bankTable (d : Device) (slice bank : Nat) : Option Nat :=
  (List.range 12).find? fun n => bit (tcMask (d.tcamTable slice n)) bank

/-- The width of a bank's table, 1 for a bank of none. -/
def Device.bankWidth (d : Device) (slice bank : Nat) : Nat :=
  match d.bankTable slice bank with
  | some n => max 1 (tcWidth (d.tcamTable slice n))
  | none => 1

/-- The banks of a bank's group, first bank first. -/
def Device.bankGroup (d : Device) (slice bank : Nat) : List Nat :=
  let w := d.bankWidth slice bank
  (List.range w).map (bank / w * w + ·)

/-- The store's key of a row component. -/
def rowKey (slice bank r : Nat) : Nat := slice * 24576 + bank * 2048 + r

/-- A row component that nothing has written. -/
def TcamRow.empty : TcamRow :=
  { value := 0, mask := 0, written := false, valid := false, priority := 0, data := 0, changed := 0 }

/-- A row component. -/
def Device.tcamRow (d : Device) (slice bank r : Nat) : TcamRow := mapGet d.tbl.tcam (rowKey slice bank r) TcamRow.empty

/-- A row component stored. -/
def Device.setTcamRow (d : Device) (slice bank r : Nat) (x : TcamRow) : Device :=
  { d with tbl := { d.tbl with tcam := mapSet d.tbl.tcam (rowKey slice bank r) x TcamRow.empty } }

/-- Whether a bank is fenced. -/
def Device.bankFenced (d : Device) (slice bank : Nat) : Bool := setHas d.tbl.tcamFenced (slice * 12 + bank)

/-- Whether some bank of a bank's group is fenced: commands on the group's rows end FENCED, no row of it is valid, and it is neither searched
nor scrubbed (R149, R152, R156). A group that a write under EN = 0 joined may hold a bank that was fenced alone (log 41). -/
def Device.groupFenced (d : Device) (slice bank : Nat) : Bool := (d.bankGroup slice bank).any fun b => d.bankFenced slice b

/-- Rows of banks dropped. -/
def Device.dropBanks (d : Device) (slice : Nat) (banks : List Nat) : Device :=
  { d with tbl := { d.tbl with
    tcam := d.tbl.tcam.filter fun kv => !(kv.1 / 24576 == slice && banks.contains (kv.1 % 24576 / 2048)) } }

/-- Valid rows of a bank's group, in a range of rows; a fenced group has none (R156). A row of a wide group counts for every bank of it,
so that a tag of its second or third bank is BUSY too (DESIGN CHOICE, log 41). -/
def Device.validIn (d : Device) (slice bank lo hi : Nat) : Nat :=
  let f := (d.bankGroup slice bank).headD bank
  if d.groupFenced slice bank then 0
  else (d.tbl.tcam.filter fun kv => kv.2.valid && kv.1 / 2048 == slice * 12 + f
    && decide (lo ≤ kv.1 % 2048 ∧ kv.1 % 2048 < hi)).length

/-- The invalidations of a bank within the last 1,000 ms. -/
def Device.recentInvalid (d : Device) (c : Clk) (slice bank : Nat) : List Nat :=
  (mapGet d.tbl.recent (slice * 12 + bank) []).filter (recentTick c)

/-- TCAM.BankStatus (Table 7.3). -/
def Device.viewBank (d : Device) (c : Clk) (e : Nat) : Nat :=
  let slice := e / 12
  let bank := e % 12
  let t := d.bankTable slice bank
  at_ 63 56 (if d.bankFenced slice bank then 2 else if t.isSome then 1 else 0) + at_ 55 48 (t.getD 0xFF)
    + at_ 47 32 (d.validIn slice bank 0 2048) + at_ 31 16 (d.recentInvalid c slice bank).length

/-- A field of TCAM.Counters advanced (Table 7.7): 0 Searches, 1 Hits, 2 SegmentsActivated, 3 RowsInvalidated, 4 NotResolved,
5 BanksFenced. -/
def Device.tcamCount (d : Device) (slice k n : Nat) : Device := d.bump Obj.tcamCounters slice 6 k n

/-! ### Chart writes -/

/-- BankMask holds whole groups at a width (R142). -/
def wholeGroups (mask w : Nat) : Bool :=
  w == 0 || (List.range 12).all fun b => bit mask b == bit mask (b / w * w)

/-- A write of TCAM.Table (R142): one of EN = 0 that is in range is always accepted (DEDUCED, log 74). While Width is 0b00 the range of TagPos
is empty as Table 7.2 gives it, and 0 alone is accepted (DESIGN CHOICE, log 41). -/
def Device.writeTcamTable (d : Device) (e v : Nat) : Wr :=
  let slice := e / 12
  let n := e % 12
  let old := d.tcamTable slice n
  let w := tcWidth v
  let mask := tcMask v
  let others := (List.range 12).any fun m => m != n && (List.range 12).any fun b => bit mask b && bit (tcMask (d.tcamTable slice m)) b
  let removed := (List.range 12).filter fun b => bit (tcMask old) b && !bit mask b
  let added := (List.range 12).filter fun b => bit mask b && !bit (tcMask old) b
  if (w = 0 ∧ bit v 63 = true) ∨ wholeGroups mask w = false ∨ others = true ∨ w * 160 - 4 < tcTagPos v then .error stType
  else if bit v 63 = false then .ok ((d.dropBanks slice (removed ++ added)).set Obj.tcamTable e (putFld v 36 0 0))
  else if bit old 63 = true ∧ (w ≠ tcWidth old ∨ bit v 47 ≠ bit old 47 ∨ tcTagPos v ≠ tcTagPos old) then .error stBusy
  else if removed.any fun b => d.validIn slice b 0 2048 != 0 then .error stBusy
  else if added.any fun b => d.bankFenced slice b then .error stBusy
  else .ok ((d.dropBanks slice (removed ++ added)).set Obj.tcamTable e (putFld v 36 0 0))

/-- A write of TCAM.SegmentTag (R147). -/
def Device.writeSegmentTag (d : Device) (e v : Nat) : Wr :=
  let slice := e / 192
  let bank := e % 192 / 16
  let seg := e % 16
  if 15 < v then .error stType
  else if v ≠ 15 ∧ d.validIn slice bank (128 * seg) (128 * seg + 128) ≠ 0 then .error stBusy
  else .ok (d.set Obj.tcamSegmentTag e v)

/-- A write of TCAM.BankErrorLimit. -/
def Device.writeBankErrorLimit (d : Device) (v : Nat) : Wr := if v = 0 then .error stType else .ok (d.set Obj.tcamBankErrorLimit 0 v)

/-! ### Search (R144 to R146) -/

/-- The banks that are first of an unfenced group of a table. -/
def Device.searched (d : Device) (slice v : Nat) : List Nat :=
  (List.range 12).filter fun b => bit (tcMask v) b && b % tcWidth v == 0 && !d.groupFenced slice b

/-- Whether a segment of a first bank takes part in a search. -/
def Device.segmentEnabled (d : Device) (slice v key bank seg : Nat) : Bool :=
  let top := tcWidth v * 160 - 1 - tcTagPos v
  let tag := d.get Obj.tcamSegmentTag (slice * 192 + bank * 16 + seg)
  !bit v 47 || tag == 15 || tag == fld key top (top - 3)

/-- Segments a search enables: a segment of a wide group stands in each of its banks and counts once for each (DESIGN CHOICE, log 41). -/
def Device.segmentsOn (d : Device) (slice v key : Nat) : Nat :=
  tcWidth v * ((d.searched slice v).map fun b => ((List.range 16).filter fun g => d.segmentEnabled slice v key b g).length).sum

/-- Component `k` of a key of a width. -/
def keyPart (key w k : Nat) : Nat := key / 2 ^ (160 * (w - 1 - k)) % 2 ^ 160

/-- A row matches a key in every component (R144). -/
def Device.rowMatches (d : Device) (slice w bank r key : Nat) : Bool :=
  (d.tcamRow slice bank r).valid && (List.range w).all fun k =>
    let x := d.tcamRow slice (bank + k) r
    keyPart key w k &&& x.mask == x.value

/-- The winning row of a search: its row index and its CONTROL part. -/
def Device.winner (d : Device) (slice n key : Nat) : Option (Nat × TcamRow) :=
  let v := d.tcamTable slice n
  let banks := d.searched slice v
  (d.tbl.tcam.foldl (fun (best : Option (Nat × TcamRow)) kv =>
    let i := kv.1 % 24576
    if kv.2.valid && kv.1 / 24576 == slice && banks.contains (i / 2048) && d.segmentEnabled slice v key (i / 2048) (i % 2048 / 128)
        && d.rowMatches slice (tcWidth v) (i / 2048) (i % 2048) key then
      match best with
      | some b => if b.2.priority < kv.2.priority then some (i, kv.2) else best
      | none => some (i, kv.2)
    else best) none)

/-- Whether a fence makes every search of a table not resolved (R156). -/
def Device.fenceBlocks (d : Device) (slice n : Nat) : Bool :=
  let v := d.tcamTable slice n
  bit v 62 && (List.range 12).any fun b => bit (tcMask v) b && d.bankFenced slice b

/-! ### Invalidation (R153 to R156) -/

/-- A record of the slice's ErrorLog (Table 7.6, R155). -/
def Device.logTcam (d : Device) (c : Clk) (cause slice bank row : Nat) : Device :=
  let n := d.get Obj.tcamErrorCount slice
  let e := slice * 64 + n % 64
  let v := at_ 127 120 cause + at_ 119 112 slice + at_ 111 104 bank + at_ 103 96 ((d.bankTable slice bank).getD 0xFF) + at_ 95 80 row
    + c.time80
  let d := (d.set Obj.tcamErrorLog e v).set Obj.tcamErrorCount slice ((n + 1) % 2 ^ 32)
  if bit (d.get Obj.tcamNotify 0) 0 then d.notify Obj.tcamErrorLog e else d

/-- A row invalidation counted in its bank's window; the bank fault is raised by each that finds the limit reached (R156, log 47). -/
def Device.countInvalid (d : Device) (c : Clk) (slice bank : Nat) : Device :=
  let old := d.recentInvalid c slice bank
  let limit := d.get Obj.tcamBankErrorLimit 0
  let d := { d with tbl := { d.tbl with recent := mapPut d.tbl.recent (slice * 12 + bank) (c.ticks :: old) } }
  if limit ≤ old.length + 1 then d.raise 0x09 (0x800 + slice * 12 + bank) 0 else d

/-- The key of a row cleared in every component of its group. -/
def Device.clearRow (d : Device) (slice f w r : Nat) : Device :=
  (List.range w).foldl (fun d k => d.setTcamRow slice (f + k) r TcamRow.empty) d

/-- An error in the row at index `row` found in a bank of its group (R153, R154). TCAM_ROW is raised for a valid row only, which is what writes a
record: whether one in an invalid row raises it R153 and Table 15.4 leave open (DESIGN CHOICE, log 41). -/
def Device.rowError (d : Device) (c : Clk) (cause slice row bank : Nat) : Device :=
  let f := row / 2048
  let r := row % 2048
  let was := (d.tcamRow slice f r).valid
  let d := (d.clearRow slice f (d.bankWidth slice f) r).tcamCount slice 3 1
  if was then
    ((d.logTcam c cause slice bank row).raise 0x08 (0x800 + slice * 12 + bank) row).countInvalid c slice bank
  else d

/-- The scrub visits a row component of an ACTIVE bank (R152, R153). Of a row of two or three banks R153 does not say which bank the error is
charged to: a parity error to the component's, a data error to the first of the group (DESIGN CHOICE, log 41). -/
def execTcamScrubVisit (slice row component : Nat) (found : RowFinding) (s : State) : Host.Outcome State Fault Refusal :=
  onDev (Instr.tcamScrubVisit slice row component found).wf
    (fun c d =>
      let f := row / 2048
      let w := d.bankWidth slice f
      if (d.bankTable slice f).isSome && f % w == 0 && decide (component < w) && !d.groupFenced slice f then
        match found with
        | .clean => d
        | .dataSingle => d
        | .parity => d.rowError c 1 slice row (f + component)
        | .dataDouble => d.rowError c 3 slice row f
      else d) s

/-- A bank fenced with its whole group, with one record and one count for the group (R156, Table 7.7; DESIGN CHOICE, log 41). -/
def Device.fenceBank (d : Device) (c : Clk) (slice bank : Nat) : Device :=
  if d.bankFenced slice bank then d
  else
    let g := d.bankGroup slice bank
    let d := (d.logTcam c 4 slice bank 0).tcamCount slice 5 1
    let d := d.dropBanks slice g
    { d with tbl := { d.tbl with tcamFenced := g.foldl (fun xs b => setAdd xs (slice * 12 + b)) d.tbl.tcamFenced } }

/-- A fenced bank's group returned to RETENTION with every row invalid (R141, R156): no BankMask names its banks from then on. -/
def Device.unfenceBank (d : Device) (slice bank : Nat) : Device :=
  let g := d.bankGroup slice bank
  let d := d.dropBanks slice g
  let d : Device := match d.bankTable slice bank with
    | some n => d.set Obj.tcamTable (slice * 12 + n)
        (g.foldl (fun v b => putBit v (48 + b) false) (d.tcamTable slice n))
    | none => d
  { d with tbl := { d.tbl with tcamFenced := g.foldl (fun xs b => setDel xs (slice * 12 + b)) d.tbl.tcamFenced } }

/-- A winning row's failed check: the Cause it is logged with and the bank at fault (R154, Table 7.6). -/
def winnerFault (w row : Nat) : WinnerCheck → Option (Nat × Nat)
  | .good => none
  | .parity k => some (2, row / 2048 + if k < w then k else 0)
  | .data => some (3, row / 2048)

/-- A packet's search of an enabled table (R144, R154, R156, R158): status 2 MISS, 3 HIT or 4 NOT_RESOLVED (Table 8.4), the row
index and its data. One that ON_FENCE answers counts in Searches and enables no segment (DESIGN CHOICE, log 41). -/
def Device.tcamSearch (d : Device) (c : Clk) (slice n key : Nat) (found : WinnerCheck) : Nat × Nat × Nat × Device :=
  let d := d.tcamCount slice 0 1
  if d.fenceBlocks slice n then (4, 0, 0, d.tcamCount slice 4 1)
  else
    let d := d.tcamCount slice 2 (d.segmentsOn slice (d.tcamTable slice n) key)
    match d.winner slice n key with
    | none => (2, 0, 0, d)
    | some (i, x) =>
      match winnerFault (tcWidth (d.tcamTable slice n)) i found with
      | some (cause, bank) => (4, 0, 0, (d.rowError c cause slice i bank).tcamCount slice 4 1)
      | none => (3, i, x.data, d.tcamCount slice 1 1)

/-! ### Commands (R148 to R150) -/

/-- Parts of a command's Index (Table 7.4). -/
def tcPart (index : Nat) : Nat := fld index 31 30
def tcComp (index : Nat) : Nat := fld index 29 28
def tcRow (index : Nat) : Nat := fld index 14 0

/-- A row index is in range of a table (R143); none is while its Width is 0b00, for which R143 gives no meaning (DESIGN CHOICE, log 41). -/
def Device.rowInRange (d : Device) (slice n row : Nat) : Bool :=
  let v := d.tcamTable slice n
  tcWidth v != 0 && decide (row / 2048 < 12) && bit (tcMask v) (row / 2048) && row / 2048 % tcWidth v == 0

/-- An Index is well formed for an opcode (R148, R149): 1 INSERT, 2 UPDATE, 3 DELETE, 4 SEARCH. None is while the table's Width is 0b00, a
LOOKUP's among them (DESIGN CHOICE, log 41). -/
def Device.tcIndexOk (d : Device) (slice n op index : Nat) : Bool :=
  let w := tcWidth (d.tcamTable slice n)
  fld index 27 15 == 0 &&
    match tcPart index with
    | 0 => tcComp index == 0 && d.rowInRange slice n (tcRow index)
    | 1 => (op == 2 || op == 4) && decide (tcComp index < w) && d.rowInRange slice n (tcRow index)
    | 3 => op == 4 && tcComp index == 0 && tcRow index == 0 && w != 0
    | _ => false

/-- Bytes of a TCAM command's operand (Table 7.5). -/
def Device.tcOperand (d : Device) (slice n op index : Nat) : Nat :=
  if tcPart index = 3 then tcWidth (d.tcamTable slice n) * 20
  else if op = 1 ∨ op = 2 then (if tcPart index = 1 then 40 else 16)
  else 0

/-- Every component of a row of the group that a bank stands in has been written (R150). -/
def Device.keyComplete (d : Device) (slice bank r : Nat) : Bool :=
  (d.bankGroup slice bank).all fun b => (d.tcamRow slice b r).written

/-- INSERT CONTROL of a row of an unfenced group (R149, R150). -/
def Device.tcInsert (d : Device) (c : Clk) (slice row control : Nat) : Outcome :=
  let f := row / 2048
  let r := row % 2048
  let x := d.tcamRow slice f r
  if d.groupFenced slice f then (d, csFenced, 0)
  else if x.valid then (d, csExists, row)
  else if d.keyComplete slice f r then
    (d.setTcamRow slice f r { x with valid := true, priority := fld control 127 112, data := fld control 63 0, changed := c.time80 },
     csOk, row)
  else (d, csBusy, 0)

/-- UPDATE CONTROL. -/
def Device.tcUpdate (d : Device) (c : Clk) (slice row control : Nat) : Outcome :=
  let f := row / 2048
  let r := row % 2048
  let x := d.tcamRow slice f r
  if d.groupFenced slice f then (d, csFenced, 0)
  else if x.valid then
    (d.setTcamRow slice f r { x with priority := fld control 127 112, data := fld control 63 0, changed := c.time80 }, csOk, row)
  else (d, csNotFound, 0)

/-- DELETE CONTROL. -/
def Device.tcDelete (d : Device) (c : Clk) (slice row : Nat) : Outcome :=
  let f := row / 2048
  let r := row % 2048
  let x := d.tcamRow slice f r
  if d.groupFenced slice f then (d, csFenced, 0)
  else if x.valid then (d.setTcamRow slice f r { x with valid := false, changed := c.time80 }, csOk, row)
  else (d, csNotFound, 0)

/-- UPDATE KEY of a component: the value is stored under its mask (R148). -/
def Device.tcKey (d : Device) (c : Clk) (slice row comp key : Nat) : Outcome :=
  let f := row / 2048
  let r := row % 2048
  if d.groupFenced slice f then (d, csFenced, 0)
  else if (d.tcamRow slice f r).valid then (d, csBusy, 0)
  else
    let m := fld key 159 0
    let d := d.setTcamRow slice (f + comp) r
      { d.tcamRow slice (f + comp) r with value := fld key 319 160 &&& m, mask := m, written := true }
    (d.setTcamRow slice f r { d.tcamRow slice f r with changed := c.time80 }, csOk, row)

/-- The CONTROL image of a row (R149). -/
def controlImage (x : TcamRow) (index : Nat) : Bytes :=
  image (natBe 16 (at_ 127 112 x.priority + at_ 63 0 x.data)) (statusWord index false false 0 0 0 x.changed)

/-- The image SEARCH CONTROL or SEARCH KEY returns, or its status. -/
def Device.tcRead (d : Device) (slice index : Nat) : Except Nat Bytes :=
  let f := tcRow index / 2048
  let r := tcRow index % 2048
  let x := d.tcamRow slice f r
  if d.groupFenced slice f then .error csFenced
  else if !x.valid then .error csNotFound
  else if tcPart index = 0 then .ok (controlImage x index)
  else
    let y := d.tcamRow slice (f + tcComp index) r
    .ok (image (natBe 20 y.value ++ natBe 20 y.mask) (statusWord index false false 0 0 0 x.changed))

/-- SEARCH LOOKUP (R149): the winning row's image and index, or the status. A search whose winner fails its check is not resolved
(R154); the status that reports it is free among those that say so. In a table with EN = 0, which no packet's search enters, it finds no row
(DESIGN CHOICE, log 41). A software LOOKUP counts in no search counter. -/
def Device.tcLookup (d : Device) (c : Clk) (slice n key : Nat) (found : WinnerCheck) : Device × Except Nat (Bytes × Nat) :=
  if d.fenceBlocks slice n then (d, .error csFenced)
  else if !bit (d.tcamTable slice n) 63 then (d, .error csNotFound)
  else
    match d.winner slice n key with
    | none => (d, .error csNotFound)
    | some (i, x) =>
      match winnerFault (tcWidth (d.tcamTable slice n)) i found with
      | some (cause, bank) =>
        (d.spend.rowError c cause slice i bank, .error ([csNotFound, csBusy, csFenced].getD (Config.freeValue d.free % 3) csNotFound))
      | none => (d, .ok (controlImage x i, i))

/-- The rows NEXT returns: valid rows of a table from a position, in rising order. The rows of a fenced group are all invalid (R156). A row
whose bank a change of Width has made a group's second or third has no row index (R143) and is not returned (DESIGN CHOICE, log 41). -/
def Device.tcHeld (d : Device) (slice n start : Nat) : List Nat :=
  ((d.tbl.tcam.filter fun kv => kv.2.valid && kv.1 / 24576 == slice && d.rowInRange slice n (kv.1 % 24576)
      && !d.groupFenced slice (kv.1 % 24576 / 2048)).map fun kv => kv.1 % 24576).filter (start ≤ ·)

end Sys2Proof.Machine
end

