-- ==== Sys2Proof/Machine/Lookups.lean ====
section
/-! DEFINITION. What a packet's lookup returns into a result slot (R168 to R170), from the tables of chapters 06 and 07. -/

namespace Sys2Proof.Machine

/-- A slot with a status and a table and nothing else (R169). -/
def slotWord (status table : Nat) : Nat := at_ 383 380 status + at_ 375 368 table

/-- Result statuses (Table 8.4). -/
abbrev rsNotIssued : Nat := 0
abbrev rsPending : Nat := 1
abbrev rsMiss : Nat := 2
abbrev rsHit : Nat := 3
abbrev rsNotResolved : Nat := 4

/-- A HIT (Table 8.3): index, action code, group Aux, and `n` bytes of data left-aligned in 256 bits. -/
def hitSlot (table index action aux data n : Nat) : Nat :=
  slotWord rsHit table + at_ 367 344 index + at_ 343 336 action + at_ 319 304 aux + at_ 255 0 (data * 2 ^ (256 - 8 * n))

/-- A HIT on an entry whose data's most significant byte is its ActionCode. -/
def hitEntry (table index data n : Nat) : Nat := hitSlot table index (data / 2 ^ (8 * n - 8)) 0 data n

/-- The slot of an optional hit. -/
def slotOf (table n : Nat) : Option (Nat × Nat) → Nat
  | some (i, v) => hitEntry table i v n
  | none => slotWord rsMiss table

/-- A flow lookup meets the slice's flow cache and, on a miss, the budget of R131: the slot it answers, or none where it is sent to
HBM. -/
def Device.flowStart (d : Device) (c : Clk) (slice key : Nat) : Option Nat × Device :=
  match d.cacheLookup slice key with
  | (some e, d) =>
    let s := flowSlots key
    (some (hitEntry 9 (if d.slotHas s.1 key then s.1 else s.2) e.data 8), d)
  | (none, d) =>
    let r := d.sendFlow c slice
    if r.1 then (none, r.2) else (some (slotWord rsNotResolved 9), r.2)

/-- A flow lookup returns from HBM: an entry found fills the slice's cache (R130). -/
def Device.flowDone (d : Device) (slice key : Nat) : Nat × Device :=
  match d.flowRead key with
  | some (i, e) => (hitEntry 9 i e.data 8, d.cacheFill slice key e)
  | none => (slotWord rsMiss 9, d)

/-- A lookup of any table but the flow table (R118, R124, R126, R127, R144); `found` is what a TCAM winner's check finds. -/
def Device.lookup (d : Device) (c : Clk) (slice table key ecmp : Nat) (found : WinnerCheck) : Nat × Device :=
  match table with
  | 1 => (slotOf 1 8 ((d.l2Find slice key).map fun x => (x.1, x.2.data)), d)
  | 2 => (slotOf 2 8 ((d.lpmLookup false (fld key 47 32) (fld key 31 0)).map fun x => (x.1, x.2.data)), d)
  | 3 => (slotOf 3 8 ((d.lpmLookup true (fld key 79 64) (fld key 63 0)).map fun x => (x.1, x.2.data)), d)
  | 7 =>
    (match d.ecmpLookup key ecmp with
      | some (i, g, m) => hitSlot 7 i (fld g 63 56) (fld g 15 0) m 8
      | none => slotWord rsMiss 7, d)
  | t =>
    if t < 0x10 then (slotOf t (dataBytes t) ((d.direct t key).map fun e => (key, e.data)), d)
    else if !bit (d.tcamTable slice (t - 0x10)) 63 then (slotWord rsNotIssued t, d)
    else
      let (st, row, data, d1) := d.tcamSearch c slice (t - 0x10) key found
      (if st = rsHit then hitEntry t row data 8 else slotWord st t, d1)

/-- The record's ResultStatus and ActionCode of pipeline lookup `n` set from its slot (R166, Table 8.2). -/
def recordResult (record n slot : Nat) : Nat :=
  putFld (putFld record (415 - 3 * n) (413 - 3 * n) (fld slot 383 380)) (383 - 8 * n) (376 - 8 * n)
    (if fld slot 383 380 = rsHit then fld slot 343 336 else 0)

end Sys2Proof.Machine
end

