-- ==== Sys2Proof/Machine/Flags.lean ====
section
/-! DEFINITION. The two ALUs' operations and their four flags (R205, Table 9.7). -/

namespace Sys2Proof.Machine

/-- Number of 1 bits of a word. -/
def popCount (a : Word) : Nat := ((List.range 64).filter fun i => a.getLsbD i).length

/-- Leading zero bits of a word; 64 for zero. -/
def leadingZeros (a : Word) : Nat := ((List.range 64).takeWhile fun i => !a.getLsbD (63 - i)).length

/-- The bytes of a word in reverse order. -/
def byteSwap (a : Word) : Word := BitVec.ofNat 64 (beNat (natBe 8 a.toNat).reverse)

/-- The bit field of BFX: `n` bits of `a` from bit `p` (Table 9.7). -/
def bitExtract (a : Word) (p n : Nat) : Word := BitVec.ofNat 64 (a.toNat / 2 ^ p % 2 ^ n)

/-- BFI: bits p + n − 1 to p of `d` replaced by the low `n` bits of `a`; bits that would fall above 63 are dropped. -/
def bitInsert (d a : Word) (p n : Nat) : Word :=
  let m := min (p + n) 64 - p
  BitVec.ofNat 64 (putFld d.toNat (p + m - 1) p a.toNat)

/-- The result of an ALU operation on operands `a` and `b`; `d` is the destination register as it stood (Table 9.7). For CMP
and TST it is the value the flags are set from. -/
def aluResult (op : Nat) (a b d : Word) : Word :=
  let sh := b.toNat % 64
  let p := b.toNat % 64
  let n := b.toNat / 64 % 64 + 1
  match op with
  | 0x01 => b
  | 0x02 => BitVec.ofNat 64 (b.toNat % 2 ^ 32 * 2 ^ 32 + a.toNat % 2 ^ 32)
  | 0x03 => a + b
  | 0x04 => a - b
  | 0x05 => a &&& b
  | 0x06 => a ||| b
  | 0x07 => a ^^^ b
  | 0x08 => a &&& ~~~b
  | 0x09 => ~~~b
  | 0x0A => a <<< sh
  | 0x0B => a >>> sh
  | 0x0C => a.sshiftRight sh
  | 0x0D => a.rotateLeft sh
  | 0x0E => a - b
  | 0x0F => a &&& b
  | 0x10 => if a.toNat ≤ b.toNat then a else b
  | 0x11 => if a.toNat ≤ b.toNat then b else a
  | 0x12 => BitVec.ofNat 64 (a.toNat % 2 ^ 32 * (b.toNat % 2 ^ 32))
  | 0x13 => bitExtract a p n
  | 0x14 => bitInsert d a p n
  | 0x15 => byteSwap b
  | 0x16 => BitVec.ofNat 64 (popCount b)
  | 0x17 => BitVec.ofNat 64 (leadingZeros b)
  | 0x18 => BitVec.ofNat 64 (a.toNat / 2 ^ 16 % 2 ^ 16 * (b.toNat % 2 ^ 10) / 2 ^ 16)
  | _ => 0

/-- The carry flag C of an operation (R205). -/
def aluCarry (op : Nat) (a b : Word) : Bool :=
  let sh := b.toNat % 64
  if op = 0x03 then decide (a.toNat + b.toNat ≥ 2 ^ 64)
  else if op = 0x04 ∨ op = 0x0E then decide (a.toNat < b.toNat)
  else if op = 0x0A then sh != 0 && a.getLsbD (64 - sh)
  else if op = 0x0B ∨ op = 0x0C then sh != 0 && a.getLsbD (sh - 1)
  else false

/-- The overflow flag V of an operation (R205). -/
def aluOverflow (op : Nat) (a b r : Word) : Bool :=
  if op = 0x03 then a.msb == b.msb && r.msb != a.msb
  else if op = 0x04 ∨ op = 0x0E then a.msb != b.msb && r.msb != a.msb
  else false

/-- The flags of an operation: Z in bit 0, N in bit 1, C in bit 2, V in bit 3 (R205, Table 9.3). -/
def aluFlags (op : Nat) (a b r : Word) : Nat :=
  b2n (r == 0) + 2 * b2n r.msb + 4 * b2n (aluCarry op a b) + 8 * b2n (aluOverflow op a b r)

/-- Whether an operation writes its destination register. -/
def aluWrites (op : Nat) : Bool := op != 0 && op != 0x0E && op != 0x0F

/-- Whether an operation uses operand b only (R205). -/
def aluUnary (op : Nat) : Bool := op == 0x01 || op == 0x09 || op == 0x15 || op == 0x16 || op == 0x17

/-- The minimum TIME of an ALU operation (Table 9.6); a reserved code counts as 1 (R203). -/
def aluTime (op : Nat) : Nat :=
  if op = 0x12 then 3 else if op = 0x13 ∨ op = 0x14 ∨ op = 0x16 ∨ op = 0x17 ∨ op = 0x18 then 2 else 1

end Sys2Proof.Machine
end

