-- ==== Sys2Proof/Machine/Operands.lean ====
section
/-! DEFINITION. The microword as fields (R191) with its encoding, and the operand forms a word's units use: working registers,
the context address map (R162), condition and dispatch sources (R197, R198), and lookup keys (R207). -/

namespace Sys2Proof.Machine

/-- A microword's fields (Table 9.1); `rsv` is the reserved bits 9:0. -/
structure Microword where
  seq : BitVec 4
  time : BitVec 2
  target : BitVec 12
  cond : BitVec 6
  dispsel : BitVec 8
  aop : BitVec 6
  asrc1 : BitVec 5
  asrc2 : BitVec 5
  adst : BitVec 5
  aimm : BitVec 1
  bop : BitVec 6
  bsrc1 : BitVec 5
  bsrc2 : BitVec 5
  bdst : BitVec 5
  bimm : BitVec 1
  hop : BitVec 4
  hoff : BitVec 9
  hlen : BitVec 6
  hreg : BitVec 5
  lop : BitVec 4
  ltab : BitVec 5
  lkey : BitVec 5
  lslot : BitVec 3
  mop : BitVec 3
  maddr : BitVec 5
  mdata : BitVec 5
  vop : BitVec 4
  varg : BitVec 8
  imm : BitVec 32
  cop : BitVec 3
  cidx : BitVec 5
  rsv : BitVec 10
deriving DecidableEq, Repr

/-- The fields of a 192-bit control-store word (Table 9.1). -/
def decodeWord (w : BitVec 192) : Microword where
  seq := w.extractLsb' 188 4
  time := w.extractLsb' 186 2
  target := w.extractLsb' 174 12
  cond := w.extractLsb' 168 6
  dispsel := w.extractLsb' 160 8
  aop := w.extractLsb' 154 6
  asrc1 := w.extractLsb' 149 5
  asrc2 := w.extractLsb' 144 5
  adst := w.extractLsb' 139 5
  aimm := w.extractLsb' 138 1
  bop := w.extractLsb' 132 6
  bsrc1 := w.extractLsb' 127 5
  bsrc2 := w.extractLsb' 122 5
  bdst := w.extractLsb' 117 5
  bimm := w.extractLsb' 116 1
  hop := w.extractLsb' 112 4
  hoff := w.extractLsb' 103 9
  hlen := w.extractLsb' 97 6
  hreg := w.extractLsb' 92 5
  lop := w.extractLsb' 88 4
  ltab := w.extractLsb' 83 5
  lkey := w.extractLsb' 78 5
  lslot := w.extractLsb' 75 3
  mop := w.extractLsb' 72 3
  maddr := w.extractLsb' 67 5
  mdata := w.extractLsb' 62 5
  vop := w.extractLsb' 58 4
  varg := w.extractLsb' 50 8
  imm := w.extractLsb' 18 32
  cop := w.extractLsb' 15 3
  cidx := w.extractLsb' 10 5
  rsv := w.extractLsb' 0 10

/-- The 192-bit word of a microword's fields (Table 9.1). -/
def encodeWord (m : Microword) : BitVec 192 :=
  m.seq ++ m.time ++ m.target ++ m.cond ++ m.dispsel ++ m.aop ++ m.asrc1 ++ m.asrc2 ++ m.adst ++ m.aimm ++ m.bop ++ m.bsrc1
    ++ m.bsrc2 ++ m.bdst ++ m.bimm ++ m.hop ++ m.hoff ++ m.hlen ++ m.hreg ++ m.lop ++ m.ltab ++ m.lkey ++ m.lslot ++ m.mop
    ++ m.maddr ++ m.mdata ++ m.vop ++ m.varg ++ m.imm ++ m.cop ++ m.cidx ++ m.rsv

/-- A working register (R167). -/
def reg (c : Ctx) (r : Nat) : Word := mapGet c.regs r 0

/-- A context with a working register written. -/
def setReg (c : Ctx) (r : Nat) (v : Word) : Ctx := { c with regs := mapSet c.regs r v 0 }

/-- The status of a result slot (Table 8.4). -/
def slotStatus (c : Ctx) (s : Nat) : Nat := fld (mapGet c.slots s 0) 383 380

/-- Whether a result slot is PENDING. -/
def slotPending (c : Ctx) (s : Nat) : Bool := slotStatus c s == 1

/-- `n` bytes from byte offset `o` of a number that stands for `len` big-endian bytes. -/
def bytesOf (v len o n : Nat) : Nat := v / 2 ^ (8 * (len - o - n)) % 2 ^ (8 * n)

/-- A number that stands for `len` big-endian bytes with `n` bytes from offset `o` replaced by the low bytes of `x`. -/
def putBytes (v len o n x : Nat) : Nat := putFld v (8 * (len - o) - 1) (8 * (len - o - n)) x

/-- Window, record, parser output or slot bytes at an offset from 0x0300_0000 (Table 8.1). -/
def readArea (c : Ctx) (off n : Nat) : Nat :=
  if off < 320 then beAt c.window off n
  else if off < 384 then bytesOf c.record 64 (off - 320) n
  else if off < 448 then bytesOf c.parser 64 (off - 384) n
  else
    let o := off - 0x200
    bytesOf (mapGet c.slots (o / 48) 0) 48 (o % 48) n

/-- Where an address of the context address map leads (Table 8.1). Scratchpad and common-store words are named as in
`Access.addr`. -/
inductive Where where
  | reserved
  | scratch (a : Nat)
  | common (a : Nat)
  | counters (a : Nat)
  | area (off : Nat)
deriving DecidableEq, Repr

/-- The address map of a context of `cluster` (Table 8.1). -/
def locate (cluster a : Nat) : Where :=
  if a < 0x40000 then .scratch (cluster * 0x40000 + a)
  else if a < 0x1000000 then .reserved
  else if a < 0x2000000 then .scratch (a - 0x1000000)
  else if a < 0x2F00000 then .common (a - 0x2000000)
  else if a < 0x3000000 then .counters (a - 0x2F00000)
  else if a < 0x30001C0 then .area (a - 0x3000000)
  else if a < 0x3000200 then .reserved
  else if a < 0x3000380 then .area (a - 0x3000000)
  else .reserved

/-- Whether `n` bytes at `a` stay within one 8-byte word (R162). -/
def withinWord (a n : Nat) : Bool := a % 8 + n ≤ 8

/-- A word's IMM as a number. -/
def Microword.immN (m : Microword) : Nat := m.imm.toNat

/-- Operands of ALU A and ALU B (R205). -/
def aluOperandA (c : Ctx) (m : Microword) : Word × Word :=
  (reg c m.asrc1.toNat, if m.aimm = 1 then BitVec.ofNat 64 m.immN else reg c m.asrc2.toNat)
/-- Operands of ALU B (R205). -/
def aluOperandB (c : Ctx) (m : Microword) : Word × Word :=
  (reg c m.bsrc1.toNat, if m.bimm = 1 then BitVec.ofNat 64 m.immN else reg c m.bsrc2.toNat)

/-- The address the memory unit uses (R208). -/
def memAddress (c : Ctx) (m : Microword) : Nat := ((reg c m.maddr.toNat).toNat + m.immN) % 2 ^ 32

/-- Whether a condition code is defined (Table 9.3). -/
def condDefined (code : Nat) : Bool := code ≤ 0x08 || (0x10 ≤ code && code ≤ 0x32)

/-- The slot a condition reads, if any (Table 9.3). -/
def condSlot (code : Nat) : Option Nat := if 0x10 ≤ code ∧ code ≤ 0x1F then some (code % 8) else none

/-- The condition of Table 9.3. -/
def condTrue (c : Ctx) (code : Nat) : Bool :=
  if code = 0 then true
  else if code ≤ 8 then bit c.flags (code - 1)
  else if 0x10 ≤ code ∧ code ≤ 0x17 then slotStatus c (code - 0x10) == 3
  else if 0x18 ≤ code ∧ code ≤ 0x1F then slotStatus c (code - 0x18) == 4
  else if 0x20 ≤ code ∧ code ≤ 0x2F then bit c.record (488 + (code - 0x20))
  else if code = 0x30 then bit c.record 301
  else if code = 0x31 then fld c.record 467 466 == 3
  else c.verdict.isSome

/-- Whether a DISPSEL code is defined (Table 9.4). -/
def dispDefined (code : Nat) : Bool := code ≤ 0x09 || (0x20 ≤ code && code ≤ 0x40)

/-- The value DISPATCH takes (Table 9.4). -/
def dispValue (c : Ctx) (m : Microword) : Nat :=
  let code := m.dispsel.toNat
  if code ≤ 7 then fld (mapGet c.slots code 0) 343 336
  else if code = 8 then fld c.record 511 504
  else if code = 9 then fld c.record 467 466
  else if code < 0x40 then (reg c (code - 0x20)).toNat % 256
  else m.immN % 256

/-- Registers a lookup key takes (Table 9.9); `width` is the TCAM table's width, 0 when it is not enabled. -/
def keyRegs (table width : Nat) : Nat :=
  if table = 3 then 2 else if table = 9 then 5
  else if table ≥ 0x10 then (if width = 1 then 3 else if width = 2 then 5 else if width = 3 then 8 else 0)
  else 1

/-- Whether a lookup table code is defined (Table 9.9). -/
def ltabDefined (t : Nat) : Bool := (1 ≤ t && t ≤ 9) || (0x10 ≤ t && t ≤ 0x1B)

/-- The number in `n` registers from `r`, most significant first. -/
def regsBe (c : Ctx) (r n : Nat) : Nat :=
  (List.range n).foldl (fun a i => a * 2 ^ 64 + (reg c (r + i)).toNat) 0

/-- The key of an engine-issued lookup (R207): right-aligned in its registers, bits above it ignored. An index of tables 0x04, 0x07 and 0x08,
for which Table 5.8 gives no length, is the low 32 bits (DESIGN CHOICE, log 93). -/
def lookupKey (c : Ctx) (table r width : Nat) : Nat :=
  let n := keyRegs table width
  let v := regsBe c r n
  if table = 1 then v
  else if table = 2 then v % 2 ^ 48
  else if table = 3 then (reg c r).toNat % 2 ^ 16 * 2 ^ 64 + (reg c (r + 1)).toNat
  else if table = 5 ∨ table = 6 then v % 2 ^ 16
  else if table ≤ 8 then v % 2 ^ 32
  else if table = 9 then v
  else v % 2 ^ (160 * width)

/-- Record bytes engines may write: 24 to 35 and 48 to 63 (R165). -/
def recordWritable (o n : Nat) : Bool := (24 ≤ o && o + n ≤ 36) || (48 ≤ o && o + n ≤ 64)

/-- The record's reserved bits inside bytes 24 to 35, which read zero (R165, Table 8.2). -/
def clearReserved (r : Nat) : Nat := putFld (putFld (putFld r 297 288 0) 252 249 0) 239 233 0

/-- A record with every reserved bit of Table 8.2 zero (R6). -/
def cleanRecord (r : Nat) : Nat :=
  putFld (putFld (putFld (putFld (putFld (clearReserved r) 465 464 0) 397 392 0) 385 384 0) 326 320 0) 223 128 0

/-- A parser output with every reserved field of Table 5.2 zero, those of the reserved slots 27 to 31 of Table 5.3 among them (R6). -/
def cleanParser (v : Nat) : Nat := putFld (putFld (putFld (putFld v 487 483 0) 239 200 0) 97 96 0) 67 0 0

/-- A result slot as Table 8.3 lets it read (R6, R169): a status of Table 8.4, every reserved field zero, GroupAux only for the ECMP table,
and of a slot that is not HIT nothing but Status and Table. -/
def cleanSlot (v : Nat) : Nat :=
  let table := fld v 375 368
  let aux := if table = 7 then fld v 319 304 else 0
  if fld v 383 380 % 5 = 3 then
    at_ 383 380 3 + at_ 375 368 table + at_ 367 344 (fld v 367 344) + at_ 343 336 (fld v 343 336) + at_ 319 304 aux + v % 2 ^ 256
  else at_ 383 380 (fld v 383 380 % 5) + at_ 375 368 table

/-- A record with `n` bytes from offset `o` stored (R165). -/
def storeRecord (r o n x : Nat) : Nat := clearReserved (putBytes r 64 o n x)

/-- A context with a new window; the record's WindowLength follows it (R163, Table 8.2). -/
def setWindow (c : Ctx) (w : Bytes) : Ctx :=
  { c with window := w, record := putFld c.record 335 327 w.length }

/-- The packet as assembled: the window followed by the unchanged tail (R164). -/
def assembled (c : Ctx) : Bytes := c.window ++ c.tail

end Sys2Proof.Machine
end

