-- ==== Sys2Proof/Machine/Microword.lean ====
section
/-! DEFINITION. A microword on a context (chapter 09): the checks made before it starts, the conditions it waits for, and what it
does. Pure: the engine that picks the word, and what the rest of the device does with the outcome, are in Engine.lean. -/

namespace Sys2Proof.Machine

/-- What a word sees of the device beyond its context: its cluster, which common-store segments it can access now (R176), its
slice's TCAM widths (0: not enabled), the dispatch table (R198), whether the cluster's lookup queue is full (R171), and whether
a POLICE of the context is outstanding (R195). -/
structure WordEnv where
  cluster : Nat
  segments : List Nat
  widths : List Nat
  dispatch : List Nat
  queueFull : Bool
  policing : Bool

/-- The width of the TCAM table an LTAB code names; 0 when it is not enabled (R207). -/
def WordEnv.width (e : WordEnv) (ltab : Nat) : Nat := e.widths.getD (ltab - 0x10) 0

/-- The minimum TIME of a word (Table 9.6); reserved codes count as 1 (R203). -/
def minTime (m : Microword) : Nat :=
  let sq := if m.seq = 6 then 2 else 1
  let h := m.hop.toNat
  let ht := if h = 6 then 3 else if h = 2 ∨ h = 3 ∨ h = 4 ∨ h = 5 ∨ h = 7 then 2 else 1
  let ct := if m.cop = 2 then 2 else 1
  max (max sq (max (aluTime m.aop.toNat) (aluTime m.bop.toNat))) (max ht ct)

/-- Whether some operation of the word reads IMM (R192). -/
def readsImm (m : Microword) : Bool :=
  (m.aop != 0 && m.aimm == 1) || (m.bop != 0 && m.bimm == 1) || (m.mop != 0 && m.mop != 7) || m.vop == 6
    || (m.seq == 6 && m.dispsel == 0x40)

/-- Whether a memory operation returns data to a register: the loads and the atomics (Table 9.10). -/
def memReturns (m : Microword) : Bool := m.mop == 1 || m.mop == 2 || m.mop == 3 || m.mop == 5 || m.mop == 6

/-- The registers a word's operations write, each with the unit that names it (R194). -/
def writtenRegs (m : Microword) : List Nat :=
  (if aluWrites m.aop.toNat then [m.adst.toNat] else []) ++ (if aluWrites m.bop.toNat then [m.bdst.toNat] else [])
    ++ (if m.seq = 8 then [m.cond.toNat % 32] else []) ++ (if memReturns m then [m.mdata.toNat] else [])
    ++ (if m.cop = 2 then [m.cidx.toNat] else [])

/-- Whether two of the names in a list agree. -/
def hasTwice : List Nat → Bool
  | [] => false
  | x :: xs => xs.contains x || hasTwice xs

/-- Registers an INSERT takes its bytes from (Table 9.8). -/
def insertRegs (m : Microword) : Nat := (m.hlen.toNat + 7) / 8

/-- The sequencer's malformations (R192, R196 to R202). -/
def badSeq (m : Microword) : Bool :=
  let t := m.target != 0
  let c := m.cond != 0
  let d := m.dispsel != 0
  match m.seq.toNat with
  | 0 => t || c || d
  | 1 => c || d
  | 2 => d || !condDefined m.cond.toNat
  | 3 => d || !condDefined m.cond.toNat
  | 4 => c || d
  | 5 => t || c || d
  | 6 => t || c || !dispDefined m.dispsel.toNat
  | 7 => c || d || m.target.toNat ≥ 256
  | 8 => d || m.cond.toNat ≥ 32
  | 9 => t || c || d
  | _ => false

/-- An ALU's malformations (R192, R205). -/
def badAlu (op s1 s2 d imm : Nat) : Bool :=
  if op = 0 then s1 != 0 || s2 != 0 || d != 0 || imm != 0
  else op ≥ 0x19 || (imm == 1 && s2 != 0) || (aluUnary op && s1 != 0) || ((op == 0x0E || op == 0x0F) && d != 0)

/-- The header edit unit's malformations (R192, R206). -/
def badHeader (m : Microword) : Bool :=
  let n := m.hlen.toNat
  let r := m.hreg.toNat
  match m.hop.toNat with
  | 0 => m.hoff != 0 || n != 0 || r != 0
  | 1 => n == 0 || n > 8
  | 2 => n == 0 || n > 32 || r + insertRegs m > 32
  | 3 => n == 0 || r != 0
  | 4 => n == 0
  | 5 => n != 2
  | 6 => n != 0 || r != 0
  | 7 => n != 0
  | _ => true

/-- The lookup unit's malformations (R170, R192, R207). -/
def badLookup (e : WordEnv) (m : Microword) : Bool :=
  match m.lop.toNat with
  | 0 => m.ltab != 0 || m.lkey != 0 || m.lslot != 0
  | 1 => !ltabDefined m.ltab.toNat || m.lkey.toNat + keyRegs m.ltab.toNat (e.width m.ltab.toNat) > 32
  | _ => true

/-- The verdict unit's malformations (R192, R202, R209). -/
def badVerdict (m : Microword) : Bool :=
  let a := m.varg.toNat
  match m.vop.toNat with
  | 0 => a != 0
  | 1 => a != 0
  | 2 => a != 0
  | 3 => a != 0 || m.seq != 9
  | 4 => false
  | 5 => a ≥ 32
  | 6 => a != 0 || m.immN ≥ 2 ^ 18
  | 7 => false
  | 8 => a ≥ 4
  | 9 => a ≥ 2
  | _ => true

/-- Whether a word is malformed (R192, R194 and the units' own tables). -/
def malformedWord (e : WordEnv) (m : Microword) : Bool :=
  m.rsv != 0 || badSeq m
    || badAlu m.aop.toNat m.asrc1.toNat m.asrc2.toNat m.adst.toNat m.aimm.toNat
    || badAlu m.bop.toNat m.bsrc1.toNat m.bsrc2.toNat m.bdst.toNat m.bimm.toNat
    || badHeader m || badLookup e m
    || (m.mop == 0 && (m.maddr != 0 || m.mdata != 0)) || (m.mop == 7 && (m.maddr != 0 || m.mdata != 0))
    || (m.mop == 6 && m.mdata == 31)
    || badVerdict m || (m.cop == 0 && m.cidx != 0) || m.cop.toNat ≥ 3
    || (m.imm != 0 && !readsImm m) || hasTwice (writtenRegs m)

/-- The trap a word meets before it starts, as cause and detail (R203, R204): TIME, SEQ_RESERVED, MALFORMED, in this order. -/
def startTrap (e : WordEnv) (m : Microword) : Option (Nat × Nat) :=
  if m.time.toNat + 1 < minTime m then some (1, minTime m)
  else if m.seq.toNat ≥ 10 then some (2, m.seq.toNat)
  else if malformedWord e m then some (3, 0)
  else none

/-- The registers a word reads (R195). -/
def readRegs (e : WordEnv) (m : Microword) : List Nat :=
  let alu (op s1 s2 d imm : Nat) : List Nat :=
    if op = 0 then []
    else (if aluUnary op then [] else [s1]) ++ (if imm = 1 then [] else [s2]) ++ (if op = 0x14 then [d] else [])
  let h := m.hop.toNat
  alu m.aop.toNat m.asrc1.toNat m.asrc2.toNat m.adst.toNat m.aimm.toNat
    ++ alu m.bop.toNat m.bsrc1.toNat m.bsrc2.toNat m.bdst.toNat m.bimm.toNat
    ++ (if m.seq = 8 then [m.cond.toNat % 32] else [])
    ++ (if m.seq = 6 ∧ 0x20 ≤ m.dispsel.toNat ∧ m.dispsel.toNat < 0x40 then [m.dispsel.toNat - 0x20] else [])
    ++ (if h = 1 ∨ h = 4 ∨ h = 5 ∨ h = 7 then [m.hreg.toNat]
        else if h = 2 then (List.range (insertRegs m)).map (· + m.hreg.toNat) else [])
    ++ (if m.lop = 1 then (List.range (keyRegs m.ltab.toNat (e.width m.ltab.toNat))).map (· + m.lkey.toNat) else [])
    ++ (if m.mop != 0 && m.mop != 7 then [m.maddr.toNat] else [])
    ++ (if m.mop = 4 ∨ m.mop = 5 ∨ m.mop = 6 then [m.mdata.toNat] else [])
    ++ (if m.mop = 6 then [m.mdata.toNat + 1] else [])
    ++ (if m.vop = 5 then [m.varg.toNat % 32] else [])
    ++ (if m.cop != 0 then [m.cidx.toNat] else [])

/-- Bytes a memory operation moves (Table 9.10). -/
def memBytes (m : Microword) : Nat := if m.mop = 2 then 4 else if m.mop = 3 then 2 else 8

/-- The slots a word reads through its COND, its DISPSEL or a memory-unit load (R195). -/
def readSlots (c : Ctx) (m : Microword) : List Nat :=
  (if m.seq = 2 ∨ m.seq = 3 then (condSlot m.cond.toNat).toList else [])
    ++ (if m.seq = 6 ∧ m.dispsel.toNat < 8 then [m.dispsel.toNat] else [])
    ++ (if m.mop = 1 ∨ m.mop = 2 ∨ m.mop = 3 then
          match locate 0 (memAddress c m) with
          | .area off => if off ≥ 0x200 then [(off - 0x200) / 48] else []
          | _ => []
        else [])

/-- Whether a range of `n` bytes from `o` covers record byte 26, which holds Colour, at area offset 346 (R195). -/
def coversColour (o n : Nat) : Bool := o ≤ 346 && 346 < o + n

/-- Whether a word touches the Colour byte through the edit or the memory unit (R195). -/
def touchesColour (c : Ctx) (m : Microword) : Bool :=
  let byEdit := (m.hop == 1 || m.hop == 4) && coversColour m.hoff.toNat m.hlen.toNat
  let byMem := m.mop != 0 && m.mop != 7 &&
    match locate 0 (memAddress c m) with
    | .area off => coversColour off (memBytes m)
    | _ => false
  byEdit || byMem

/-- Whether a context waits before a word (R195), or after a WAIT or BARRIER word (R199, R208). -/
def wordWaits (e : WordEnv) (c : Ctx) (m : Microword) : Bool :=
  ((readRegs e m).any fun r => c.pending.contains r) || ((writtenRegs m).any fun r => c.pending.contains r)
    || ((readSlots c m).any fun s => slotPending c s)
    || (m.lop == 1 && e.queueFull)
    || (e.policing && (m.cop == 2 || m.vop == 8 || touchesColour c m))

/-- A memory access to be issued: what, where, operand, new value of a CAS, destination register, and the value where it is
known already. -/
structure Issue where
  op : AccessOp
  addr : Nat
  data : Nat
  new : Nat
  reg : Nat
  done : Option Nat
deriving DecidableEq, Repr

/-- Where a word leads: the next address and call stack, or the end of the pass. -/
inductive Goes where
  | to (pc : Nat) (stack : List Nat)
  | fin
deriving DecidableEq, Repr

/-- What a word did: the context after it, the access, count and policing it issued, whether its pass ended, whether a mirror
request was refused, and what its memory-unit operation touched, for watchpoints. -/
structure WordOut where
  ctx : Ctx
  issue : Option Issue
  count : Option (Nat × Nat)
  police : Option (Nat × Nat × Nat × Nat)
  ended : Bool
  mirrorRefused : Bool
  touched : List (Nat × Nat × Nat)
deriving DecidableEq, Repr

/-- A trap: cause and detail (Table 8.8, Table 8.9). -/
abbrev Trap := Nat × Nat

/-- The next address (R196 to R202), or a trap. -/
def nextAddress (e : WordEnv) (c : Ctx) (m : Microword) : Except Trap Goes :=
  let inc := (c.pc + 1) % 4096
  let t := m.target.toNat
  match m.seq.toNat with
  | 0 => .ok (.to inc c.stack)
  | 1 => .ok (.to t c.stack)
  | 2 => .ok (.to (if condTrue c m.cond.toNat then t else inc) c.stack)
  | 3 => .ok (.to (if condTrue c m.cond.toNat then inc else t) c.stack)
  | 4 => if c.stack.length ≥ 8 then .error (9, 0) else .ok (.to t (inc :: c.stack))
  | 5 => match c.stack with
    | [] => .error (9, 0)
    | a :: rest => .ok (.to a rest)
  | 6 =>
    let d := e.dispatch.getD (dispValue c m) 0
    if bit d 15 then .ok (.to (d % 4096) c.stack) else .error (0x0E, 0)
  | 7 => .ok (.to inc c.stack)
  | 8 => .ok (.to (if (reg c (m.cond.toNat % 32)) = 1 then inc else t) c.stack)
  | _ => .ok .fin

/-- A window with `n` bytes removed from `o`. -/
def windowDelete (w : Bytes) (o n : Nat) : Bytes := w.take o ++ w.drop (o + n)

/-- The IPv4 header checksum of a header whose checksum field is taken as zero. -/
def ip4Checksum (h : Bytes) : Nat := 65535 - fold16 (onesSum (overwrite h 10 [0, 0]))

/-- The header edit (R206, Table 9.8): the edited context, or a trap. Inputs are those of the word's first clock (`c`); the
edit is applied to `t`, the context as the word has changed it so far. Of a MOVE's trap causes the lowest is recorded (R204). An edit that
begins in the window and runs past offset 319 is an edit of the window: it traps with WINDOW, whatever record bytes it would reach (DESIGN
CHOICE, log 93). -/
def headerEdit (c t : Ctx) (m : Microword) : Except Trap Ctx :=
  let o := m.hoff.toNat
  let n := m.hlen.toNat
  let wl := c.window.length
  let v := (reg c m.hreg.toNat).toNat
  let addr : Trap := (4, 0x3000000 + o)
  let write (bs : Bytes) : Except Trap Ctx :=
    if o ≥ 384 then .error addr
    else if o ≥ 320 then
      if o + bs.length > 384 then .error addr
      else if !recordWritable (o - 320) bs.length then .error (5, 0)
      else .ok { t with record := storeRecord t.record (o - 320) bs.length (beNat bs) }
    else if o + bs.length > wl then .error (8, 0)
    else .ok (setWindow t (overwrite t.window o bs))
  let delete (k : Nat) : Except Trap Ctx :=
    if o ≥ 320 then .error addr
    else if k = 0 then .ok t
    else if o + k > wl then .error (8, 0)
    else .ok (setWindow t (windowDelete t.window o k))
  match m.hop.toNat with
  | 0 => .ok t
  | 1 => write (natBe n v)
  | 2 =>
    if o ≥ 320 then .error addr
    else if o > wl ∨ wl + n > 320 then .error (8, 0)
    else
      let bs := natBe n (regsBe c m.hreg.toNat (insertRegs m))
      .ok (setWindow t (t.window.take o ++ bs ++ t.window.drop o))
  | 3 => delete n
  | 4 =>
    let s := v % 512
    if s + n ≤ wl then write (slice c.window s n)
    else match write (natBe n 0) with
      | .error t => .error (if t.1 < 8 then t else (8, 0))
      | .ok _ => .error (8, 0)
  | 5 =>
    if o ≥ 320 then .error addr
    else if o + 2 > wl then .error (8, 0)
    else .ok (setWindow t (overwrite t.window o (natBe 2 (rfc1624 (beAt c.window o 2) (fld v 31 16) (fld v 15 0)))))
  | 6 =>
    let ihl := byteAt c.window o % 16
    if o ≥ 320 then .error addr
    else if o ≥ wl ∨ ihl < 5 ∨ o + ihl * 4 > wl then .error (8, 0)
    else .ok (setWindow t (overwrite t.window (o + 10) (natBe 2 (ip4Checksum (slice c.window o (ihl * 4))))))
  | _ => delete (v % 512)

/-- The memory unit's operation (R162, R176, R208): the access to issue with the context after window and record stores, or a
trap. `t` is the context after the header edit. -/
def memoryUnit (e : WordEnv) (c t : Ctx) (m : Microword) : Except Trap (Ctx × Option Issue) :=
  let a := memAddress c m
  let n := memBytes m
  let v := (reg c m.mdata.toNat).toNat
  let trap : Except Trap (Ctx × Option Issue) := .error (4, a)
  let issue (op : AccessOp) (at' : Nat) : Except Trap (Ctx × Option Issue) :=
    let r := m.mdata.toNat
    let t := if op = .store then t else { t with pending := setAdd t.pending r }
    .ok (t, some ⟨op, at', v, (reg c (r + 1)).toNat, r, none⟩)
  let word (at' : Nat) (writable : Bool) : Except Trap (Ctx × Option Issue) :=
    if a % 8 ≠ 0 then trap
    else match m.mop.toNat with
      | 1 => issue .load at'
      | 4 => if writable then issue .store at' else trap
      | 5 => if writable then issue .fadd at' else trap
      | 6 => if writable then issue .cas at' else trap
      | _ => trap
  if m.mop = 0 then .ok (t, none)
  else if m.mop = 7 then .ok ({ t with barrier := true }, none)
  else match locate e.cluster a with
    | .reserved => trap
    | .scratch p => word p true
    | .common p => if e.segments.contains (p / 0x100000) then word (0x2000000 + p) true else trap
    | .counters p => word (0x2F00000 + p) false
    | .area off =>
      if !withinWord a n then trap
      else if m.mop = 1 ∨ m.mop = 2 ∨ m.mop = 3 then
        let r := m.mdata.toNat
        .ok ({ t with pending := setAdd t.pending r }, some ⟨.load, a, 0, 0, r, some (readArea c off n)⟩)
      else if m.mop = 4 then
        if off < 320 then
          if off + 8 > t.window.length then .error (8, 0) else .ok (setWindow t (overwrite t.window off (natBe 8 v)), none)
        else if off < 384 then
          if recordWritable (off - 320) 8 then .ok ({ t with record := storeRecord t.record (off - 320) 8 v }, none)
          else .error (5, 0)
        else trap
      else trap

/-- The lookup unit's operation (R170, R207). -/
def lookupUnit (e : WordEnv) (c t : Ctx) (m : Microword) : Except Trap Ctx :=
  if m.lop = 0 then .ok t
  else
    let s := m.lslot.toNat
    let tb := m.ltab.toNat
    if slotPending c s then .error (6, 0)
    else if tb ≥ 0x10 ∧ e.width tb = 0 then
      .ok { t with slots := mapPut t.slots s (at_ 375 368 tb), lookups := mapDel t.lookups s }
    else
      .ok { t with slots := mapPut t.slots s (at_ 383 380 1 + at_ 375 368 tb),
                   lookups := mapPut t.lookups s { table := tb, key := lookupKey c tb m.lkey.toNat (e.width tb), engine := true, answer := none, lost := none } }

/-- A final verdict whose result is too long to leave (R164): FORWARD (1), PUNT (2), or any other that ends the packet while it has mirror
requests, since the copies are of that result. After RECIRCULATE (3) the copies are of a later pass's result (R180; DEDUCED, log 77). -/
def frameLong (code : Nat) (result : Bytes) (mirrors : List Nat) : Bool :=
  decide (12284 < result.length) && (code == 1 || code == 2 || (code != 3 && !mirrors.isEmpty))

/-- The verdict unit's operation (R179, R180, R209), on the context `t` the other units leave. The result is the packet as assembled at
the final verdict: FRAME_LONG is judged there, and of a MIRROR after it on that same result (R164). -/
def verdictUnit (c t : Ctx) (m : Microword) : Except Trap (Ctx × Bool) :=
  let final (k arg : Nat) : Except Trap (Ctx × Bool) :=
    if c.verdict.isSome then .error (7, 0)
    else if frameLong k (assembled t) t.mirrors then .error (0x0D, 0)
    else .ok ({ t with verdict := some (k, arg, assembled t) }, false)
  match m.vop.toNat with
  | 0 => .ok (t, false)
  | 1 => if !bit c.record 301 then .error (7, 0) else final 1 0
  | 2 => final 2 0
  | 3 => final 3 0
  | 4 => final 4 m.varg.toNat
  | 5 => .ok ({ t with record := putBit (putFld t.record 319 302 (reg c (m.varg.toNat % 32)).toNat) 301 true }, false)
  | 6 => .ok ({ t with record := putBit (putFld t.record 319 302 m.immN) 301 true }, false)
  | 7 => if t.mirrors.length ≥ 2 then .ok (t, true)
         else if (c.verdict.any fun v => frameLong v.1 v.2.2 [m.varg.toNat]) then .error (0x0D, 0)
         else .ok ({ t with mirrors := t.mirrors ++ [m.varg.toNat] }, false)
  | 8 => .ok ({ t with record := putFld t.record 299 298 m.varg.toNat }, false)
  | _ => .ok ({ t with record := putBit t.record 300 (bit m.varg.toNat 0) }, false)

/-- A word that gives a final verdict: FORWARD, PUNT, RECIRCULATE or DISCARD (R179, Table 9.11). -/
def finalVerdict (m : Microword) : Bool := decide (1 ≤ m.vop.toNat ∧ m.vop.toNat ≤ 4)

/-- The counter and policer unit (R210): counter and bytes, or policer, bytes, input colour and register; or a trap. -/
def counterUnit (c t : Ctx) (m : Microword) :
    Except Trap (Ctx × Option (Nat × Nat) × Option (Nat × Nat × Nat × Nat)) :=
  let i := (reg c m.cidx.toNat).toNat
  let len := (assembled c).length
  if m.cop = 0 then .ok (t, none, none)
  else if m.cop = 1 then
    if i > 67108863 then .error (4, i % 2 ^ 32) else .ok (t, some (i, len), none)
  else if i > 32767 then .error (4, i % 2 ^ 32)
  else .ok ({ t with pending := setAdd t.pending m.cidx.toNat }, none, some (i, len, fld c.record 299 298, m.cidx.toNat))

/-- The trap of a result, if it is one. -/
def trapOf {α : Type} : Except Trap α → List Trap
  | .error t => [t]
  | .ok _ => []

/-- The trap with the lowest cause of a list (R204). -/
def lowestTrap : List Trap → Option Trap
  | [] => none
  | t :: ts => match lowestTrap ts with
    | none => some t
    | some u => if u.1 < t.1 then some u else some t

/-- The addresses a word's memory-unit operation touches (R413): address, bytes, and 1 read, 2 write, 3 both. -/
def touchedBy (c : Ctx) (m : Microword) : List (Nat × Nat × Nat) :=
  if m.mop = 1 ∨ m.mop = 2 ∨ m.mop = 3 then [(memAddress c m, memBytes m, 1)]
  else if m.mop = 4 then [(memAddress c m, 8, 2)]
  else if m.mop = 5 ∨ m.mop = 6 then [(memAddress c m, 8, 3)] else []

/-- A word run on a context (R193): all inputs are those of its first clock; results are applied in the order ALU A, ALU B, the
LOOP counter, the header edit, stores, the verdict's effects. A trapping word has no effect (R182); of several causes the lowest
code is taken (R204). Where several units trap with ADDRESS the Detail is the memory unit's address, else the header edit's, else the
counter unit's index: R183 and R204 do not say which (DESIGN CHOICE, log 93). -/
def runWord (e : WordEnv) (c : Ctx) (m : Microword) : Except Trap WordOut :=
  let (aa, ab) := aluOperandA c m
  let (ba, bb) := aluOperandB c m
  let ra := aluResult m.aop.toNat aa ab (reg c m.adst.toNat)
  let rb := aluResult m.bop.toNat ba bb (reg c m.bdst.toNat)
  let fa := if m.aop = 0 then c.flags % 16 else aluFlags m.aop.toNat aa ab ra
  let fb := if m.bop = 0 then c.flags / 16 else aluFlags m.bop.toNat ba bb rb
  let t := { c with flags := fa + 16 * fb }
  let t := if aluWrites m.aop.toNat then setReg t m.adst.toNat ra else t
  let t := if aluWrites m.bop.toNat then setReg t m.bdst.toNat rb else t
  let t := if m.seq = 8 then setReg t (m.cond.toNat % 32) (reg c (m.cond.toNat % 32) - 1) else t
  let edit := headerEdit c t m
  let t1 := match edit with | .ok x => x | .error _ => t
  let look := lookupUnit e c t1 m
  let t2 := match look with | .ok x => x | .error _ => t1
  let mem := memoryUnit e c t2 m
  let (t3, iss) := match mem with | .ok x => x | .error _ => (t2, none)
  let cnt := counterUnit c t3 m
  let (t4, count, police) := match cnt with | .ok x => x | .error _ => (t3, none, none)
  let ver := verdictUnit c t4 m
  let (t5, refused) := match ver with | .ok x => x | .error _ => (t4, false)
  let nxt := nextAddress e c m
  let noVerdict : List Trap := if m.seq = 9 ∧ c.verdict.isNone ∧ finalVerdict m = false then [(7, 0)] else []
  match lowestTrap (trapOf mem ++ trapOf edit ++ trapOf cnt ++ trapOf look ++ trapOf ver ++ trapOf nxt ++ noVerdict) with
  | some tr => .error tr
  | none =>
    match nxt with
    | .error tr => .error tr
    | .ok .fin => .ok ⟨t5, iss, count, police, true, refused, touchedBy c m⟩
    | .ok (.to pc st) =>
      let wm := if m.seq = 7 then m.target.toNat % 256 else 0
      .ok ⟨{ t5 with pc := pc, stack := st, waitMask := wm }, iss, count, police, false, refused, touchedBy c m⟩

end Sys2Proof.Machine
end

