-- ==== Sys2Proof/Machine/Flights.lean ====
section
/-! DEFINITION. Packets between steering and retirement: arrival at a cluster, the hold space, placement in a context, traps,
discards, remap barriers, and the fences of clusters and engines (R106 to R110, R160, R161, R182, R186 to R188). -/

namespace Sys2Proof.Machine

/-- Fields of CL.Counters (Table 8.12). -/
abbrev ccDispatched : Nat := 0
abbrev ccReleased : Nat := 1
abbrev ccForwarded : Nat := 2
abbrev ccPunted : Nat := 3
abbrev ccRecirculated : Nat := 4
abbrev ccDiscarded : Nat := 5
abbrev ccTrapped : Nat := 6
abbrev ccFenceDiscards : Nat := 7
abbrev ccInputFull : Nat := 8
abbrev ccMirrored : Nat := 9
abbrev ccMirrorRefused : Nat := 10
abbrev ccExecClocks : Nat := 11

/-- A field of a cluster's CL.Counters advanced. -/
def Device.clCount (d : Device) (cl k n : Nat) : Device := d.bump Obj.clCounters cl 12 k n

/-- A field of a slice's PARSE.Counters advanced (Table 5.10): 0 Parsed, 1 Malformed, 2 Deep, 3 StoppedUnknown, 4 Ip4ChecksumBad,
5 KeyNotIssued, 6 RecircPasses, 7 RecircLimit, 8 RecircFull, 9 BarrierTimeouts, 10 HoldDiscards. -/
def Device.parseCount (d : Device) (slice k n : Nat) : Device := d.bump Obj.parseCounters slice 11 k n

/-- Target numbers of a cluster and an engine (Table 15.2). -/
def clusterTarget (cl : Nat) : Nat := 0x100 + cl
def engineTarget (e : Nat) : Nat := 0x400 + e

/-- NOTED or DEGRADE is set in a target's LOOK.UnitStatus: the Lookout holds an uncleared status blaming it (R186, R322). -/
def Device.blamed (d : Device) (tgt : Nat) : Bool := d.rd Obj.lookUnitStatus tgt 1 0 != 0

/-- The engines execute: the device forwards (R328, R363). -/
def Device.enginesRun (d : Device) : Bool := d.forwarding

/-! ### Flights and contexts -/

/-- The packet with an identifier. -/
def Device.flight? (d : Device) (id : Nat) : Option Flight := d.sl.flights.find? fun f => f.id == id

/-- A packet's entry replaced. -/
def Device.setFlight (d : Device) (f : Flight) : Device :=
  { d with sl := { d.sl with flights := d.sl.flights.map fun x => if x.id = f.id then f else x } }

/-- The packet has been discarded and waits for its release in its place (R181); the codes of Table 9.11 start at 1. -/
def Flight.lost (f : Flight) : Bool := match f.verdict with | some (0, _) => true | _ => false

/-- A flow lookup in HBM whose pass ends before its result: the entry it finds still fills the slice's cache as it returns (R130). -/
def Device.orphanFlow (d : Device) (slice : Nat) (o : Orphan) : Device :=
  { d with sl := { d.sl with orphans := mapPut d.sl.orphans slice (mapGet d.sl.orphans slice [] ++ [o]) } }

/-- The oldest such lookup of a slice that can return comes back from HBM; `found` is what the slots it reads show (R130, R265). -/
def Device.landFlow (d : Device) (c : Clk) (slice : Nat) (found : List BlockFound) : Device :=
  let os := mapGet d.sl.orphans slice []
  match os.find? fun o => o.lost.isNone with
  | none => d
  | some o =>
    let d := { d with sl := { d.sl with orphans := mapSet d.sl.orphans slice (os.erase o) [] } }
    ((d.flowFound c o.key o.stack found).flowDone slice o.key).2

/-- A packet discarded: the retire unit releases it in its place (R106, R181). No copy of it is made. -/
def Device.discard (d : Device) (f : Flight) : Device :=
  let d := match f.flowKey with | some key => d.orphanFlow f.slice { key := key, lost := f.flowLost, stack := f.flowStack } | none => d
  d.setFlight { f with place := .ended, verdict := some (0, 0), mirrors := [], flowKey := none, flowLost := none }

/-- A context that is not FREE. -/
def Device.ctx? (d : Device) (k : Nat) : Option Ctx := mapGet? d.eng.ctx k

/-- A context stored. -/
def Device.setCtx (d : Device) (k : Nat) (x : Ctx) : Device := { d with eng := { d.eng with ctx := mapPut d.eng.ctx k x } }

/-- What a FREE halted context holds until it is written: values the spec leaves open (log 2), their reserved fields zero (R6). -/
def Device.idleCtx (d : Device) : Ctx × Device :=
  let regs := d.drawN 32 (2 ^ 64)
  let win := regs.2.drawN 320 256
  let slots := win.2.drawN 8 (2 ^ 384)
  let stack := slots.2.drawN 8 4096
  let misc := stack.2.drawN 5 (2 ^ 512)
  let m (i : Nat) := misc.1.getD i 0
  ({ flight := 0, pc := m 0 % 4096, regs := (regs.1.zipIdx).map fun x => (x.2, BitVec.ofNat 64 x.1), pending := [], flags := m 1 % 256,
     stack := stack.1.take (m 2 % 9), window := win.1.map (BitVec.ofNat 8), tail := [], record := cleanRecord (m 3),
     parser := cleanParser (m 4), slots := (slots.1.zipIdx).map fun x => (x.2, cleanSlot x.1), lookups := [], verdict := none,
     mirrors := [], order := 0, waitMask := 0,
     barrier := false, halted := true, stepping := false, passed := false, debug := false }, misc.2)

/-- The flow lookups of a context that are still in HBM. -/
def Ctx.flowsSent (x : Ctx) : List Orphan :=
  (x.lookups.filter fun l => l.2.sent).map fun l => { key := l.2.key, lost := l.2.lost, stack := l.2.stack }

/-- A context becomes FREE; a halted one stays halted (R411, R414). -/
def Device.freeCtx (d : Device) (k : Nat) : Device :=
  match d.ctx? k with
  | none => d
  | some x =>
    let d := x.flowsSent.foldl (fun d o => d.orphanFlow (k / 2048) o) d
    let d := { d with eng := { d.eng with ctx := mapDel d.eng.ctx k } }
    if x.halted then
      let r := d.idleCtx
      { r.2 with sx := { r.2.sx with idle := mapPut r.2.sx.idle k r.1 } }
    else d

/-- FREE contexts of an engine that may receive a packet: those not halted (R160, R410). -/
def Device.freeContexts (d : Device) (e : Nat) : List Nat :=
  ((List.range 8).map (8 * e + ·)).filter fun k => (d.ctx? k).isNone && (mapGet? d.sx.idle k).isNone

/-- Non-FREE contexts of an engine. -/
def Device.busyIn (d : Device) (e : Nat) : Nat := ((List.range 8).filter fun k => (d.ctx? (8 * e + k)).isSome).length

/-- The unfenced engines of a cluster that have a FREE context, lowest number first. -/
def Device.openEngines (d : Device) (cl : Nat) : List Nat :=
  ((List.range 16).map (16 * cl + ·)).filter fun e => !d.engineFenced e && !(d.freeContexts e).isEmpty

/-- The engine a packet is placed on: the fewest non-FREE contexts, the lowest number among equals (R160). -/
def Device.chooseEngine (d : Device) (cl : Nat) : Option Nat :=
  (d.openEngines cl).foldl (fun best e =>
    match best with
    | some b => if d.busyIn e < d.busyIn b then some e else best
    | none => some e) none

/-- FREE contexts of a cluster's unfenced engines. -/
def Device.freePlaces (d : Device) (cl : Nat) : Nat := ((d.openEngines cl).map fun e => (d.freeContexts e).length).sum

/-- Packets of a cluster in a place. -/
def Device.inPlace (d : Device) (cl : Nat) (p : Place) : List Flight := d.sl.flights.filter fun f => f.cluster == cl && f.place == p

/-- Packets in a cluster's input FIFO: those beyond its FREE contexts (R160). -/
def Device.inputDepth (d : Device) (cl : Nat) : Nat := (d.inPlace cl .input).length - d.freePlaces cl

/-- CL.Status with its gauges (Table 8.11). -/
def Device.viewCluster (d : Device) (cl : Nat) : Nat :=
  at_ 127 120 (d.clusterState cl) + at_ 119 112 (d.get Obj.clFence cl)
    + at_ 111 96 ((List.range 16).foldl (fun a k => a + b2n (d.engineFenced (16 * cl + k)) * 2 ^ k) 0)
    + at_ 95 88 (((List.range 16).map fun k => d.busyIn (16 * cl + k)).sum) + at_ 87 72 (d.inputDepth cl)
    + at_ 71 56 (d.inPlace cl .held).length

/-! ### Barriers (R107 to R110) -/

/-- The raised barrier of a bucket. -/
def Device.barrier? (d : Device) (slice b : Nat) : Option Barrier :=
  d.sl.barriers.find? fun x => x.slice == slice && x.bucket == b

/-- A bucket's barrier replaced. -/
def Device.setBarrier (d : Device) (x : Barrier) : Device :=
  { d with sl := { d.sl with barriers := d.sl.barriers.filter (fun y => !(y.slice == x.slice && y.bucket == x.bucket)) ++ [x] } }

/-- The packets a barrier still waits for: not retired, and not discarded by a fence (R108, R110). -/
def Device.stillWaits (d : Device) (x : Barrier) : List Nat := x.waitFor.filter fun id => (d.flight? id).isSome

/-- A packet held by a raised barrier of its bucket. -/
def Device.heldByBarrier (d : Device) (f : Flight) : Bool :=
  match d.barrier? f.slice f.bucket with
  | some x => f.place == .held && !x.waitFor.contains f.id
  | none => false

/-- The cluster a bucket names. -/
def Device.bucketCluster (d : Device) (slice b : Nat) : Nat := d.get Obj.steerIndirection (slice * 4096 + b)

/-- A bucket remapped: its barrier is raised, or replaced by a new one, which BarrierCount does not count again (DESIGN CHOICE, log 84),
waiting for the packets of `waits` (R107, R108, R110). -/
def Device.remap (d : Device) (slice b cl : Nat) (waits : List Nat) : Device :=
  let e := slice * 4096 + b
  let old := d.bucketCluster slice b
  let pending := d.get Obj.steerBarrierPending e == 1
  let d := d.set Obj.steerClusterBuckets old (d.get Obj.steerClusterBuckets old - 1)
  let d := d.set Obj.steerClusterBuckets cl (d.get Obj.steerClusterBuckets cl + 1)
  let d := (d.set Obj.steerIndirection e cl).set Obj.steerBarrierPending e 1
  let d := if pending then d else d.set Obj.steerBarrierCount slice (d.get Obj.steerBarrierCount slice + 1)
  d.setBarrier { slice := slice, bucket := b, old := old, cluster := cl, waitFor := waits }

/-- Packets of a bucket that have not retired, in a cluster or in any. -/
def Device.bucketFlights (d : Device) (slice b : Nat) (cl : Option Nat) : List Nat :=
  (d.sl.flights.filter fun f => f.slice == slice && f.bucket == b && !f.lost && (cl.isNone || cl == some f.cluster)).map Flight.id

/-- A write of STEER.Indirection (R107). -/
def Device.writeIndirection (d : Device) (e cl : Nat) : Wr :=
  let s := e / 4096
  let b := e % 4096
  if cl / 16 ≠ s then .error stType
  else if d.clusterFenced cl ∨ d.get Obj.steerBarrierPending e = 1 then .error stBusy
  else if d.bucketCluster s b = cl then .ok d
  else .ok (d.remap s b cl (d.bucketFlights s b (some (d.bucketCluster s b))))

/-- A write of STEER.FenceTarget (R110). -/
def Device.writeFenceTarget (d : Device) (s cl : Nat) : Wr :=
  if cl / 16 ≠ s then .error stType else .ok (d.set Obj.steerFenceTarget s cl)

/-- A barrier released: its bucket's held packets may be dispatched (R108). -/
def Device.releaseBarrier (d : Device) (x : Barrier) : Device :=
  let d := { d with sl := { d.sl with barriers := d.sl.barriers.filter fun y => !(y.slice == x.slice && y.bucket == x.bucket) } }
  (d.set Obj.steerBarrierPending (x.slice * 4096 + x.bucket) 0).set Obj.steerBarrierCount x.slice
    (d.get Obj.steerBarrierCount x.slice - 1)

/-- A barrier all of whose packets have retired is released (Table 5.11, t2). -/
def execBarrierRelease (slice bucket : Nat) (s : State) : Host.Outcome State Fault Refusal :=
  onDev (Instr.barrierRelease slice bucket).wf
    (fun _ d =>
      match d.barrier? slice bucket with
      | some x => if (d.stillWaits x).isEmpty then d.releaseBarrier x else d
      | none => d) s

/-- A barrier that still waits 4 µs after its remap is released and the steering-barrier fault raised (Table 5.11). -/
def execBarrierTimeout (slice bucket : Nat) (s : State) : Host.Outcome State Fault Refusal :=
  onDev (Instr.barrierTimeout slice bucket).wf
    (fun _ d =>
      match d.barrier? slice bucket with
      | some x =>
        if (d.stillWaits x).isEmpty then d
        else ((d.releaseBarrier x).parseCount slice 9 1).raise 0x05 (clusterTarget x.old) bucket
      | none => d) s

/-! ### Arrival (R106, R109, R160, R186, R188) -/

/-- The next arrival number. -/
def Device.nextArrival (d : Device) : Nat × Device := (d.sl.nextId, { d with sl := { d.sl with nextId := d.sl.nextId + 1 } })

/-- Room for one more packet in a cluster's hold space (R109). -/
def Device.holdRoom (d : Device) (cl : Nat) : Bool := decide ((d.inPlace cl .held).length < 2048)

/-- Packets that a fence discards, at once or as they reach the fenced cluster: counted in FenceDiscards, and retired for every barrier (R110, R186). -/
def Device.fenceDiscard (d : Device) (cl : Nat) (fs : List Flight) : Device :=
  let ids := fs.map Flight.id
  let d := fs.foldl Device.discard d
  let d := d.clCount cl ccFenceDiscards fs.length
  { d with sl := { d.sl with barriers := d.sl.barriers.map fun x => { x with waitFor := x.waitFor.filter fun i => !ids.contains i } } }

/-- A pass reaches its cluster; `barred` says that its bucket's barrier holds it. -/
def Device.arrive (d : Device) (f : Flight) (barred : Bool) : Device :=
  let cl := f.cluster
  let r := d.nextArrival
  let f := { f with arrived := r.1 }
  let d := r.2
  if d.clusterFenced cl || f.barred then d.fenceDiscard cl [f]
  else if barred || d.clusterPower cl != 0 then
    if d.holdRoom cl then
      (if d.clusterPower cl = 1 ∨ d.clusterPower cl = 2 then d.setClusterPower cl 3 else d).setFlight { f with place := .held }
    else (d.parseCount f.slice 10 1).discard f
  else if 512 + d.freePlaces cl ≤ (d.inPlace cl .input).length then (d.clCount cl ccInputFull 1).discard f
  else d.setFlight { f with place := .input }

/-! ### Traps (R182, R183) -/

/-- A CL.TrapLog record written and counted, and the engine-trap fault raised (R182, R183, Table 8.9). -/
def Device.logTrap (d : Device) (c : Clk) (cl eng ctx pc record cause detail tgt : Nat) : Device :=
  let n := d.get Obj.clTrapCount cl
  let v := at_ 255 248 cause + at_ 247 244 eng + at_ 243 241 ctx + at_ 239 228 pc + at_ 223 216 (fld record 511 504)
    + at_ 215 204 (fld record 479 468) + at_ 203 202 (fld record 467 466) + at_ 199 184 (fld record 463 448)
    + at_ 183 176 (fld record 487 480) + at_ 175 144 detail + c.time80
  (((d.set Obj.clTrapLog (cl * 16 + n % 16) v).set Obj.clTrapCount cl ((n + 1) % 2 ^ 32)).clCount cl ccTrapped 1).raise 0x01 tgt cause

/-- A context traps (R182): its packet is discarded, and the context becomes FREE; that of a debug pass is halted again (R412). -/
def Device.trap (d : Device) (c : Clk) (k : Nat) (x : Ctx) (cause detail : Nat) : Device :=
  let d := d.logTrap c (k / 128) (k / 8 % 16) (k % 8) x.pc x.record cause detail (engineTarget (k / 8))
  let d := match if x.debug then none else d.flight? x.flight with
    | some f => d.discard f
    | none => d
  (if x.debug then d.setCtx k { x with halted := true } else d).freeCtx k

/-! ### Dispatch (R160, R161, R168) -/

/-- The packets that can be placed in a context now, of an ACTIVE cluster. -/
def Device.dispatchable (d : Device) (cl : Nat) : List Flight :=
  d.sl.flights.filter fun f => f.cluster == cl && (f.place == .input || (f.place == .held && !d.heldByBarrier f))

/-- The one that arrived first. -/
def Device.firstArrived (d : Device) (cl : Nat) : Option Flight :=
  (d.dispatchable cl).foldl (fun best f =>
    match best with
    | some b => if f.arrived < b.arrived then some f else best
    | none => some f) none

/-- The context a pass starts in (R161, R163). -/
def startCtx (f : Flight) (pc order : Nat) : Ctx :=
  let n := min f.bytes.length 256
  { flight := f.id, pc := pc, regs := [], pending := [], flags := 0, stack := [], window := f.bytes.take n, tail := f.bytes.drop n,
    record := putFld f.record 335 327 n, parser := f.parser, slots := f.slots,
    lookups := match f.flowKey with
      | some key => [(4, { table := 9, key := key, engine := false, answer := none, lost := f.flowLost, stack := f.flowStack })]
      | none => []
    verdict := none, mirrors := f.mirrors, order := order, waitMask := 0, barrier := false, halted := false, stepping := false,
    passed := false, debug := false }

/-- A pass whose flow lookup has returned before dispatch, which is free (R168): the slot and the record hold its result; `found` is what
the flow slots it reads show (R265). One whose request a block reset has lost has not returned (R344). -/
def Device.settleFlow (d : Device) (c : Clk) (f : Flight) (found : List BlockFound) : Flight × Device :=
  match f.flowKey with
  | none => (f, d)
  | some key =>
    let back := Config.freeValue d.free % 2 == 1 && f.flowLost.isNone
    let d := d.spend
    if back then
      let r := (d.flowFound c key f.flowStack found).flowDone f.slice key
      ({ f with flowKey := none, slots := mapPut f.slots 4 r.1, record := recordResult f.record 4 r.1 }, r.2)
    else (f, d)

/-- The packet placed in a context of an engine, which of its FREE contexts being free. -/
def Device.place (d : Device) (c : Clk) (f : Flight) (e pc : Nat) (found : List BlockFound) : Device :=
  match d.pick (d.freeContexts e) with
  | none => d
  | some k =>
    let r := d.spend.settleFlow c f found
    let d := (r.2.setFlight { r.1 with place := .context k, flowKey := none, flowLost := none }).setCtx k (startCtx r.1 pc r.2.eng.next)
    { d.clCount f.cluster ccDispatched 1 with eng := { d.eng with next := d.eng.next + 1 } }

/-- A packet dispatched at its dispatch-table entry; an invalid entry traps without a context (R160, R182). -/
def Device.dispatch (d : Device) (c : Clk) (f : Flight) (found : List BlockFound) : Device :=
  let cl := f.cluster
  let entry := d.get Obj.clDispatch (cl * 256 + fld f.record 511 504)
  if !bit entry 15 then (d.logTrap c cl 0 0 0 f.record 0x0E 0 (clusterTarget cl)).discard f
  else match d.chooseEngine cl with
    | some e => d.place c f e (entry % 4096) found
    | none => d

/-- A waiting or arriving pass is placed in a FREE context of its cluster. -/
def execContextDispatch (cluster : Nat) (found : List BlockFound) (s : State) : Host.Outcome State Fault Refusal :=
  onDev (Instr.contextDispatch cluster found).wf
    (fun c d =>
      if d.enginesRun && !d.clusterFenced cluster && d.clusterPower cluster == 0 then
        match d.firstArrived cluster with
        | some f => d.dispatch c f found
        | none => d
      else d) s

/-! ### Fences (R110, R186, R187, R414) -/

/-- Whether a place lies within a cluster's contexts, input FIFO or hold space. -/
def Place.inCluster : Place → Bool
  | .input => true
  | .held => true
  | .context _ => true
  | .recirc => false
  | .ended => false

/-- The clusters a fenced cluster's buckets go to (R110). -/
def Device.fenceTargets (d : Device) (slice : Nat) : List Nat :=
  let t := d.get Obj.steerFenceTarget slice
  if !d.clusterFenced t && d.get Obj.steerClusterBuckets t == 0 then [t] else d.unfenced slice

/-- Every bucket that names a fenced cluster remapped (R110). -/
def Device.remapFenced (d : Device) (cl : Nat) : Device :=
  let s := cl / 16
  let targets := d.fenceTargets s
  if targets.isEmpty then d
  else
    let buckets := (List.range 4096).filter fun b => d.bucketCluster s b == cl
    (buckets.zipIdx).foldl (fun d x =>
      let pending := (d.barrier? s x.1).isSome
      d.remap s x.1 (targets.getD (x.2 % targets.length) 0) (d.bucketFlights s x.1 (if pending then none else some cl))) d

/-- CL.Fence of a cluster set, and the shadow of the reaction opened (R186, R319). -/
def Device.markFence (d : Device) (by_ cl : Nat) : Device := (d.set Obj.clFence cl by_).openShadow (clusterTarget cl)

/-- Packets of a cluster in recirculation when it is fenced: their passes are discarded on arrival (R106). -/
def Device.barRecirc (d : Device) (cl : Nat) : Device :=
  { d with sl := { d.sl with flights := d.sl.flights.map fun f => if f.cluster == cl && f.place == .recirc then { f with barred := true } else f } }

/-- What the fence of a cluster does to its packets, contexts and buckets, and to its slice's class conversion (R110, R186, R222). -/
def Device.clearCluster (d : Device) (cl : Nat) : Device :=
  let d := d.barRecirc cl
  let d := d.fenceDiscard cl (d.sl.flights.filter fun f => f.cluster == cl && f.place.inCluster)
  let d := ((d.eng.ctx.map Prod.fst).filter fun k => k / 128 == cl).foldl Device.freeCtx d
  (d.remapFenced cl).convertClass (cl / 16)

/-- A cluster fenced by a supervisor (1) or the Lookout (2) (R186). -/
def Device.fenceCluster (d : Device) (cl by_ : Nat) : Device :=
  if d.clusterFenced cl then d else (d.markFence by_ cl).clearCluster cl

/-- Clusters fenced at one instant: none of them takes another's buckets (R110, R371, log 37). -/
def Device.fenceClusters (d : Device) (cls : List Nat) (by_ : Nat) : Device :=
  let new := cls.filter fun cl => !d.clusterFenced cl
  new.foldl Device.clearCluster (new.foldl (fun d cl => d.markFence by_ cl) d)

/-- As DEV.State leaves AWAIT_IMAGE, every cluster without an image is fenced (R220). -/
def Device.fenceImageless (d : Device) : Device :=
  if d.state = St.awaitImage then d.fenceClusters ((List.range 64).filter fun cl => d.get Obj.ucodeCompatClass cl == 0) 1 else d

/-- An engine fenced (R187). -/
def Device.fenceEngine (d : Device) (e : Nat) : Device :=
  if d.engineFenced e then d
  else
    let d := (d.set Obj.clEngineFence e 1).openShadow (engineTarget e)
    let here (f : Flight) : Bool := match f.place with | .context k => k / 8 == e | _ => false
    let d := d.fenceDiscard (e / 16) (d.sl.flights.filter here)
    ((d.eng.ctx.map Prod.fst).filter fun k => k / 8 == e).foldl Device.freeCtx d

/-- Whether an engine is the last unfenced one of its cluster. -/
def Device.lastEngine (d : Device) (e : Nat) : Bool :=
  (List.range 16).all fun k => 16 * (e / 16) + k == e || d.engineFenced (16 * (e / 16) + k)

/-- A halted context in a cluster (R414). -/
def Device.haltedIn (d : Device) (cl : Nat) : Bool :=
  (d.eng.ctx.any fun kv => kv.1 / 128 == cl && kv.2.halted) || d.sx.idle.any fun kv => kv.1 / 128 == cl

/-- A write of 0 to a cluster's CL.Fence is refused with BUSY, whether or not the cluster is fenced (R222, R414). -/
def Device.zeroRefused (d : Device) (cl : Nat) : Bool :=
  let k := d.get Obj.ucodeCompatClass cl
  let s := cl / 16
  d.loadState cl == 1 || d.loadState cl == 2 || k == 0
    || !(k == d.get Obj.ucodeActiveClass s || (d.get Obj.ucodePendingClass s != 0 && k == d.get Obj.ucodePendingClass s))
    || d.haltedIn cl

/-- An unfence of a cluster would be refused with BUSY (R186, R222, R414). -/
def Device.clusterKept (d : Device) (cl : Nat) : Bool := d.blamed (clusterTarget cl) || d.zeroRefused cl

/-- A cluster returned to service with no bucket (R186). Where its slice had no unfenced cluster its buckets still name it (R110): they go on
naming it, and it serves them (DESIGN CHOICE, log 94). -/
def Device.unfenceCluster (d : Device) (cl : Nat) : Device :=
  ((d.set Obj.clFence cl 0).setClusterPower cl 0).convertClass (cl / 16)

/-- A write of CL.Fence (R186, R222). A 0 that is not refused changes nothing of a cluster in service (log 58). -/
def Device.writeFence (d : Device) (cl v : Nat) : Wr :=
  if v = 1 then .ok (d.fenceCluster cl 1)
  else if v ≠ 0 then .error stType
  else if !d.clusterFenced cl then (if d.zeroRefused cl then .error stBusy else .ok d)
  else if d.clusterKept cl then .error stBusy
  else .ok (d.unfenceCluster cl)

/-- A write of CL.EngineFence (R187). -/
def Device.writeEngineFence (d : Device) (e v : Nat) : Wr :=
  if v = 1 then
    if d.engineFenced e then .ok d
    else if d.lastEngine e && !d.clusterFenced (e / 16) then .error stBusy
    else .ok (d.fenceEngine e)
  else if d.blamed (engineTarget e) then .error stBusy
  else .ok (d.set Obj.clEngineFence e 0)

/-! ### Idle clusters (R188) -/

/-- A cluster that names no bucket and holds no packet enters IDLE, or RETENTION while the thermal rule is in force (R188, R398). -/
def execClusterIdle (cluster : Nat) (s : State) : Host.Outcome State Fault Refusal :=
  onDev (Instr.clusterIdle cluster).wf
    (fun _ d =>
      let held := d.sl.flights.any fun f => f.cluster == cluster
      let busy := d.eng.ctx.any fun kv => kv.1 / 128 == cluster
      if !d.clusterFenced cluster && d.clusterPower cluster == 0 && d.get Obj.steerClusterBuckets cluster == 0 && !held && !busy then
        d.setClusterPower cluster d.idlePower
      else d) s

/-- A waking cluster becomes ACTIVE (R188). -/
def execClusterWakeDone (cluster : Nat) (s : State) : Host.Outcome State Fault Refusal :=
  onDev (Instr.clusterWakeDone cluster).wf
    (fun _ d => if d.clusterPower cluster = 3 ∧ !d.clusterFenced cluster then d.setClusterPower cluster 0 else d) s

/-- A cluster that holds a packet and has released none for 100 µs (Table 15.4, source 0x06). -/
def execClusterHang (cluster : Nat) (s : State) : Host.Outcome State Fault Refusal :=
  onDev (Instr.clusterHang cluster).wf
    (fun _ d =>
      if d.sl.flights.any fun f => f.cluster == cluster then d.conditionEvent 0x06 (clusterTarget cluster) 0 true else d) s

end Sys2Proof.Machine
end

