-- ==== Sys2Proof/Machine/Slices.lean ====
section
/-! DEFINITION. A pass through a slice (chapter 05): the parser's FIFOs, key profiles, hashes, the pipeline's lookups and learning check,
the receive stamp, and steering. -/

namespace Sys2Proof.Machine

/-! ### Key profiles (Tables 5.5 to 5.9) -/

/-- A write of KEY.ClassMap. -/
def Device.writeClassMap (d : Device) (e v : Nat) : Wr := if 63 < v then .error stType else .ok (d.set Obj.keyClassMap e v)

/-- A write of KEY.Segment (Table 5.6). -/
def Device.writeSegment (d : Device) (e v : Nat) : Wr :=
  let src := fld v 31 30
  let slot := fld v 28 24
  let disp := fld v 23 16
  if src = 1 ∧ 26 < slot ∨ src ≠ 1 ∧ slot ≠ 0 ∨ src = 2 ∧ 62 < disp
      ∨ (src = 0 ∨ src = 3) ∧ disp ≠ 0 ∨ src = 0 ∧ fld v 15 0 ≠ 0 then
    .error stType
  else .ok (d.set Obj.keySegment e v)

/-- Whether a lookup of a profile may use a table with a key length (Table 5.8). -/
def keyLookupOk (n table len : Nat) : Bool :=
  match n with
  | 0 => table == 1 && len == 4
  | 1 => (table == 2 && len == 3) || (table == 3 && len == 5)
  | 4 => table == 9 && len == 20
  | 5 => (table == 5 || table == 6) && len == 1
  | _ => decide (0x10 ≤ table ∧ table ≤ 0x1B) && (len == 10 || len == 20 || len == 30)

/-- A write of KEY.Lookup (R100). -/
def Device.writeKeyLookup (d : Device) (e v : Nat) : Wr :=
  let n := e % 6
  let other := d.get Obj.keyLookup (if n = 2 then e + 1 else e - 1)
  if 40 < fld v 27 22 + fld v 21 16 ∨ 39 < fld v 27 22 then .error stType
  else if bit v 31 then
    if !keyLookupOk n (fld v 15 8) (fld v 21 16) then .error stType
    else if (n = 2 ∨ n = 3) ∧ bit other 31 = true ∧ fld other 15 8 = fld v 15 8 then .error stType
    else .ok (d.set Obj.keyLookup e (putFld (putFld v 30 28 0) 7 0 0))
  else if fld v 30 28 ≠ 0 ∨ fld v 7 0 ≠ 0 then .error stType
  else .ok (d.set Obj.keyLookup e v)

/-- A write of KEY.Hash (Table 5.9, R104). -/
def Device.writeHash (d : Device) (e v : Nat) : Wr :=
  if bit v 62 && decide (18 < ((List.range 40).filter fun k => bit v (16 + k)).length) then .error stType
  else .ok (d.set Obj.keyHash e (putFld (putFld v 61 56 0) 15 0 0))

/-- What the key builder reads: the frame, the parser's slots, and the packet record. -/
structure KeyInput where
  frame : Bytes
  slots : NMap Nat
  record : Nat

/-- A segment's value, and whether it is REQUIRED and its slot not valid (R99). -/
def segment (k : KeyInput) (w : Nat) : Nat × Bool :=
  match fld w 31 30 with
  | 0 => (0, false)
  | 1 =>
    (match mapGet? k.slots (fld w 28 24) with
      | none => (0, bit w 29)
      | some o =>
        let read (i : Nat) : Nat := if 255 < i then 0 else byteAt k.frame i
        let a := o + fld w 23 16
        ((read a * 256 + read (a + 1)) &&& fld w 15 0, false))
  | 2 => (bytesOf k.record 64 (fld w 23 16) 2 &&& fld w 15 0, false)
  | _ => (fld w 15 0, false)

/-- The 40 segments of a profile. -/
def Device.segments (d : Device) (slice profile : Nat) (k : KeyInput) : List (Nat × Bool) :=
  (List.range 40).map fun i => segment k (d.get Obj.keySegment (slice * 2560 + profile * 40 + i))

/-- A hash of the segments KEY.Hash selects (R102 to R104). -/
def Device.hash (d : Device) (slice profile h : Nat) (segs : List (Nat × Bool)) : Nat :=
  let w := d.get Obj.keyHash (slice * 192 + profile * 3 + h)
  let input : Bytes := ((segs.zipIdx.filter fun x => bit w (16 + x.2)).map fun x => natBe 2 x.1.1).flatten
  if !bit w 63 || input.isEmpty then 0
  else if bit w 62 then toeplitz (d.get Obj.hashToeplitzKey 0) input
  else crc32c input

/-! ### Pipeline lookups (R100, R119, R168) -/

/-- A lookup's key, or none where it is not issued (R100). -/
def Device.pipelineKey (d : Device) (slice w : Nat) (segs : List (Nat × Bool)) : Option Nat :=
  let len := fld w 21 16
  let table := fld w 15 8
  let part := (segs.drop (fld w 27 22)).take len
  let key := part.foldl (fun a x => a * 65536 + x.1) 0
  let tcam := d.tcamTable slice (table - 0x10)
  let width := if bit tcam 63 then tcWidth tcam else 0
  if part.any Prod.snd then none
  else if 0x10 ≤ table ∧ width * 10 ≠ len then none
  else if table = 6 ∧ 256 ≤ key then none
  else some key

/-- The learning check of a pass that issues lookup 0 (R119). -/
def Device.learnPass (d : Device) (c : Clk) (slice port bd : Nat) (frame : Bytes) : Device :=
  match d.direct 6 port, d.direct 5 bd with
  | some p, some b =>
    if bit p.data 119 && bit b.data 119 && !bit (byteAt frame 6) 0 then
      d.learnCheck c slice (bd * 2 ^ 48 + beAt frame 6 6) port (fld b.data 95 88)
    else d
  | _, _ => d

/-- The result of lookup `n` in its slot, and the flow key of a lookup that stays PENDING. -/
def Device.pipelineLookup (d : Device) (c : Clk) (slice profile port n : Nat) (frame : Bytes) (segs : List (Nat × Bool)) (found : WinnerCheck) :
    Nat × Option Nat × Device :=
  let w := d.get Obj.keyLookup (slice * 384 + profile * 6 + n)
  let table := fld w 15 8
  if !bit w 31 then (0, none, d)
  else match d.pipelineKey slice w segs with
    | none => (slotWord rsNotIssued table, none, d.parseCount slice 5 1)
    | some key =>
      if n = 4 then
        match d.flowStart c slice key with
        | (some v, d1) => (v, none, d1)
        | (none, d1) => (slotWord rsPending table, some key, d1)
      else
        let r := d.lookup c slice table key 0 found
        (r.1, none, if n = 0 then r.2.learnPass c slice port (key / 2 ^ 48) frame else r.2)

/-- What the six lookups of a pass leave: slots, the pending flow key, and the record's results. -/
structure Looked where
  slots : NMap Nat
  flowKey : Option Nat
  record : Nat
  dev : Device

/-- The six lookups of a pass in turn. -/
def Device.pipelineLookups (d : Device) (c : Clk) (slice profile record : Nat) (frame : Bytes) (segs : List (Nat × Bool))
    (winners : NMap WinnerCheck) : Looked :=
  (List.range 6).foldl (fun (l : Looked) n =>
    let r := l.dev.pipelineLookup c slice profile (fld record 487 480) n frame segs (mapGet winners n .good)
    { slots := mapSet l.slots n r.1 0, flowKey := if n = 4 then r.2.1 else l.flowKey, record := recordResult l.record n r.1, dev := r.2.2 })
    { slots := [], flowKey := none, record := record, dev := d }

/-! ### The receive stamp (R304) -/

/-- The frame with the receive stamp in its PTP header, where it is stamped. -/
def stampFrame (f : Bytes) (slots : NMap Nat) (stamp : Nat) : Bytes :=
  match mapGet? slots 25 with
  | none => f
  | some p =>
    let g := overwrite f (p + 16) (natBe 4 stamp)
    match mapGet? slots 17 with
    | some u => udpFix f g u p
    | none => g

/-! ### A pass (R96, R105, R106, R112) -/

/-- The outcome counters of a pass (Table 5.10). -/
def Device.countPass (d : Device) (slice : Nat) (o : ParseOut) (recirc : Bool) : Device :=
  let d := d.parseCount slice 0 1
  let d := if o.cls / 64 = 3 then d.parseCount slice 1 1 else d
  let d := if bit o.flags 15 then d.parseCount slice 2 1 else d
  let d := if bit o.flags 14 then d.parseCount slice 3 1 else d
  let d := if bit o.flags 10 then d.parseCount slice 4 1 else d
  if recirc then d.parseCount slice 6 1 else d

/-- What a pass gives before steering: the parser output's parts, the record, slots, flow key, and steering hash. -/
structure Pass where
  out : ParseOut
  steer : Nat
  ecmp : Nat
  lag : Nat
  profile : Nat
  looked : Looked

/-- Parse, key and look up a frame whose record is `record` (R98 to R104). -/
def Device.pass (d : Device) (c : Clk) (slice record : Nat) (frame : Bytes) (recirc injected : Bool) (winners : NMap WinnerCheck) : Pass :=
  let o := parseFrame frame recirc injected
  let d := d.countPass slice o recirc
  let r := putFld (putFld record 511 504 o.cls) 503 488 o.flags
  let profile := d.get Obj.keyClassMap (slice * 256 + o.cls)
  let segs := d.segments slice profile { frame := frame, slots := o.slots, record := r }
  let l := d.pipelineLookups c slice profile (putFld r 391 386 profile) frame segs winners
  { out := o, steer := d.hash slice profile 0 segs, ecmp := d.hash slice profile 1 segs, lag := d.hash slice profile 2 segs,
    profile := profile, looked := l }

/-- A pass's parser output (Table 5.2). -/
def Pass.output (p : Pass) (frame : Bytes) (bucket : Nat) : Nat :=
  parserOutput p.out p.steer p.ecmp p.lag p.profile frame.length bucket

/-- Ingress-store cells a packet's tail takes: 256 bytes each, beyond a window of 256 (chapter 11, Cells). -/
def tailCells (f : Bytes) : Nat := cellsFor (f.length - 256) 256

/-- The ingress-store cells of a slice in use: the tails of packets not yet admitted or discarded, which no edit of the window changes (R163,
R233). -/
def Device.ingressUsed (d : Device) (slice : Nat) : Nat :=
  ((d.sl.flights.filter fun f => f.slice == slice && !f.lost).map fun f => cellsFor f.tail 256).sum

/-- The next sequence number of a bucket taken (R105). -/
def Device.takeSeq (d : Device) (slice b : Nat) : Nat × Device :=
  let seq := mapGet d.sl.seqNext (slice * 4096 + b) 0
  (seq, { d with sl := { d.sl with seqNext := mapSet d.sl.seqNext (slice * 4096 + b) ((seq + 1) % 65536) 0 } })

/-- A packet steered to its bucket's cluster (R105, R106). -/
def Device.steer (d : Device) (slice : Nat) (p : Pass) (frame bytes : Bytes) (pool : Option Nat) : Device :=
  let b := p.steer % 4096
  let q := d.takeSeq slice b
  let r := q.2.nextArrival
  let f : Flight :=
    { id := r.1, slice := slice, bucket := b, seq := q.1, cluster := r.2.bucketCluster slice b, place := .input, arrived := 0,
      record := putFld (putFld p.looked.record 479 468 b) 463 448 q.1, bytes := bytes, tail := bytes.length - 256, parser := p.output frame b,
      slots := p.looked.slots, flowKey := p.looked.flowKey, flowLost := none, flowStack := (p.looked.flowKey.map r.2.sentTo).getD 0
      barred := false, mirrors := [], verdict := none, pool := pool }
  let d : Device := { r.2 with sl := { r.2.sl with flights := r.2.sl.flights ++ [f] } }
  d.arrive f (d.get Obj.steerBarrierPending (slice * 4096 + b) == 1)

/-- The first pass of a packet that enters a slice on a port (R105, R106, R233, R304): `stamp` is its receive stamp, `pool` the
Ladle pool of an injected packet. -/
def Device.firstPass (d : Device) (c : Clk) (slice port : Nat) (frame : Bytes) (stamp : Nat) (pool : Option Nat) (winners : NMap WinnerCheck) :
    Device :=
  if 0 < tailCells frame ∧ 32768 < d.ingressUsed slice + tailCells frame then d.tally Obj.bufEntryDiscard slice 1
  else
    let p := d.pass c slice (at_ 487 480 port + at_ 447 416 c.short) frame false pool.isSome winners
    let bytes := if d.get Obj.timeRxStamp port = 1 then stampFrame frame p.out.slots stamp else frame
    p.looked.dev.steer slice p frame bytes pool

/-- An extra pass of a packet (R106, R112). -/
def Device.extraPass (d : Device) (c : Clk) (f : Flight) (winners : NMap WinnerCheck) : Device :=
  let record := putFld f.record 467 466 (fld f.record 467 466 + 1)
  let p := d.pass c f.slice record f.bytes true f.pool.isSome winners
  p.looked.dev.arrive { f with record := p.looked.record, tail := f.bytes.length - 256, parser := p.output f.bytes f.bucket, slots := p.looked.slots,
                               flowKey := p.looked.flowKey, flowLost := none
                               flowStack := (p.looked.flowKey.map p.looked.dev.sentTo).getD 0 } false

/-- The oldest packet of a slice's recirculation FIFO. -/
def Device.recircHead (d : Device) (slice : Nat) : Option Flight :=
  (d.sl.flights.filter fun f => f.slice == slice && f.place == .recirc).foldl (fun best f =>
    match best with
    | some b => if f.arrived < b.arrived then some f else best
    | none => some f) none

/-- A slice's recirculated packet may enter its parser: its recirculation bandwidth of 1.6 Tb/s, 160 bytes a tick, is free (R113). -/
def Device.recircReady (d : Device) (c : Clk) (slice : Nat) : Bool :=
  (d.recircHead slice).isSome && decide (mapGet d.sl.recircFree slice 0 ≤ c.ticks * 160)

/-- The bandwidth that a pass of a frame consumes: its length and 20 bytes (R113); the frame is counted without FCS, as the example of
chapter 09 counts it (100 + 20). -/
def Device.useRecirc (d : Device) (c : Clk) (slice len : Nat) : Device :=
  { d with sl := { d.sl with recircFree := mapPut d.sl.recircFree slice (max (mapGet d.sl.recircFree slice 0) (c.ticks * 160) + len + 20) } }

/-- The parser of a slice takes a packet from one of its FIFOs: a recirculated one whose bandwidth is free goes ahead (R113). -/
def Device.parse (d : Device) (c : Clk) (slice : Nat) (src : PassSource) (winners : NMap WinnerCheck) : Device :=
  match src with
  | .receive port =>
    if port / 64 ≠ slice ∨ d.recircReady c slice = true then d
    else match mapGet d.ports.fifo port [] with
      | [] => d
      | x :: rest =>
        ({ d with ports := { d.ports with fifo := mapSet d.ports.fifo port rest [] } }).firstPass c slice port x.frame x.stamp none winners
  | .recirculation =>
    match d.recircHead slice with
    | some f => if d.recircReady c slice then (d.useRecirc c slice f.bytes.length).extraPass c f winners else d
    | none => d
  | .inject =>
    match d.mgmt.pipeline with
    | [] => d
    | x :: rest =>
      if x.port / 64 ≠ slice ∨ d.recircReady c slice = true then d
      else ({ d with mgmt := { d.mgmt with pipeline := rest } }).firstPass c slice x.port x.packet c.short (some x.pool) winners

/-- A parser pass; `winners` is what the check of a lookup's winning TCAM row finds, where it is not
good. -/
def execParsePass (slice : Nat) (src : PassSource) (winners : NMap WinnerCheck) (s : State) : Host.Outcome State Fault Refusal :=
  onDev (Instr.parsePass slice src winners).wf (fun c d => if d.forwarding then d.parse c slice src winners else d) s

end Sys2Proof.Machine
end

