-- ==== Sys2Proof/Machine/Logline.lean ====
section
/-! DEFINITION. The Logline (chapter 17): the counter banks and their two images, gathering, snapshots, and the flex counters. -/

namespace Sys2Proof.Machine

/-! ### Banks and images (R350 to R353) -/

/-- The objects of the counter banks, in entry order (Table 17.2). -/
def bankObjects : List Nat :=
  [Obj.portCounters, Obj.laneStatus, Obj.parseCounters, Obj.tblCounters, Obj.tblShared, Obj.tcamCounters, Obj.clCounters,
   Obj.engDiscardCount, Obj.bufPoolCounters, Obj.bufPortDiscard, Obj.bufEntryDiscard, Obj.bufStatus, Obj.hbmCounters,
   Obj.tmPortClassCounters, Obj.tmPuntDrops, Obj.polCounters, Obj.tmHistogram, Obj.timeCounters, Obj.lookSourceCount,
   Obj.lookCounters, Obj.crossCounters]

/-- A bank: object, bytes per element, elements, and the byte offset of its data from the image base. -/
structure Bank where
  object : Nat
  bytes : Nat
  count : Nat
  offset : Nat
deriving DecidableEq, Repr

/-- Banks laid out from an offset (R351). -/
def layBanks : Nat → List Nat → List Bank
  | _, [] => []
  | o, n :: ns =>
    let r := (objInfo? n).getD { number := n, ty := 0, size := 0, count := 0, access := .ro, obs := false, token := none, dflt := 0 }
    { object := n, bytes := r.size, count := r.count, offset := o } :: layBanks (roundUp 64 (o + r.size * r.count)) ns

/-- The bank table's entries. -/
def banks : List Bank := layBanks 0x800 bankObjects

/-- A copy of every bank at one instant: the elements that are not zero. -/
def Device.copyBanks (d : Device) : NMap Nat :=
  let kept := d.chart.filter fun kv => bankObjects.contains (kv.1 / 65536)
  let lanes := (List.range 256).foldl (fun m i => mapSet m (chartKey Obj.laneStatus i) (d.laneNow i) 0) kept
  mapSet lanes (chartKey Obj.bufStatus 0) (d.get Obj.bufStatus 0) 0

/-- The 64-byte header of an image (Table 17.3). -/
def imageHeader (snap : Bool) (m : CounterImage) : Nat :=
  at_ 511 504 (b2n snap) + at_ 503 496 21 + at_ 495 464 m.cycles + at_ 463 384 m.instant + at_ 383 376 m.state

/-- A bank table entry (Table 17.4). -/
def bankEntry (m : CounterImage) (b : Bank) : Nat :=
  at_ 255 240 b.object + at_ 239 224 b.bytes + at_ 223 208 b.count + at_ 191 160 b.offset + at_ 159 128 m.generation
    + at_ 127 48 m.instant

/-- The 8-byte word of an image at a byte offset (R351, R352): zero before anything has been written. -/
def imageWord (snap : Bool) (m : CounterImage) (o : Nat) : Nat :=
  if o < 64 then (if m.generation = 0 ∧ m.state = 0 then 0 else bytesOf (imageHeader snap m) 64 o 8)
  else if m.generation = 0 then 0
  else if o < 0x440 then
    match banks[(o - 64) / 32]? with
    | some b => bytesOf (bankEntry m b) 32 ((o - 64) % 32) 8
    | none => 0
  else
    match banks.find? fun b => decide (b.offset ≤ o ∧ o < b.offset + b.bytes * b.count) with
    | some b => bytesOf (mapGet m.data (chartKey b.object ((o - b.offset) / b.bytes)) 0) b.bytes ((o - b.offset) % b.bytes) 8
    | none => 0

/-- A word of common-store segment 15 at a byte offset (R351). -/
def Device.counterWord (d : Device) (o : Nat) : Nat :=
  if o < 0x80000 then imageWord false d.log.live o else imageWord true d.log.snap (o - 0x80000)

/-- Whether an object is a counter bank, which Chart reads take from the live image (R353). -/
def isBank (o : Nat) : Bool := bankObjects.contains o

/-- An element of a counter bank as a Chart read returns it. -/
def Device.viewBankElement (d : Device) (o e : Nat) : Nat := mapGet d.log.live.data (chartKey o e) 0

/-- The Logline runs from entry to CONFIGURING onward, in SAFE too (R352). -/
def Device.loglineRuns (d : Device) : Bool := decide (St.configuring ≤ d.way)

/-- A field of CNT.Counters advanced (Table 17.7): 0 Cycles, 1 Snapshots, 2 FlexAdditions, 3 FlexWritebacks. -/
def Device.cntCount (d : Device) (k n : Nat) : Device := d.bump Obj.cntCounters 0 4 k n

/-- A gathering cycle: every bank copied and written (R352, log 17). -/
def execLoglineCycle (s : State) : Host.Outcome State Fault Refusal :=
  onDev Instr.loglineCycle.wf
    (fun c d =>
      if d.loglineRuns then
        let d := d.fecCounted
        let m : CounterImage := { data := d.copyBanks, instant := c.time80, cycles := (d.log.live.cycles + 1) % 2 ^ 32,
                                  generation := d.log.live.generation + 2, state := 0 }
        ({ d with log := { d.log with live := m } }).cntCount 0 1
      else d) s

/-! ### Snapshots (R355 to R358) -/

/-- CNT.SnapshotStatus State (Table 17.5): 0 IDLE, 1 PENDING, 2 COLLECTING, 3 DONE. -/
def Device.snapState (d : Device) : Nat := d.rd Obj.cntSnapshotStatus 0 255 248

/-- CNT.SnapshotStatus State set. -/
def Device.setSnapState (d : Device) (v : Nat) : Device := d.setFld Obj.cntSnapshotStatus 0 255 248 v

/-- The nanoseconds of a TIME80 value. -/
def ns80 (v : Nat) : Nat := fld v 79 32 * 1000000000 + fld v 31 0

/-- A write of CNT.SnapshotAt (R356). -/
def Device.writeSnapshotAt (d : Device) (c : Clk) (orig v : Nat) : Wr :=
  if v ≠ 0 ∧ (999999999 < fld v 31 0 ∨ ns80 v < c.nsUp + 1000 ∨ c.nsTotal + 60000000000 < ns80 v) then .error stType
  else if d.snapState = 2 then .error stBusy
  else if v = 0 then
    .ok (if d.snapState = 1 then (d.set Obj.cntSnapshotAt 0 0).setSnapState (if d.log.snap.generation = 0 then 0 else 3) else d)
  else
    let d := d.set Obj.cntSnapshotAt 0 v
    .ok (((d.setFld Obj.cntSnapshotStatus 0 247 240 orig).setFld Obj.cntSnapshotStatus 0 207 128 v).setSnapState 1)

/-- Device time has reached the requested instant: every bank is copied into the snapshot shadows (Table 17.6, t1). -/
def execSnapshotTake (s : State) : Host.Outcome State Fault Refusal :=
  onDev Instr.snapshotTake.wf
    (fun c d =>
      if d.snapState = 1 ∧ ns80 (d.rd Obj.cntSnapshotStatus 0 207 128) ≤ c.nsTotal then
        let d := d.fecCounted
        let d := { d with log := { d.log with shadow := d.copyBanks, snap := { d.log.snap with state := 2 } } }
        (d.setFld Obj.cntSnapshotStatus 0 127 48 c.time80).setSnapState 2
      else d) s

/-- The snapshot image is complete (Table 17.6, t2). -/
def execSnapshotDone (s : State) : Host.Outcome State Fault Refusal :=
  onDev Instr.snapshotDone.wf
    (fun _ d =>
      if d.snapState = 2 then
        let n := (d.rd Obj.cntSnapshotStatus 0 239 208 + 1) % 2 ^ 32
        let m : CounterImage := { data := d.log.shadow, instant := d.rd Obj.cntSnapshotStatus 0 127 48, cycles := n,
                                  generation := d.log.snap.generation + 2, state := 3 }
        let d := { d with log := { d.log with snap := m, shadow := [] } }
        let d := ((d.setFld Obj.cntSnapshotStatus 0 239 208 n).setSnapState 3).cntCount 1 1
        if d.get Obj.cntNotify 0 = 1 then d.notify Obj.cntSnapshotStatus 0 else d
      else d) s

/-- A word of CNT.SnapshotImage (R358): BUSY while COLLECTING, 0 while IDLE. -/
def Device.readSnapshotImage (d : Device) (e : Nat) : Except Nat Nat :=
  if d.snapState = 2 then .error stBusy
  else if d.snapState = 0 then .ok 0
  else .ok (imageWord true d.log.snap (8 * e))

/-! ### Flex counters (R359 to R361) -/

/-- The key of a slice's pending entry of a flex counter. -/
def flexKey (slice n : Nat) : Nat := slice * 2 ^ 26 + n

/-- A flex counter in HBM: packets and bytes. -/
def Device.flexInHbm (d : Device) (n : Nat) : Nat × Nat := mapGet d.hbm.flex n (0, 0)

/-- A flex counter stored in HBM, both copies (R251, R359). -/
def Device.setFlex (d : Device) (n : Nat) (v : Nat × Nat) : Device :=
  ({ d with hbm := { d.hbm with flex := mapSet d.hbm.flex n v (0, 0) } }).tableWrite (flexBlock n)

/-- The four counters of a flex counter's block. -/
def flexMates (n : Nat) : List Nat := (List.range 4).map fun k => n / 8 * 8 + n % 2 + 2 * k

/-- A poisoned block's counters before an addition to one of them: that one restarts from 0 and the poison is cleared (R267); what
the block's other counters then hold is not stated and is free (log 2). -/
def Device.restartFlex (d : Device) (n : Nat) : Device :=
  if d.poisoned (flexBlock n) then
    let d := (flexMates n).foldl (fun d k =>
      if k = n then d.setFlex k (0, 0)
      else
        let r := d.drawN 2 (2 ^ 64)
        r.2.setFlex k (r.1.getD 0 0, r.1.getD 1 0)) d
    d.unpoison (flexBlock n)
  else d

/-- A pending entry written back to both copies of its counter (R360); `found` is what the code finds as the counter's block is read
(R265, R267). -/
def Device.flexBack (d : Device) (c : Clk) (slice n : Nat) (found : List BlockFound) : Device :=
  match mapGet? d.eng.flexPending (flexKey slice n) with
  | none => d
  | some (p, b) =>
    let d := d.readFound c (· == flexBlock n) found
    let d := { d with eng := { d.eng with flexPending := mapDel d.eng.flexPending (flexKey slice n) } }
    let d := d.restartFlex n
    let v := d.flexInHbm n
    (d.setFlex n ((v.1 + p) % 2 ^ 64, (v.2 + b) % 2 ^ 64)).cntCount 3 1

/-- A pending entry's write-back. -/
def execFlexWriteback (slice counter : Nat) (found : List BlockFound) (s : State) : Host.Outcome State Fault Refusal :=
  onDev (Instr.flexWriteback slice counter found).wf (fun c d => d.flexBack c slice counter found) s

/-- A slice's pending entries, as counters. -/
def Device.flexEntries (d : Device) (slice : Nat) : List Nat :=
  (d.eng.flexPending.map Prod.fst).filterMap fun k => if k / 2 ^ 26 = slice then some (k % 2 ^ 26) else none

/-- Room for a new pending entry: which of 16,384 is evicted is free (R360). -/
def Device.flexRoom (d : Device) (c : Clk) (slice : Nat) (found : List BlockFound) : Device :=
  let es := d.flexEntries slice
  if es.length < 16384 then d
  else match d.pick es with
    | some n => d.spend.flexBack c slice n found
    | none => d

/-- A COUNT added to its counter's pending entry (R360); `found` is what the block of an entry evicted for it shows. -/
def Device.flexAdd (d : Device) (c : Clk) (slice n bytes : Nat) (found : List BlockFound) : Device :=
  let k := flexKey slice n
  let d := match mapGet? d.eng.flexPending k with
    | some (p, b) =>
      { d with eng := { d.eng with flexPending := mapPut d.eng.flexPending k ((p + 1) % 2 ^ 64, (b + bytes) % 2 ^ 64) } }
    | none =>
      let d := d.flexRoom c slice found
      { d with eng := { d.eng with flexPending := mapPut d.eng.flexPending k (1, bytes % 2 ^ 64) } }
  d.cntCount 2 1

/-- A flex counter's value: its HBM value and every slice's pending additions (R360). -/
def Device.flexValue (d : Device) (n : Nat) : Nat × Nat :=
  (List.range 4).foldl (fun v s =>
    let p := mapGet d.eng.flexPending (flexKey s n) (0, 0)
    ((v.1 + p.1) % 2 ^ 64, (v.2 + p.2) % 2 ^ 64)) (d.flexInHbm n)

/-- A flex counter set to zero with every pending addition (R361). -/
def Device.flexClear (d : Device) (n : Nat) : Device :=
  let d := { d with eng := { d.eng with
    flexPending := (List.range 4).foldl (fun m s => mapDel m (flexKey s n)) d.eng.flexPending } }
  d.setFlex n (0, 0)

end Sys2Proof.Machine
end

