-- ==== Sys2Proof/Machine/Engine.lean ====
section
/-! DEFINITION. The action engines at work (chapters 08, 09): executing microwords, memory accesses, lookup and policer results, the end of
a pass, and the in-order retire unit. -/

namespace Sys2Proof.Machine

/-! ### What a word sees (R193, R195) -/

/-- Lookups that a cluster's engines have issued and that have not returned (R171). -/
def Device.lookupsQueued (d : Device) (cl : Nat) : Nat :=
  ((d.eng.ctx.filter fun kv => kv.1 / 128 == cl).map fun kv => (kv.2.lookups.filter fun l => l.2.engine).length).sum

/-- Whether a POLICE of a context's pass is outstanding. -/
def Device.policing (d : Device) (k order : Nat) : Bool := d.eng.polices.any fun p => p.context == k && p.pass == order

/-- The environment of a context's next word. -/
def Device.wordEnv (d : Device) (c : Clk) (k : Nat) (x : Ctx) : WordEnv :=
  let cl := k / 128
  { cluster := cl
    segments := (List.range 15).filter fun n => d.segmentOn c.ticks n
    widths := (List.range 12).map fun n => let v := d.tcamTable (cl / 16) n; if bit v 63 then tcWidth v else 0
    dispatch := (List.range 256).map fun i => d.get Obj.clDispatch (cl * 256 + i)
    queueFull := decide (64 ≤ d.lookupsQueued cl)
    policing := d.policing k x.order }

/-- The microword at a context's PC. -/
def Device.nextWord (d : Device) (k : Nat) (x : Ctx) : Microword := decodeWord (BitVec.ofNat 192 (d.controlWord (k / 128) x.pc))

/-- Accesses of a context that have not been performed (R175). -/
def Device.unperformed (d : Device) (k : Nat) : Bool :=
  d.eng.accesses.any fun a => a.context == k && a.done.isNone

/-- A context waits: after a WAIT or BARRIER word, or before its next word (R175, R195, R199). A word that traps with TIME, SEQ_RESERVED or
MALFORMED waits for nothing, since R204 has these detected before it starts (DEDUCED, log 93). -/
def Device.waits (d : Device) (c : Clk) (k : Nat) (x : Ctx) : Bool :=
  let e := d.wordEnv c k x
  let m := d.nextWord k x
  ((List.range 8).any fun s => bit x.waitMask s && slotPending x s) || (x.barrier && d.unperformed k)
    || ((startTrap e m).isNone && wordWaits e x m)

/-- A context that its engine can run: READY, or halted and under a STEP (R159, R411). -/
def Device.runnable (d : Device) (c : Clk) (k : Nat) (x : Ctx) : Bool := (!x.halted || x.stepping) && !d.waits c k x

/-- The READY context of an engine whose packet was dispatched earliest (R159). -/
def Device.chooseCtx (d : Device) (c : Clk) (e : Nat) : Option (Nat × Ctx) :=
  (d.eng.ctx.filter fun kv => kv.1 / 8 == e && d.runnable c kv.1 kv.2).foldl (fun best kv =>
    match best with
    | some b => if kv.2.order < b.2.order then some kv else best
    | none => some kv) none

/-! ### Breakpoints and watchpoints (R413) -/

/-- A mask of a point selects an index; none selects every one. -/
def selects (mask : Option Nat) (i : Nat) : Bool := match mask with | some m => bit m i | none => true

/-- The armed points of a cluster that take effect: those of an unfenced cluster only in MAINTENANCE. -/
def Device.points (d : Device) (cl : Nat) : List Point :=
  if d.clusterFenced cl || d.state == St.maintenance then
    (d.eng.points.filter fun kv => kv.1 / 10 == cl).map Prod.snd
  else []

/-- A breakpoint selects a context before the word at its PC. -/
def Device.atBreakpoint (d : Device) (k : Nat) (x : Ctx) : Bool :=
  !x.passed && (d.points (k / 128)).any fun p =>
    !p.watch && p.address == x.pc && selects p.engine (k / 8 % 16) && selects p.context (k % 8)

/-- Watchpoints that a word's memory operation touched. -/
def Device.watchHits (d : Device) (k : Nat) (touched : List (Nat × Nat × Nat)) : Nat :=
  ((d.points (k / 128)).filter fun p =>
    p.watch && touched.any fun t => decide (t.1 ≤ p.last ∧ p.address < t.1 + t.2.1) && (p.kind &&& t.2.2) != 0).length

/-- Hits of DBG.Status advanced. -/
def Device.countHits (d : Device) (n : Nat) : Device := d.count Obj.dbgStatus 0 63 0 n

/-! ### The end of a word and of a pass -/

/-- A load, lookup or policer result of a context is outstanding (Table 20.7). -/
def Device.outstanding (d : Device) (k : Nat) (x : Ctx) : Bool :=
  !x.pending.isEmpty || ((List.range 8).any fun s => slotPending x s) || d.policing k x.order

/-- The state code of a context (R406, Table 20.7): a halted one is WAITING while a result of it is outstanding; one that a write under R401
has resumed is WAITING as R159 says. -/
def Device.ctxCode (d : Device) (c : Clk) (k : Nat) : Nat :=
  match d.ctx? k with
  | none => if (mapGet? d.sx.idle k).isSome then 0x80 else 0
  | some x =>
    if x.halted then (if d.outstanding k x then 0x83 else 0x81)
    else if d.waits c k x then 3 else 1

/-- A STEP's result is kept for its command: the new PC, the trap cause, the context's state (Table 20.5). -/
def Device.stepDone (d : Device) (c : Clk) (k pc cause : Nat) : Device :=
  { d with sx := { d.sx with staged := some (0, some (pc + cause * 2 ^ 16 + d.ctxCode c k * 2 ^ 24)) } }

/-- A recirculate verdict's packet returns to its slice's FIFO, or is discarded at the limits; its copies are still made (R112 to R114,
R180). One at both limits counts in RecircLimit alone (DESIGN CHOICE, log 94). -/
def Device.recirculate (d : Device) (f : Flight) : Device :=
  let d := d.clCount f.cluster ccRecirculated 1
  let lost (d : Device) : Device := d.setFlight { f with place := .ended, verdict := some (0, 0) }
  if 3 ≤ fld f.record 467 466 then lost (d.parseCount f.slice 7 1)
  else if 256 ≤ (d.sl.flights.filter fun g => g.slice == f.slice && g.place == .recirc).length then lost (d.parseCount f.slice 8 1)
  else
    let r := d.nextArrival
    r.2.setFlight { f with place := .recirc, arrived := r.1, verdict := none }

/-- A pass ends with its final verdict (R179, R202); a debug pass records it only (R412). -/
def Device.endPass (d : Device) (k : Nat) (x : Ctx) (verdict : Nat × Nat × Bytes) : Device :=
  let (code, arg, bytes) := verdict
  if x.debug then
    let d := { d with sx := { d.sx with verdicts := mapPut d.sx.verdicts k code } }
    (d.setCtx k { x with halted := true }).freeCtx k
  else
    let d := (d.setCtx k x).freeCtx k
    match d.flight? x.flight with
    | none => d
    | some f =>
      let f := { f with record := x.record, bytes := bytes, mirrors := x.mirrors, slots := [], flowKey := none, flowLost := none }
      if code = 3 then d.recirculate f else d.setFlight { f with place := .ended, verdict := some (code, arg) }

/-- What a word issued is entered in the queues of its unit (R170, R208, R210). -/
def Device.issueAll (d : Device) (c : Clk) (k : Nat) (m : Microword) (o : WordOut) : Device × Ctx :=
  let x := o.ctx
  let slice := k / 2048
  let d : Device := match o.issue with
    | none => d
    | some i =>
      let a : Access := ⟨d.eng.next, k, x.order, x.flight, i.op, i.addr, i.data, i.new, i.reg, i.done⟩
      { d with eng := { d.eng with accesses := d.eng.accesses ++ [a], next := d.eng.next + 1 } }
  let d : Device := match o.count with
    | none => d
    | some (n, len) => { d with eng := { d.eng with counts := d.eng.counts ++ [⟨k, x.flight, n, len, slice⟩] } }
  let d : Device := match o.police with
    | none => d
    | some (n, len, col, r) =>
      { d with eng := { d.eng with polices := d.eng.polices ++ [⟨k, x.order, x.flight, slice * 32768 + n, len, col, r⟩] } }
  let d := if o.mirrorRefused then d.clCount (k / 128) ccMirrorRefused 1 else d
  match if m.lop = 1 ∧ m.ltab = 9 then mapGet? x.lookups m.lslot.toNat else none with
  | none => (d, x)
  | some l =>
    let r := d.flowStart c slice l.key
    (r.2, { x with lookups := mapPut x.lookups m.lslot.toNat { l with answer := r.1, stack := if r.1.isNone then r.2.sentTo l.key else 0 } })

/-- A word that has run whole (R193): its context goes on, halts at a watchpoint or after a STEP, or its pass ends. -/
def Device.finishWord (d : Device) (c : Clk) (k : Nat) (m : Microword) (o : WordOut) : Device :=
  let step := o.ctx.stepping
  let (d, x) := d.issueAll c k m o
  let hits := d.watchHits k o.touched
  let d := d.countHits hits
  let x := { x with passed := false, stepping := false, halted := x.halted || (decide (0 < hits) && !o.ended) }
  let d := match if o.ended then x.verdict else none with
    | some v => d.endPass k x v
    | none => d.setCtx k x
  if step then d.stepDone c k x.pc 0 else d

/-- A context executes its next word (R182, R193, R203, R204). -/
def Device.executeWord (d : Device) (c : Clk) (k : Nat) (x : Ctx) : Device :=
  let cl := k / 128
  let e := d.wordEnv c k x
  let m := d.nextWord k x
  let x := { x with barrier := false, waitMask := 0 }
  let d := d.setCtx k x
  let trapped (d : Device) (tr : Trap) : Device :=
    let d := d.trap c k x tr.1 tr.2
    if x.stepping then d.stepDone c k x.pc tr.1 else d
  match startTrap e m with
  | some tr => trapped d tr
  | none =>
    let d := d.clCount cl ccExecClocks (m.time.toNat + 1)
    match runWord e x m with
    | .error tr => trapped d tr
    | .ok o => d.finishWord c k m o

/-- The word's fetch (R185): `bad` copies fail their check, all four at 4. -/
def Device.fetchWord (d : Device) (c : Clk) (k : Nat) (x : Ctx) (bad : Nat) : Device :=
  let cl := k / 128
  if bad = 4 then
    let d := (d.trap c k x 0x0C 0).raise 0x03 (clusterTarget cl) x.pc
    if x.stepping then d.stepDone c k x.pc 0x0C else d
  else
    let d : Device := if bad = 0 then d else { d with eng := { d.eng with copyBad := setAdd d.eng.copyBad (cl * 4096 + x.pc) } }
    d.executeWord c k x

/-- An engine starts a word: of its earliest READY context, which a breakpoint may halt instead (R159, R413). -/
def execMicrowordExecute (engine badCopies : Nat) (s : State) : Host.Outcome State Fault Refusal :=
  onDev (Instr.microwordExecute engine badCopies).wf
    (fun c d =>
      if d.enginesRun then
        match d.chooseCtx c engine with
        | none => d
        | some (k, x) =>
          if d.atBreakpoint k x && !x.stepping then (d.setCtx k { x with halted := true, passed := true }).countHits 1
          else d.fetchWord c k x badCopies
      else d) s

/-- A failing copy of a control-store word is rewritten from the word fetched (R185). -/
def execCstoreCopyRewrite (cluster address : Nat) (s : State) : Host.Outcome State Fault Refusal :=
  onDev (Instr.cstoreCopyRewrite cluster address).wf
    (fun _ d =>
      let w := cluster * 4096 + address
      if setHas d.eng.copyBad w then
        ({ d with eng := { d.eng with copyBad := setDel d.eng.copyBad w } }).raise 0x02 (clusterTarget cluster) address
      else d) s

/-- A pass without a final verdict reaches its watchdog limit (R184); the Pc logged is that of the context's next word (DESIGN CHOICE, log 89). -/
def execWatchdogExpiry (context : Nat) (s : State) : Host.Outcome State Fault Refusal :=
  onDev (Instr.watchdogExpiry context).wf
    (fun c d =>
      match d.ctx? context with
      | some x => if d.enginesRun && !x.halted && x.verdict.isNone then d.trap c context x 0x0A 0 else d
      | none => d) s

/-! ### Memory accesses (R173 to R178) -/

/-- A memory word as an access names it (`Access.addr`). -/
def Device.word (d : Device) (a : Nat) : Nat :=
  if a < 0x2000000 then d.scratchWord a else if a < 0x2F00000 then d.commonWord (a - 0x2000000) else d.counterWord (a - 0x2F00000)

/-- A memory word stored; segment 15 is never written by an access. -/
def Device.setWord (d : Device) (a v : Nat) : Device :=
  if a < 0x2000000 then d.storeScratch a v else if a < 0x2F00000 then d.storeCommon (a - 0x2000000) v else d

/-- The memory that holds a word, and the word's number in it (Table 15.2, source 0x04). -/
def wordTarget (a : Nat) : Nat × Nat :=
  if a < 0x2000000 then (0x180 + a / 0x40000, a % 0x40000 / 8)
  else (0x1C0 + (a - 0x2000000) / 0x100000, (a - 0x2000000) % 0x100000 / 8)

/-- What an access leaves in a word that holds `v` (R173). -/
def Access.leaves (a : Access) (v : Nat) : Nat :=
  match a.op with
  | .load => v
  | .store => a.data
  | .fadd => (v + a.data) % 2 ^ 64
  | .cas => if v = a.data then a.new else v

/-- Accesses of one memory cycle to one word that holds `v` (R174), in increasing engine number: what each returns, and what the word
holds in the end. Loads return the word before the cycle. -/
def cycle (v0 : Nat) : Nat → List Access → List (Nat × Nat) × Nat
  | v, [] => ([], v)
  | v, a :: rest =>
    let r := cycle v0 (a.leaves v) rest
    ((a.id, if a.op = .load then v0 else v) :: r.1, r.2)

/-- Accesses put in increasing order of engine number. -/
def sortAccesses (as : List Access) : List Access := sortOn (fun a => a.context / 8) as

/-- Accesses that can be performed: issued, not performed, and no earlier access of their context to the same word waits (R175). -/
def Device.reaching (d : Device) (as : List (Nat × Nat)) : List Access :=
  d.eng.accesses.filter fun a => as.contains (a.context, a.id) && a.done.isNone
    && !(d.eng.accesses.any fun b => b.context == a.context && b.addr == a.addr && b.done.isNone && decide (b.id < a.id))

/-- The accesses of a cycle that its memory serves in it, of those that reach one word, in arrival order: one of each engine, and at a
scratchpad at most four from other clusters; the others stay for later cycles (R347, log 75). -/
def servedNow (addr : Nat) (engines : List Nat) (remote : Nat) : List Access → List Access
  | [] => []
  | a :: rest =>
    let e := a.context / 8
    let far := decide (addr < 0x2000000) && e / 16 != addr / 0x40000
    if engines.contains e || (far && remote == 4) then servedNow addr engines remote rest
    else a :: servedNow addr (e :: engines) (if far then remote + 1 else remote) rest

/-- Whether two words lie in one bank of the common store, which has 64 interleaved banks (R347). -/
def sameBank (a b : Nat) : Bool := decide (0x2000000 ≤ a ∧ 0x2000000 ≤ b) && a / 8 % 64 == b / 8 % 64

/-- The access whose word a bank serves in a cycle: of those that reach the bank of the oldest, one of the lowest engine number; the other words
of the bank wait for later cycles (R347, log 75). -/
def leadAccess (a : Access) (as : List Access) : Access :=
  (as.filter fun b => sameBank a.addr b.addr).foldl (fun m b => if b.context / 8 < m.context / 8 then b else m) a

/-- The accesses of one memory cycle performed. -/
def Device.performCycle (d : Device) (addr : Nat) (as : List Access) : Device :=
  let v := d.word addr
  let r := cycle v v (sortAccesses as)
  let done := d.eng.accesses.filterMap fun a =>
    match r.1.find? fun x => x.1 == a.id with
    | some x => if a.op = .store then none else some { a with done := some x.2 }
    | none => some a
  (({ d with eng := { d.eng with accesses := done } }).setWord addr r.2)

/-- The word fails its check (R178): reading contexts trap, stores of the whole word are performed, atomics are not. The trap comes between
words, and CL.TrapLog then holds the PC of the context's next word, as it does for a watchdog trap (DESIGN CHOICE, log 89). -/
def Device.failCycle (d : Device) (c : Clk) (addr : Nat) (as : List Access) : Device :=
  let reads := as.filter fun a => a.op != .store
  let ids := reads.map Access.id
  let t := wordTarget addr
  let d := d.performCycle addr (as.filter fun a => a.op == .store)
  if reads.isEmpty then d
  else
    let d := { d with eng := { d.eng with accesses := d.eng.accesses.filter fun a => !ids.contains a.id } }
    let d := reads.foldl (fun d a =>
      match d.ctx? a.context with
      | some x => if x.order = a.pass then d.trap c a.context x 0x0B 0 else d
      | none => d) d
    d.raise 0x04 t.1 t.2

/-- Accesses that reach a memory in one cycle, and the word that it serves of them (R347). A read of software or of the Sextant that joins
the cycle is a command before this one, so that it returns the word from before the cycle; a write that joins it is a command after it (R174, R348, log 75). -/
def execMemoryAccessPerform (accesses : List (Nat × Nat)) (ecc : Ecc) (s : State) : Host.Outcome State Fault Refusal :=
  onDev (Instr.memoryAccessPerform accesses ecc).wf
    (unlessSafe fun c d =>
      match d.reaching accesses with
      | [] => d
      | a :: rest =>
        let w := (leadAccess a rest).addr
        let as := servedNow w [] 0 ((a :: rest).filter fun b => b.addr == w)
        if ecc = .double then d.failCycle c w as else d.performCycle w as) s

/-- Data of a load or atomic arrives (R167); a result for a pass that has ended is dropped (R186). -/
def execLoadResult (context access : Nat) (s : State) : Host.Outcome State Fault Refusal :=
  onDev (Instr.loadResult context access).wf
    (unlessSafe fun _ d =>
      match d.eng.accesses.find? fun a => a.id == access && a.context == context with
      | none => d
      | some a =>
        match a.done with
        | none => d
        | some v =>
          let d := { d with eng := { d.eng with accesses := d.eng.accesses.filter fun b => b.id != access } }
          match d.ctx? context with
          | some x =>
            if x.order = a.pass then d.setCtx context { setReg x a.reg (BitVec.ofNat 64 v) with pending := setDel x.pending a.reg } else d
          | none => d) s

/-! ### Results of lookups, policers and counters -/

/-- EcmpHash of a context's pass (Table 5.2). -/
def ecmpOf (x : Ctx) : Nat := fld x.parser 167 136

/-- A lookup's result arrives whole in its slot (R166, R170); `found` is what the flow slots it reads show (R265). A flow lookup whose
request a block reset has lost gets none until it is reissued (R342, R344). Where the context holds no such lookup, the result is that of
the oldest flow lookup of its slice whose pass has ended: it fills the slice's flow cache (R130). -/
def execLookupResultArrive (context slot : Nat) (winner : WinnerCheck) (found : List BlockFound) (s : State) :
    Host.Outcome State Fault Refusal :=
  onDev (Instr.lookupResultArrive context slot winner found).wf
    (unlessSafe fun c d =>
      let slice := context / 2048
      match d.ctx? context with
      | none => d.landFlow c slice found
      | some x =>
        match mapGet? x.lookups slot with
        | none => d.landFlow c slice found
        | some l =>
          if l.lost.isSome then d else
          let d := if l.sent then d.flowFound c l.key l.stack found else d
          let r := match l.answer with
            | some v => (v, d)
            | none => if l.table = 9 then d.flowDone slice l.key else d.lookup c slice l.table l.key (ecmpOf x) winner
          let x := { x with slots := mapPut x.slots slot r.1, lookups := mapDel x.lookups slot,
                            record := if l.engine then x.record else recordResult x.record slot r.1 }
          r.2.setCtx context x) s

/-- A colour written to the record of a packet whose pass has ended. -/
def Device.colourFlight (d : Device) (id res : Nat) : Device :=
  match d.flight? id with
  | none => d
  | some f =>
    let d := d.setFlight { f with record := putFld f.record 299 298 res }
    match f.place with
    | .context k =>
      match d.ctx? k with
      | some x => d.setCtx k { x with record := putFld x.record 299 298 res }
      | none => d
    | _ => d

/-- The colour of a policer result written to a packet's record wherever the packet stands (R210). -/
def Device.colourPacket (d : Device) (p : Police) (res : Nat) : Device :=
  match d.ctx? p.context with
  | some x =>
    if x.order = p.pass then
      d.setCtx p.context { setReg x p.reg (BitVec.ofNat 64 res) with pending := setDel x.pending p.reg,
                                                                     record := putFld x.record 299 298 res }
    else d.colourFlight p.flight res
  | none => d.colourFlight p.flight res

/-- The oldest POLICE of a context applied and its result written (R210). -/
def Device.applyPolice (d : Device) (context : Nat) : Device :=
  match d.eng.polices.find? fun p => p.context == context with
  | none => d
  | some p =>
    let d := { d with eng := { d.eng with polices := d.eng.polices.erase p } }
    let r := d.police p.policer p.bytes p.colour
    r.2.colourPacket p r.1

/-- The POLICE operations of some contexts, the oldest of each, reach their policers in one pipeline clock: they are applied one at a time, in
increasing engine number. A refill that falls in the same clock is a SHAPER_REFILL before this command (R287, log 91). -/
def execPoliceResult (contexts : List Nat) (s : State) : Host.Outcome State Fault Refusal :=
  onDev (Instr.policeResult contexts).wf
    (unlessSafe fun _ d => (sortOn (· / 8) contexts.eraseDups).foldl Device.applyPolice d) s

/-- The oldest COUNT of a context is performed (R210, R360); `found` is what the block of an entry it evicts shows (R265). -/
def execCountPerformed (context : Nat) (found : List BlockFound) (s : State) : Host.Outcome State Fault Refusal :=
  onDev (Instr.countPerformed context found).wf
    (unlessSafe fun c d =>
      match d.eng.counts.find? fun p => p.context == context with
      | none => d
      | some p => ({ d with eng := { d.eng with counts := d.eng.counts.erase p } }).flexAdd c p.slice p.counter p.bytes found) s

/-! ### The retire unit (R175, R180, R181) -/

/-- Every access, count and policer operation issued for a packet has been performed (R175). -/
def Device.allPerformed (d : Device) (id : Nat) : Bool :=
  !(d.eng.accesses.any fun a => a.flight == id && a.done.isNone) && !(d.eng.counts.any fun p => p.flight == id)
    && !(d.eng.polices.any fun p => p.flight == id)

/-- The packet of a bucket in a cluster that the retire unit can release next: its pass has ended, and every earlier packet of the
bucket in the cluster has been released or discarded (R181). -/
def Device.releasable (d : Device) (cl b : Nat) : Option Flight :=
  let line := d.sl.flights.filter fun f => f.cluster == cl && f.bucket == b
  match line.dropWhile fun f => f.lost && !d.allPerformed f.id with
  | [] => none
  | f :: _ => if f.place == .ended && d.allPerformed f.id then some f else none

/-- The verdict FIFO of a cluster: the packets that its retire unit can release, in steering order, as far as its 256 places reach; the
retire unit holds the releases beyond them (R181, Table 16.7, log 31). -/
def Device.verdictFifo (d : Device) (cl : Nat) : List Flight :=
  let next := (d.sl.flights.filter fun f => f.cluster == cl).foldl (fun (r : List Nat × List Flight) f =>
    if r.1.contains f.bucket || f.lost then r
    else if f.place == .ended && d.allPerformed f.id then (r.1, r.2 ++ [f])
    else (f.bucket :: r.1, r.2)) ([], [])
  next.2.take 256

/-- One mirror copy of a released packet (R180, R306). A packet longer than any that may be buffered, which a RECIRCULATE discarded at its limits
can leave (R114, R164), has no copy: it is refused and counted (DESIGN CHOICE, log 77). -/
def Device.mirrorCopy (d : Device) (c : Clk) (f : Flight) (session : Nat) : Device :=
  let v := d.get Obj.mirrorSession session
  let trunc := fld v 31 16
  if !bit v 63 || decide (12284 < f.bytes.length) then d.clCount f.cluster ccMirrorRefused 1
  else
    let q := fld v 62 45
    let r := d.takeOffer c { queue := q, pool := d.queuePool q, port := some (fld f.record 487 480), copy := true, punt := false, inject := false,
                             record := putFld f.record 255 254 0, packet := if trunc = 0 then f.bytes else f.bytes.take trunc }
    r.1.clCount f.cluster (if r.2 then ccMirrored else ccMirrorRefused) 1

/-- A released packet's final verdict takes effect (Table 8.6). -/
def Device.carryOut (d : Device) (c : Clk) (f : Flight) : Device :=
  let port := some (fld f.record 487 480)
  match f.verdict with
  | some (1, _) =>
    let q := fld f.record 319 302
    ((d.clCount f.cluster ccForwarded 1).takeOffer c
      { queue := q, pool := f.pool.getD (d.queuePool q), port := port, copy := false, punt := false, inject := f.pool.isSome,
        record := f.record, packet := f.bytes }).1
  | some (2, _) =>
    let r := (d.clCount f.cluster ccPunted 1).puntPolice (fld f.record 287 272) f.bytes.length
    if r.1 then
      (r.2.takeOffer c { queue := puntPath, pool := d.get Obj.engPuntPool 0, port := port, copy := false, punt := true,
                         inject := f.pool.isSome, record := f.record, packet := f.bytes }).1
    else r.2
  | some (4, reason) => (d.clCount f.cluster ccDiscarded 1).tally Obj.engDiscardCount (f.slice * 256 + reason) 1
  | _ => d

/-- A packet released (R181): counted, its verdict carried out, then its copies made. -/
def Device.release (d : Device) (c : Clk) (f : Flight) : Device :=
  let d := { d with sl := { d.sl with flights := d.sl.flights.filter fun g => g.id != f.id } }
  let d := (d.clCount f.cluster ccReleased 1).setCondition 0x06 (clusterTarget f.cluster) false
  f.mirrors.foldl (fun d s => d.mirrorCopy c f s) (d.carryOut c f)

/-- The retire unit releases the next packet of a bucket, where the verdict FIFO has room for it. -/
def execPacketRelease (cluster bucket : Nat) (s : State) : Host.Outcome State Fault Refusal :=
  onDev (Instr.packetRelease cluster bucket).wf
    (fun c d =>
      if d.forwarding then
        match d.releasable cluster bucket with
        | some f => if f.lost || (d.verdictFifo cluster).any (·.id == f.id) then d.release c f else d
        | none => d
      else d) s

/-! ### Chart writes and reads -/

/-- A write of CL.Watchdog (R184). -/
def Device.writeWatchdog (d : Device) (s v : Nat) : Wr :=
  if v < 500 ∨ 3500 < v then .error stType else .ok (d.set Obj.clWatchdog s v)

/-- A write of ENG.PuntPool. -/
def Device.writePuntPool (d : Device) (v : Nat) : Wr := if v < 12 ∨ 15 < v then .error stType else .ok (d.set Obj.engPuntPool 0 v)

/-- A write of MIRROR.Session (Table 8.7). -/
def Device.writeMirror (d : Device) (e v : Nat) : Wr :=
  let t := fld v 31 16
  if (1 ≤ t ∧ t ≤ 63) ∨ 12284 < t then .error stType else .ok (d.set Obj.mirrorSession e (putFld (putFld v 44 32 0) 15 0 0))

/-- A write of CS.Segments (R176): bit 15 reads 1, and a segment it enables can be accessed 250 ns later. -/
def Device.writeSegments (d : Device) (c : Clk) (v : Nat) : Device :=
  let old := d.get Obj.csSegments 0
  let on := (List.range 15).filter fun n => bit v n && !bit old n
  let d := { d with eng := { d.eng with segOn := on.foldl (fun m n => mapPut m n c.ticks) d.eng.segOn } }
  d.set Obj.csSegments 0 (v ||| 0x8000)

/-- A write of MEM.Address (R177). -/
def Device.writeMemAddress (d : Device) (v : Nat) : Wr :=
  if v % 4096 ≠ 0 ∨ v < 0x1000000 ∨ 0x3000000 ≤ v then .error stType else .ok (d.set Obj.memAddress 0 v)

/-- The word MEM.Data element `i` names, as an access names it. -/
def Device.memPlace (d : Device) (i : Nat) : Nat :=
  let a := d.get Obj.memAddress 0 + 8 * i
  if a < 0x2000000 then a - 0x1000000 else a

/-- Whether a word can be accessed: its common-store segment is enabled (R176, R177). -/
def Device.wordOn (d : Device) (c : Clk) (a : Nat) : Bool :=
  decide (a < 0x2000000 ∨ 0x2F00000 ≤ a) || d.segmentOn c.ticks ((a - 0x2000000) / 0x100000)

/-- A read of MEM.Data (R177). -/
def Device.readMemData (d : Device) (c : Clk) (i : Nat) : Except Nat Nat :=
  let a := d.memPlace i
  if d.wordOn c a then .ok (d.word a) else .error stBusy

/-- A write of MEM.Data (R177). -/
def Device.writeMemData (d : Device) (c : Clk) (i v : Nat) : Wr :=
  let a := d.memPlace i
  if 0x2F00000 ≤ a then .error stAccess
  else if d.wordOn c a then .ok (d.setWord a v) else .error stBusy

end Sys2Proof.Machine
end

