-- ==== Sys2Proof/Machine/Startup.lean ====
section
/-! DEFINITION. Start-up and restarts (chapter 18): what survives, the latch of the straps, the device states on the way into service,
and RESET_N (R363 to R376, R383). -/

namespace Sys2Proof.Machine

/-! ### Dumps over a restart (Table 15.17, R333) -/

/-- DUMP.Status OnChip or Hbm: 0 EMPTY, 1 WRITING, 2 COMPLETE, 3 PARTIAL. -/
def Device.dumpState (d : Device) (hbm : Bool) : Nat :=
  if hbm then d.rd Obj.dumpStatus 0 119 112 else d.rd Obj.dumpStatus 0 127 120

/-- A dump's Status set, in DUMP.Status and in the header of its store (Table 15.14: byte 6); that of the HBM dump is a table-region write
(R251, R262). -/
def Device.setDumpState (d : Device) (hbm : Bool) (v : Nat) : Device :=
  if hbm then
    let off := d.rd Obj.dumpStatus 0 95 64
    let d1 := ({ d with hbm := { d.hbm with dump := memWrite d.hbm.dump (off + 6) (BitVec.ofNat 8 v) } }).tableWrite (dumpBlock off)
    d1.setFld Obj.dumpStatus 0 119 112 v
  else
    ({ d with look := { d.look with dumpStore := memWrite d.look.dumpStore 6 (BitVec.ofNat 8 v) } }).setFld Obj.dumpStatus 0 127 120 v

/-- A dump that a restart interrupts reads PARTIAL (log 27). -/
def Device.cutDump (d : Device) : Device :=
  let d1 := if d.dumpState false = 1 then d.setDumpState false 3 else d
  if d1.dumpState true = 1 then d1.setDumpState true 3 else d1

/-! ### What survives (R375, Table 18.6) -/

/-- Laser swaps in progress as the fuses leave them when the lasers go dark (R368, log 28): a spare that had not taken over is unused
again, unless its old source has failed. -/
def Device.settleLasers (d : Device) : Device :=
  d.ports.swap.foldl (fun d kv =>
    let w := kv.2
    let oe := w.spare / 10
    if d.laserState w.old = 3 then (d.setLaser w.spare 1 0xFF).setLaser w.old 0 w.group
    else (d.setLaser w.spare 0 w.group).useSpare oe) d

/-- Objects whose elements every restart keeps: the laser history, and what counts or measures from power-on on. -/
def keptAlways : List Nat := [Obj.laserStatus, Obj.laserSparesLeft]
def keptByRestart : List Nat := [Obj.bdpEpoch, Obj.pwrStatus, Obj.pwrRail, Obj.thermStatus]
def keptByDevice : List Nat := [Obj.devStraps, Obj.laneStatus, Obj.clkStatus]

/-- The stored elements of some objects. -/
def Device.keepObjects (d : Device) (os : List Nat) : NMap Nat := d.chart.filter fun kv => os.contains (kv.1 / 65536)

/-- The device without power, keeping its fuses: the laser history, the keys and the disable fuse (R214, R368, R402), the model's record
of what has left its pins, and the count of free values drawn. A feed group that no source can feed stays dark and fenced (R86). -/
def Device.cold (d : Device) : Device :=
  { Device.reset with
    chart := d.keepObjects keptAlways
    mgmt := { Device.reset.mgmt with sent := d.mgmt.sent }
    ports := { Device.reset.ports with sent := d.ports.sent, fuses := d.ports.fuses, feedDead := d.ports.feedDead,
                                       feedDark := d.ports.feedDead, feedFenced := d.ports.feedDead }
    img := { Device.reset.img with ownerDigest := d.img.ownerDigest, keyPolicy := d.img.keyPolicy }
    sx := { Device.reset.sx with fused := d.sx.fused }
    free := d.free }

/-- Blocks of the dump region (Table 12.1). -/
def isDumpBlock (k : Nat) : Bool := decide (0x1000000 ≤ k % 2 ^ 26)

/-- HBM delays kept over a DEVICE restart: each byte lane's delays and margins, each pseudo-channel's least margins, and each stack's
temperature and least margin; a stack whose training failed has no delays and stays FENCED (log 29). -/
def Device.keepDelays (old d : Device) : Device :=
  let d : Device := { d with hbm := { d.hbm with lanes := old.hbm.lanes } }
  let d : Device := (List.range 128).foldl (fun d pc => d.setFld Obj.hbmPcStatus pc 55 40 (old.rd Obj.hbmPcStatus pc 55 40)) d
  (List.range 4).foldl (fun d s =>
    let d : Device := d.setFld Obj.hbmStackStatus s 223 192 (old.rd Obj.hbmStackStatus s 223 192)
    if old.stackState s = 8 ∧ old.rd Obj.hbmStackStatus s 247 240 = 7 then
      (d.setFld Obj.hbmStackStatus s 255 248 8).setFld Obj.hbmStackStatus s 247 240 7
    else d) d

/-- The optics go on over a DEVICE restart (Table 18.3): lasers stay lit and their swaps continue (R84), and lanes adapt at 212.5 Gb/s
now that no port is configured: those of the other rate start anew (R73, Table 18.6). -/
def Device.keepOptics (old d : Device) : Device :=
  let slow := (List.range 256).filter fun l => old.laneRate l == 1 && old.rxState l == 2
  slow.foldl (fun d l => d.setFld Obj.laneStatus l 63 56 1)
    { d with ports := { d.ports with lit := old.ports.lit, swap := old.ports.swap, swapWait := old.ports.swapWait,
                                     feedDark := old.ports.feedDark, moved := old.ports.moved } }

/-- VIN12 is outside 10.8 V to 13.2 V: a dump does not survive a FULL restart or RESET_N then (R333, R375). -/
def Device.vinOut (d : Device) : Bool := setHas d.pwr.supply 0xFF

/-- Both dumps lost: their stores are empty, and DUMP.Status says so (R333, Table 15.17). -/
def Device.loseDumps (d : Device) : Device :=
  ({ d with hbm := { d.hbm with dump := [] }, look := { d.look with dumpStore := [] } }).set Obj.dumpStatus 0 0

/-- Objects that a restart keeps. -/
def keptObjects (full : Bool) : List Nat := keptAlways ++ keptByRestart ++ [Obj.dumpStatus] ++ if full then [] else keptByDevice

/-- A pair both of whose stacks are FENCED: neither enters self-refresh, so that its part of the dump region is lost (R375). -/
def Device.pairLost (d : Device) (p : Nat) : Bool := d.stackState p == 8 && d.stackState (p + 2) == 8

/-- The HBM dump as a restart leaves it: what lies in a pair that is lost is gone, and with its header the dump (R375, log 50). -/
def Device.keepDumps (d : Device) : Device :=
  let gone (a : Nat) : Bool := d.pairLost (a / 0x20000000 % 2)
  let d1 : Device := { d with hbm := { d.hbm with dump := d.hbm.dump.filter fun x => !gone x.1
                                                  dumpSpans := d.hbm.dumpSpans.filter fun x => !gone x.1 } }
  if gone (d.rd Obj.dumpStatus 0 95 64) then d1.setFld Obj.dumpStatus 0 119 112 0 else d1

/-- The conditions that hold whatever the device does, of the reference (Table 15.4, source 0x29). -/
def keptConditions (cs : List Nat) : List Nat := cs.filter fun k => k / 65536 == 0x29

/-- The device as a restart that reinitialises the Chart leaves it, held in RESET (R375, R376): `full` for FULL and RESET_N. The clusters,
all of them idle, are in RETENTION where the rule that THERM.Status keeps is in force (R398). -/
def Device.chartReset (d : Device) (full : Bool) : Device :=
  let d := (if full then d.cutDump.settleLasers else d.cutDump).keepDumps
  let d := if full && d.vinOut then d.loseDumps else d
  let base := d.cold
  let kept := { base with
    chart := d.keepObjects (keptObjects full)
    mgmt := if full then base.mgmt
      else { base.mgmt with linkUp := d.mgmt.linkUp, forward := d.mgmt.forward, lastForwarded := d.mgmt.lastForwarded }
    hbm := { base.hbm with dump := d.hbm.dump, dumpSpans := d.hbm.dumpSpans,
                           poison := d.hbm.poison.filter isDumpBlock }
    look := { base.look with dumpStore := d.look.dumpStore, faultN := .low, conditions := keptConditions d.look.conditions }
    pwr := { base.pwr with energy := d.pwr.energy, energyAt := d.pwr.energyAt, bound := d.pwr.bound, work := d.pwr.work, status := d.pwr.status, rails := d.pwr.rails,
                           vaux := d.pwr.vaux, good := d.pwr.good,
                           resetLow := d.pwr.resetLow, hold := d.pwr.hold, supply := d.pwr.supply, straps := d.pwr.straps,
                           trained := if full then [] else [0, 1, 2, 3] }
    sx := { d.sx with status := if d.sx.running.isSome then 3 else d.sx.status, running := none, buffer := [],
                      index := 0, idle := [], absentAt := none, verdicts := [], pilotHalted := false, pilotRegs := [], staged := none, parts := [] } }
  (if full then kept else Device.keepOptics d (Device.keepDelays d kept)).retainIdle

/-! ### Reset release (R365, R366) -/

/-- Straps as DEV.Straps shows them: DEVNUM in bits 5:0, MPRATE in bit 6, RING in bit 7 and PORTDEF in bit 8. -/
def Device.latchStraps (d : Device) (v : Nat) : Device :=
  ({ d with pwr := { d.pwr with straps := v } }).set Obj.devStraps 0 v

/-- SPARES_OUT is present again after a restart for every group whose source needs a ratio of 1.500 or more with no spare left (Table
15.4: a condition of what the restart keeps). -/
def Device.sparesSpent (d : Device) : Device :=
  (List.range 64).foldl (fun d k =>
    match d.sourceOf (k / 8) (k % 8) with
    | some e => if d.sparesLeft (k / 8) = 0 ∧ 1500 ≤ d.biasRatio e then d.setCondition 0x1A (feedTarget (k / 8) (k % 8)) true else d
    | none => d) d

/-- The conditions that a restart does not end, present again without a new event (R316, log 50): those of the supplies, of poisoned blocks,
of spent spares and of feed groups that no source can feed, and those of the temperatures that are kept. -/
def Device.startConditions (d : Device) : Device :=
  let d := ((d.setCondition 0x3A 0 (!d.pwr.supply.isEmpty)).setCondition 0x14 0 (!d.hbm.poison.isEmpty)).sparesSpent
  let d := d.ports.feedDead.foldl (fun d k => d.setCondition 0x1B (feedTarget (k / 8) (k % 8)) true) d
  let junction := toSigned 16 (d.rd Obj.thermStatus 0 127 112)
  let d := (d.setCondition 0x38 0 (decide (1000 < junction))).setCondition 0x39 0 (decide (1050 < junction))
  (List.range 4).foldl (fun d s =>
    d.setCondition 0x15 (0x900 + s) (decide (950 ≤ toSigned 16 (d.rd Obj.hbmStackStatus s 223 208)))) d

/-- What start-up puts into the Chart from fuses and from the random source (R33, R214, Tables 4.5 and 5.11), and the conditions that a
restart does not end. -/
def Device.startChart (d : Device) : Device :=
  let d : Device := (d.set Obj.ucodeKeyHash 1 d.img.ownerDigest).set Obj.ucodeKeyPolicy 0 d.img.keyPolicy
  let d : Device := d.spend.set Obj.hashToeplitzKey 0 (Config.freeValue d.free % 2 ^ 320)
  d.feedSources.startConditions

/-- The clocks run, the debug clock is ABSENT until TCK moves (R335, Table 16.3). -/
def Device.startClocks (d : Device) : Device :=
  ((List.range 9).foldl Device.clockRuns d).setFld Obj.clkStatus 9 63 56 2

/-- Reset release: the Pilot starts from ROM and DEV.State becomes BOOT_ROM (Table 18.2 t2, Table 18.4 t3). -/
def Device.resetRelease (d : Device) (clocks : Bool) : Device :=
  let d : Device := { d with pwr := { d.pwr with hold := .none, pilot := .running, requested := none } }
  let d : Device := if clocks then d.startClocks else d
  (d.startChart.set Obj.devState 0 St.bootRom).updFaultN

/-- Device time starts at 0 with the Pilot's reset release (R296). -/
def Clk.restart (c : Clk) : Clk := { c with sec := 0, ns := 0, frac := 0 }

/-- The release of the power-on reset, with the straps latched and BDP.Epoch at a random start (R33, R365). -/
def Device.powerOnRelease (d : Device) (straps : Nat) : Device :=
  let e := Config.freeValue d.free % 256
  ((d.spend.latchStraps straps).set Obj.bdpEpoch 0 e).resetRelease true

/-- The release of a restart: FULL and RESET_N latch the straps (R366), and BDP.Epoch advances as the Pilot starts (R33). -/
def Device.restartRelease (d : Device) (kind : RestartKind) (straps : Nat) : Device :=
  let d : Device := d.set Obj.bdpEpoch 0 ((d.get Obj.bdpEpoch 0 + 1) % 256)
  match kind with
  | .device => d.resetRelease false
  | .full => (d.latchStraps straps).resetRelease true
  | .resetN => (d.latchStraps straps).resetRelease true

/-- The internal reset releases with RESET_N high (Table 18.2, t2). -/
def execResetReleaseBoot (straps : Nat) (s : State) : Host.Outcome State Fault Refusal :=
  onClk (Instr.resetReleaseBoot straps).wf
    (fun c d =>
      if d.pwr.good ∧ d.pwr.resetLow = false ∧ d.pwr.hold = .powerOn then (c.restart, d.powerOnRelease straps) else (c, d)) s

/-- The reset release of a restart (Table 18.4, t3). -/
def execRestartResetRelease (straps : Nat) (s : State) : Host.Outcome State Fault Refusal :=
  onClk (Instr.restartResetRelease straps).wf
    (fun c d =>
      match d.pwr.hold with
      | .held k => if d.pwr.resetLow then (c, d) else (c.restart, d.restartRelease k straps)
      | _ => (c, d)) s

/-! ### Training, optics (R367, R368) -/

/-- What the device clears as TRAINING begins (R367): segment 0 but for the dump region, the queue store and the on-chip tables. -/
def Device.clearTables (d : Device) : Device :=
  { d with
    queueStore := []
    tbl := Device.reset.tbl
    hbm := { d.hbm with churn := [], churnB := [], waitHeal := [], cursor := [], flex := [], queueRegion := [],
                        poison := d.hbm.poison.filter isDumpBlock } }

/-- A stack whose delays a DEVICE restart kept serves again without training (Table 18.3). -/
def Device.resumeStacks (d : Device) (c : Clk) : Device :=
  d.pwr.trained.foldl (fun d s => if d.stackState s = 0 then (d.openStack c s).setStack c s 1 else d.closeStack c s) d

/-- The Pilot has completed its ROM self-test: DEV.State becomes TRAINING (Table 18.2, t3). -/
def execPilotSelfTestDone (s : State) : Host.Outcome State Fault Refusal :=
  onDev Instr.pilotSelfTestDone.wf
    (fun c d => if d.state = St.bootRom ∧ d.pwr.hold = .none then ((d.clearTables).resumeStacks c).set Obj.devState 0 St.training else d) s

/-- Every stack has ended training: DEV.State becomes OPTICS_UP (Table 18.1), and sources light up with their groups as the fuses leave them
(R82, R368). -/
def execTrainingEnd (s : State) : Host.Outcome State Fault Refusal :=
  onDev Instr.trainingEnd.wf
    (fun c d =>
      if d.state = St.training ∧ d.pwr.hold = .none ∧ (List.range 4).all (setHas d.pwr.trained) then
        let since := if d.ports.lit then none else some c.ticks
        ({ d with ports := { d.ports with lit := true }, pwr := { d.pwr with opticsAt := since } }).set Obj.devState 0 St.opticsUp
      else d) s

/-- OPTICS_UP may end: every receive lane is LOCKED, NO_SIGNAL or FENCED, or 2 s have passed since it was entered (R368); after a DEVICE
restart, whose lasers stayed lit, at once (Table 18.4 t3). -/
def Device.opticsSettled (d : Device) (c : Clk) : Bool :=
  match d.pwr.opticsAt with
  | none => true
  | some t => decide (t + 2500000000 ≤ c.ticks) || (List.range 256).all fun l => d.laneFenced l || d.rxState l != 1

/-- OPTICS_UP ends (R368). -/
def execOpticsSettled (s : State) : Host.Outcome State Fault Refusal :=
  onDev Instr.opticsSettled.wf
    (fun c d => if d.state = St.opticsUp ∧ d.pwr.hold = .none ∧ d.opticsSettled c = true then d.set Obj.devState 0 St.awaitImage else d) s

/-! ### Restarts (R374, R376, Table 18.4) -/

/-- A write of DEV.Restart (Table 18.3). -/
def Device.writeRestart (d : Device) (v : Nat) : Wr :=
  if v = 0 ∨ 3 < v then .error stType
  else if v = 1 ∧ d.unconfirmed then .error stBusy
  else .ok { d with pwr := { d.pwr with requested := some v } }

/-- Enabled ports. -/
def Device.enabledPorts (d : Device) : List Nat := (List.range 256).filter fun p => d.get Obj.portEnable p == 1

/-- Whether a restart keeps the dumps only while VIN12 stays within its range: FULL and RESET_N (R375); DEVICE keeps them whatever it does. -/
def RestartKind.needsVin (k : RestartKind) : Bool := k != .device

/-- A restart begins (Table 18.4, t0 and t1): admission stops and every enabled port sends Local Fault. -/
def Device.beginRestart (d : Device) (c : Clk) (k : RestartKind) : Device :=
  let ports := d.enabledPorts
  let d : Device := ports.foldl (fun d p => d.dropLink c p) d
  let d : Device := { d with pwr := { d.pwr with hold := .begun k, requested := none, localFault := ports } }
  if k.needsVin && d.vinOut then d.loseDumps else d

/-- A DEVICE or FULL restart that DEV.Restart ordered begins. -/
def execDeviceRestartBegin (s : State) : Host.Outcome State Fault Refusal :=
  onDev Instr.deviceRestartBegin.wf
    (fun c d =>
      if d.pwr.hold = .none ∧ d.pwr.requested = some 2 then d.beginRestart c .device
      else if d.pwr.hold = .none ∧ d.pwr.requested = some 3 then d.beginRestart c .full
      else d) s

/-- The device is held in RESET (Table 18.4, t2). -/
def Device.enterReset (d : Device) (k : RestartKind) : Device :=
  let d : Device := d.chartReset (decide (k ≠ .device))
  ({ d with pwr := { d.pwr with hold := .held k } }).set Obj.devState 0 St.reset

/-- Local Fault has been sent for 1 ms: DEV.State becomes RESET. -/
def execRestartResetEntry (s : State) : Host.Outcome State Fault Refusal :=
  onDev Instr.restartResetEntry.wf
    (fun _ d => match d.pwr.hold with
      | .begun k => d.enterReset k
      | _ => d) s

/-! ### RESET_N (R376, R383) -/

/-- Whether a low level on RESET_N is recognised: from 520 ns on, and never below 500 ns; between them it is free (R383). -/
def Device.resetSeen (d : Device) (lowNs : Nat) : Bool :=
  decide (520 ≤ lowNs) || (decide (500 ≤ lowNs) && Config.freeValue d.free % 2 == 1)

/-- RESET_N recognised low. -/
def Device.assertReset (d : Device) (c : Clk) : Device :=
  let d1 : Device := match d.pwr.hold with
    | .none => d.beginRestart c .resetN
    | .begun _ =>
      let d : Device := if d.vinOut then d.loseDumps else d
      { d with pwr := { d.pwr with hold := .begun .resetN } }
    | .held _ => d.enterReset .resetN
    | .powerOn => d
  { d1 with pwr := { d1.pwr with resetLow := true } }

/-- RESET_N has been low for a number of nanoseconds; before power-good the low level only holds back t2 of Table 18.2. -/
def execResetNAssert (lowNs : Nat) (s : State) : Host.Outcome State Fault Refusal :=
  onDev (Instr.resetNAssert lowNs).wf
    (fun c d =>
      if d.pwr.resetLow = false then
        (if d.resetSeen lowNs then d.spend.assertReset c else d.spend)
      else d) s

/-- RESET_N returns high: a device that it holds in RESET is released with the straps latched. -/
def execResetNRelease (straps : Nat) (s : State) : Host.Outcome State Fault Refusal :=
  onClk (Instr.resetNRelease straps).wf
    (fun c d =>
      let d1 : Device := { d with pwr := { d.pwr with resetLow := false } }
      match d1.pwr.hold with
      | .held .resetN => (c.restart, d1.restartRelease .resetN straps)
      | _ => (c, d1)) s

end Sys2Proof.Machine
end

