-- ==== Sys2Proof/Machine/Power.lean ====
section
/-! DEFINITION. Power, supplies and heat (chapter 19): VIN12 and the power-on reset, the rails and their trim loops, the thermal
thresholds and the thermal trip (R364, R383, R389 to R399). -/

namespace Sys2Proof.Machine

/-! ### VIN12 (R364, R383, R389) -/

/-- VIN12 rises through 8.0 V: VAUX comes up and FAULT_N is driven low (R383). -/
def execVauxPresent (s : State) : Host.Outcome State Fault Refusal :=
  onDev Instr.vauxPresent.wf
    (fun _ d =>
      if d.pwr.vaux then d
      else { d with pwr := { d.pwr with vaux := true }, look := { d.look with faultN := .low } }) s

/-- Phases of a rail, and the voltage its fixed setting asks for in mV; of the rails that a loop sets, where it starts (Table 19.6, R391). -/
def railPhases (r : Nat) : Nat := [12, 12, 2, 2, 8, 8, 4, 4, 4, 4, 2, 2].getD r 0
def railFixed (r : Nat) : Nat := [850, 850, 800, 800, 900, 900, 1600, 1600, 1100, 400, 1800, 3300].getD r 0

/-- A rail as power-good finds it: REGULATING with all its phases (Table 19.10). -/
def Device.startRail (d : Device) (r : Nat) : Device :=
  d.set Obj.pwrRail r (at_ 95 80 (railFixed r) + at_ 79 72 1 + at_ 71 64 (railPhases r))

/-- PWR.Rail State and PhasesActive. -/
def Device.railState (d : Device) (r : Nat) : Nat := d.rd Obj.pwrRail r 79 72
def Device.railActive (d : Device) (r : Nat) : Nat := d.rd Obj.pwrRail r 71 64

/-- THERM.Status set from three sensor readings in 0.1 °C (Table 19.11). -/
def Device.setTherm (d : Device) (die0 die1 optics : Int) : Device :=
  let j := max die0 die1
  let v := d.get Obj.thermStatus 0
  let peak := max j (toSigned 16 (fld v 63 48))
  d.set Obj.thermStatus 0 (at_ 127 112 (ofSigned 16 j) + at_ 111 96 (ofSigned 16 die0) + at_ 95 80 (ofSigned 16 die1)
    + at_ 79 64 (ofSigned 16 optics) + at_ 63 48 (ofSigned 16 peak) + v % 2 ^ 48)

/-- The sensors' first readings, which nothing before fixes: free, and at most 100.0 °C (log 15). -/
def Device.firstTemperatures (d : Device) : Device :=
  let r := d.drawN 3 1001
  let a := r.1.getD 0 0
  let b := r.1.getD 1 0
  let c := r.1.getD 2 0
  r.2.setTherm a b c

/-- The internal reset asserts: a power-on, which loses what R375 lists (R364). -/
def Device.powerLost (d : Device) (vaux tripped : Bool) (pin : PinLevel) : Device :=
  let b := d.settleLasers.cold
  { b with pwr := { b.pwr with vaux := vaux, tripped := tripped, resetLow := d.pwr.resetLow }, look := { b.look with faultN := pin } }

/-- VIN12 falls below 10.0 V (R364, R389). -/
def execPowerFailReset (s : State) : Host.Outcome State Fault Refusal :=
  onDev Instr.powerFailReset.wf
    (fun _ d => if d.pwr.vaux = true then d.powerLost true d.pwr.tripped .low else d) s

/-- VIN12 falls below 8.0 V: VAUX, the strap level and the FAULT_N drive are lost (R389), and a thermal trip ends (R399). -/
def execVauxLoss (s : State) : Host.Outcome State Fault Refusal :=
  onDev Instr.vauxLoss.wf (fun _ d => d.powerLost false false .undriven) s

/-- A thermal trip turns every rail except VAUX off and drives FAULT_N low, until VIN12 falls below 8.0 V (R399). -/
def execThermalTrip (s : State) : Host.Outcome State Fault Refusal :=
  onDev Instr.thermalTrip.wf
    (fun _ d => if d.pwr.good = true then d.powerLost true true .low else d) s

/-! ### Rails (R390 to R392) -/

/-- A failing phase is disabled (R390). -/
def execRegulatorPhaseFail (rail : Nat) (s : State) : Host.Outcome State Fault Refusal :=
  onDev (Instr.regulatorPhaseFail rail).wf
    (fun _ d => if d.pwr.good = true then d.setFld Obj.pwrRail rail 71 64 (d.railActive rail - 1) else d) s

/-- SUPPLY causes are kept by number: a rail out of range by its code, VIN12 out of range as 0xFF, and a core rail outside its trim
range as 0x100 and its code. Causes of one rail share a detector. -/
def Device.supplyCause (d : Device) (cause : Nat) (present : Bool) : Device :=
  let was := setHas d.pwr.supply cause
  let d1 : Device := { d with pwr := { d.pwr with supply := setTo d.pwr.supply cause present } }
  let d2 := d1.setCondition 0x3A 0 (!d1.pwr.supply.isEmpty)
  if present && !was then d2.raiseBy 0x3A 0 (cause % 256) (cause % 256) else d2

/-- PWR.Rail State of a rail: OUT_OF_RANGE, AT_LIMIT or REGULATING (Table 19.10, R392). -/
def Device.showRail (d : Device) (r : Nat) : Device :=
  d.setFld Obj.pwrRail r 79 72 (if setHas d.pwr.supply r then 2 else if setHas d.pwr.supply (0x100 + r) then 3 else 1)

/-- A restart is under way, from its beginning to its reset release, that keeps the dumps only while VIN12 stays within its range (R375). -/
def Device.dumpsAtRisk (d : Device) : Bool :=
  match d.pwr.hold with
  | .begun k => k.needsVin
  | .held k => k.needsVin
  | _ => false

/-- A rail leaves its window or returns, or VIN12 its range (R392); the dumps are lost where that comes during a FULL restart or RESET_N (R333, R375). -/
def execSupply (code : Nat) (present : Bool) (s : State) : Host.Outcome State Fault Refusal :=
  onDev (Instr.supply code present).wf
    (fun _ d =>
      if d.pwr.good = true then
        let d1 := d.supplyCause code present
        if code < 12 then d1.showRail code else if d1.vinOut && d1.dumpsAtRisk then d1.loseDumps else d1
      else d) s

/-- A core rail's voltage in steps of 2.5 mV, from the mV that PWR.Rail Target shows. -/
def trimStep (mv : Nat) : Nat := ceilDiv (2 * mv) 5

/-- The step a core trim loop moves its rail to: the lowest that shows every margin, from 0.70 to 0.85 V, at most 50 mV from the present
one in 10 µs (R391). -/
def trimNext (now needed : Nat) : Nat := max (now - 20) (min (now + 20) (max 280 (min 340 (trimStep needed))))

/-- A core trim loop's update: `needed` is the lowest voltage in mV at which every monitor shows its margin (R391, R392). -/
def execCoreTrimUpdate (die needed : Nat) (s : State) : Host.Outcome State Fault Refusal :=
  onDev (Instr.coreTrimUpdate die needed).wf
    (fun _ d =>
      if d.pwr.good = true then
        let n := trimNext (trimStep (d.rd Obj.pwrRail die 95 80)) needed
        ((d.supplyCause (0x100 + die) (decide (850 < needed))).showRail die).setFld Obj.pwrRail die 95 80 (n * 5 / 2)
      else d) s

/-! ### Heat (R398, Table 19.12) -/

/-- The cluster retention rule: in force above 100.0 °C, until Junction falls below 97.0 °C (Table 19.12). Every cluster that is IDLE while
it is in force is in RETENTION. -/
def Device.retentionRule (d : Device) (junction : Int) : Device :=
  (if 1000 < junction then d.setFld Obj.thermStatus 0 47 47 1
   else if junction < 970 then d.setFld Obj.thermStatus 0 47 47 0
   else d).retainIdle

/-- A reading of the logic dies' and the optical engines' sensors, in 0.1 °C. -/
def execThermalSample (die0 die1 optics : Int) (s : State) : Host.Outcome State Fault Refusal :=
  onDev (Instr.thermalSample die0 die1 optics).wf
    (fun _ d =>
      if d.pwr.good = true then
        let j := max die0 die1
        let d1 := ((d.setTherm die0 die1 optics).retentionRule j).setFld Obj.thermStatus 0 46 46 (b2n (decide (1050 < j)))
        (d1.conditionEvent 0x38 0 (ofSigned 16 j) (decide (1000 < j))).conditionEvent 0x39 0 (ofSigned 16 j) (decide (1050 < j))
      else d) s

/-! ### Measurements (R391, R393, R394) -/

/-- The engines whose sources a laser rail feeds (Table 19.6). -/
def railEngines (r : Nat) : List Nat := if r = 6 then [0, 1, 2, 3] else if r = 7 then [4, 5, 6, 7] else []

/-- A source that is lit: ACTIVE, SWAP_IN from its first light, or SWAP_OUT until the spare has its full share, its feed group not being
dark (Table 4.7, Table 4.10, R83, R85, R86). -/
def Device.sourceLit (d : Device) (e : Nat) : Bool :=
  let k := e / 10 * 8 + d.laserGroup e
  let st := d.laserState e
  (st == 0 || st == 2 || (st == 3 && !(d.ports.swap.any fun kv => kv.2.old == e && kv.2.stage == .fullShare)))
    && !setHas d.ports.feedFenced k && !setHas d.ports.feedDead k

/-- The lit sources of a laser rail, while the lasers are on. -/
def Device.litSources (d : Device) (r : Nat) : List Nat :=
  if d.opticsOn then ((railEngines r).map fun oe => (List.range 10).map (10 * oe + ·)).flatten.filter d.sourceLit else []

/-- The voltage in mV that a source needs at a tick: free (log 66), and such that 0.25 V above it lies within the range of its rail. -/
def sourceNeeds (now e : Nat) : Nat := 1350 + Config.laserNeed e now % 801

/-- The voltage that the laser-headroom loop asks for: 0.25 V above the highest that a lit source of the rail needs (R391), and the lowest of
its range while none is lit (DESIGN CHOICE, log 66). -/
def Device.headroomTarget (d : Device) (now r : Nat) : Nat := (d.litSources r).foldl (fun v e => max v (sourceNeeds now e + 250)) 1600

/-- A free value of at most `e` more or less than `x`. -/
def around (x e k : Nat) : Nat := x - e + k % (2 * e + 1)

/-- How many passes have been steered and frames sent: the model's own measure of whether there has been traffic (log 85). -/
def Device.work (d : Device) : Nat := d.sl.nextId + d.ports.sent.length

/-- Traffic since the last update of the measurements, or in the device (log 85). -/
def Device.traffic (d : Device) : Bool :=
  d.work != d.pwr.work || !d.sl.flights.isEmpty || !d.ports.fifo.isEmpty || !d.buf.queues.isEmpty || !d.tm.transmit.isEmpty

/-- The most input power of the device's mode, in 0.1 W (Table 19.7), less 22 W for each parked stack (R393). From OPTICS_UP on a device
without traffic is Idle. A restart with the lasers lit has no row, and is held to the table's most (log 85). -/
def Device.powerMax (d : Device) : Nat :=
  let mode :=
    if d.state = St.safe then 3400
    else if d.state ≤ St.training then (if d.opticsOn then 8200 else 1900)
    else if d.traffic then 8200
    else 3600
  mode - 220 * ((List.range 4).filter fun s => d.stackState s == 4).length

/-- VIN12 in mV: within its operating range, or outside it as the SUPPLY condition says (R389, R392, Table 19.5). -/
def Device.vinLevel (d : Device) (j k : Nat) : Nat :=
  if d.vinOut = false then 10800 + k % 2401 else if j % 2 = 0 then 10000 + k % 800 else 13201 + k % 1800

/-- Energy in joules, of a count of units of 0.1 W × 0.8 ns. -/
def joules (n : Nat) : Nat := n * 8 / 10 ^ 11

/-- The window in percent of its Target within which a rail that is not out of range stays (Table 19.6, R392). -/
def railWindow (r : Nat) : Nat := if (2 ≤ r ∧ r ≤ 5) ∨ (8 ≤ r ∧ r ≤ 10) then 3 else 5

/-- A free voltage in mV that is more than 5 % from a Target: below it, or above it and at most 60 V (R392). -/
def outside (target j k : Nat) : Nat :=
  if j % 2 = 0 then k % ceilDiv (19 * target) 20 else let low := 21 * target / 20 + 1; low + k % (60001 - low)

/-- PWR.Rail of a rail as it is measured (Table 19.10, R394): its voltage within its window, or outside it while it is out of range, shown to 1 %; a
current that its power allows, shown to 3 %. -/
def Device.railMeasured (d : Device) (now r : Nat) (k : Nat → Nat) : Nat :=
  let held := d.get Obj.pwrRail r
  let target := if railEngines r = [] then fld held 95 80 else d.headroomTarget now r
  let volts := if d.railState r = 2 then outside target (k 4) (k 0) else around target (target * railWindow r / 100) (k 0)
  let amps := k 2 % (d.powerMax * 1000 / target + 1)
  putFld (putFld (putFld held 127 112 (around volts (volts / 100) (k 1))) 111 96 (around amps (amps * 3 / 100) (k 3))) 95 80 target

/-- PWR.Status as it is measured (Table 19.9, R393, R394): Vin to 1 %, Pin of a power that the mode allows and the Iin it gives to 3 %, and
Energy. -/
def Device.powerMeasured (d : Device) (energy : Nat) (k : Nat → Nat) : Nat :=
  let vin := d.vinLevel (k 0) (k 1)
  let power := k 2 % (d.powerMax + 1)
  let amps := power * 10000 / vin
  at_ 127 112 (around vin (vin / 100) (k 3)) + at_ 111 96 (around amps (amps * 3 / 100) (k 4))
    + at_ 95 80 (around power (power * 3 / 100) (k 5)) + at_ 63 0 (joules energy)

/-- An update of PWR.Status and PWR.Rail (R394): the measurements are free within what Tables 19.5 to 19.7 and 19.10 allow, and Energy has
grown since the last by a free amount, of at most what the mode's most power gives in that time: the greater of the modes at its two ends (log
85). -/
def Device.powerUpdate (d : Device) (now : Nat) : Device :=
  let k (i : Nat) : Nat := Config.freeValue (d.free + i)
  let energy := d.pwr.energy + k 6 % (max d.pwr.bound d.powerMax * (now - d.pwr.energyAt) + 1)
  { d with
    free := d.free + 67
    pwr := { d.pwr with energy := energy, energyAt := now, bound := d.powerMax, work := d.work, status := d.powerMeasured energy k
                        rails := (List.range 12).map fun r => d.railMeasured now r fun i => k (7 + 5 * r + i) } }

/-- PWR.Status and PWR.Rail are updated every 1 ms, at the ticks whose count 1,250,000 divides (R394, log 85). -/
def Device.powerTick (d : Device) (now : Nat) : Device := if now % 1250000 = 0 ∧ d.pwr.good = true then d.powerUpdate now else d

/-- TIME_TICK. -/
def execTimeTick (s : State) : Host.Outcome State Fault Refusal :=
  onClk Instr.timeTick.wf (fun c d => tickClock c (d.powerTick (c.ticks + 1))) s

/-- PWR.Rail of a rail as it was updated last; a reserved rail reads zero. -/
def Device.readRail (d : Device) (r : Nat) : Nat := d.pwr.rails.getD r 0

/-- Power-good: every rail has reached regulation (R364, R391), the measurements are taken for the first time, and Energy
counts from here (R394). -/
def execPowerGood (s : State) : Host.Outcome State Fault Refusal :=
  onDev Instr.powerGood.wf
    (fun c d =>
      if d.pwr.vaux = true ∧ d.pwr.good = false ∧ d.pwr.tripped = false then
        let d1 := ((List.range 12).foldl Device.startRail d).firstTemperatures
        Device.powerUpdate { d1 with pwr := { d1.pwr with good := true, energy := 0, energyAt := c.ticks } } c.ticks
      else d) s

end Sys2Proof.Machine
end

