-- ==== Sys2Proof/Machine/Lookout.lean ====
section
/-! DEFINITION. The Lookout (chapter 15): handling an event, coalescing, reaction shadows and escalation, the severity-2 reactions, the
unfence write, statuses, FAULT_N and the safe state (R313 to R330). -/

namespace Sys2Proof.Machine

/-! ### Targets (Table 15.2) -/

/-- The kind of unit a target number names. -/
inductive UnitKind where
  | device
  | pilot
  | bufferManager
  | timeUnit
  | slice
  | cluster
  | scratchpad
  | commonStore
  | engine
  | tcamBank
  | segment
  | pseudoChannel
  | stack
  | laser
  | feed
  | port
  | queue
  | crossing
  | reserved
deriving DecidableEq, Repr

/-- The kind of a target number, and the unit's number within its kind. -/
def unitOf (t : Nat) : UnitKind × Nat :=
  if t = 0 then (.device, 0)
  else if t = 1 then (.pilot, 0)
  else if t = 3 then (.bufferManager, 0)
  else if t = 4 then (.timeUnit, 0)
  else if 0x10 ≤ t ∧ t < 0x14 then (.slice, t - 0x10)
  else if 0x100 ≤ t ∧ t < 0x140 then (.cluster, t - 0x100)
  else if 0x180 ≤ t ∧ t < 0x1C0 then (.scratchpad, t - 0x180)
  else if 0x1C0 ≤ t ∧ t < 0x1D0 then (.commonStore, t - 0x1C0)
  else if 0x400 ≤ t ∧ t < 0x800 then (.engine, t - 0x400)
  else if 0x800 ≤ t ∧ t < 0x830 then (.tcamBank, t - 0x800)
  else if 0x840 ≤ t ∧ t < 0x870 then (.segment, t - 0x840)
  else if 0x880 ≤ t ∧ t < 0x900 then (.pseudoChannel, t - 0x880)
  else if 0x900 ≤ t ∧ t < 0x904 then (.stack, t - 0x900)
  else if 0x910 ≤ t ∧ t < 0x960 then (.laser, t - 0x910)
  else if 0x960 ≤ t ∧ t < 0x9A0 then (.feed, t - 0x960)
  else if 0xA00 ≤ t ∧ t < 0xB00 then (.port, t - 0xA00)
  else if 0xB00 ≤ t ∧ t < 0xB20 then (.queue, t - 0xB00)
  else if 0xC00 ≤ t ∧ t < 0xD00 then (.crossing, t - 0xC00)
  else (.reserved, t)

/-- A crossing number in use (Table 16.4). -/
def crossingUsed (x : Nat) : Bool := decide (x < 9 ∨ (0x10 ≤ x ∧ x < 0x18) ∨ (0x20 ≤ x ∧ x < 0x3A))

/-- A target number that LOOK.UnitStatus and LOOK.Unfence know. -/
def targetKnown (t : Nat) : Bool :=
  match unitOf t with
  | (.reserved, _) => false
  | (.crossing, x) => crossingUsed x
  | _ => true

/-! ### Shadows and acting units (R319, R320) -/

/-- The port a lane group of which lies in a feed group. -/
def Device.portInFeed (d : Device) (k p : Nat) : Bool := (d.group p).any fun l => feedOf l == k

/-- Whether a source and the target of its event depend on a fenced or reset unit (Table 15.6). -/
def Device.dependant (d : Device) (unit src tgt : Nat) : Bool :=
  let t := unitOf tgt
  match unitOf unit with
  | (.engine, e) => [0x01, 0x06].contains src && (tgt == unit || tgt == clusterTarget (e / 16))
  | (.cluster, c) =>
    decide (1 ≤ src ∧ src ≤ 6) && (tgt == unit || (t.1 == .engine && t.2 / 16 == c) || (t.1 == .scratchpad && t.2 == c))
  | (.tcamBank, b) =>
    [0x08, 0x09].contains src && t.1 == .tcamBank && t.2 / 12 == b / 12 && (d.bankGroup (b / 12) (b % 12)).contains (t.2 % 12)
  | (.segment, _) => ([0x0A, 0x0B, 0x0D].contains src && tgt == unit) || (src == 0x0E && t.1 == .port)
  | (.pseudoChannel, p) => ([0x0D, 0x10, 0x12, 0x13].contains src && tgt == unit) || (src == 0x11 && tgt == 0x900 + p / 32)
  | (.stack, s) =>
    ([0x0D, 0x10, 0x11, 0x12, 0x13, 0x15, 0x16].contains src && (tgt == unit || (t.1 == .pseudoChannel && t.2 / 32 == s)))
      || (src == 0x20 && t.1 == .queue) || (src == 0x21 && (tgt == 0xC02 + s || tgt == 0xC24 + s))
  | (.laser, e) =>
    [0x18, 0x19, 0x1A].contains src && ((t.1 == .laser && t.2 / 10 == e / 10) || (t.1 == .feed && t.2 / 8 == e / 10))
  | (.feed, k) => [0x0E, 0x1C].contains src && t.1 == .port && d.portInFeed k t.2
  | (.port, _) => [0x0E, 0x1C].contains src && tgt == unit
  | (.queue, _) => src == 0x20 && tgt == unit
  | (.crossing, _) => [0x21, 0x22, 0x23].contains src && tgt == unit
  | (.pilot, _) => (src == 0x32 && tgt == 1) || (src == 0x21 && t.1 == .crossing)
  | _ => false

/-- Whether a unit's fence or reset has been issued before now, so that its shadow covers what is accepted: a write issues it at once, and
a reaction is issued in the tick of its event's acceptance, within the 200 ns of R321, and covers from the next tick on: the other reports of
that clock are not demoted, as the example of chapter 15 has it (R319, log 30). -/
def Device.issuedBy (d : Device) (c : Clk) (unit : Nat) : Bool :=
  match mapGet? d.look.issued unit with
  | none => true
  | some t => decide (t < c.ticks)

/-- Whether a reaction shadow covers a source and a target (R319). -/
def Device.shadowed (d : Device) (c : Clk) (src tgt : Nat) : Bool :=
  d.look.shadows.any fun u => d.issuedBy c u && d.dependant u src tgt

/-- A reaction whose progress its unit still shows (Table 15.5, R320). RETIRING and FENCED are complete when they are reached, which
R247, R268 and R269 bound; no rule bounds the retirement that follows (DEDUCED, log 40). -/
def Device.incomplete (d : Device) (unit : Nat) : Bool :=
  match unitOf unit with
  | (.cluster, c) => d.sl.barriers.any fun b => b.old == c && !(d.stillWaits b).isEmpty
  | (.laser, e) => d.ports.swap.any fun kv => (mapGet d.ports.moved e []).contains kv.2.spare
  | (.pilot, _) => d.pwr.pilot == .restarting
  | _ => false

/-- A reaction in progress (R320). -/
def Device.inProgress (d : Device) (unit : Nat) : Bool :=
  setHas d.look.reactions unit && (setHas d.look.shadows unit || d.incomplete unit)

/-- A dump in progress: started, and one of its stores not COMPLETE or PARTIAL (R320). -/
def Device.dumping (d : Device) : Bool :=
  d.look.dump.isSome && (d.dumpState false == 1 || d.dumpState true == 1)

/-- Whether a target is an acting unit of the reaction to a unit (Table 15.5). -/
def Device.actsFor (d : Device) (unit tgt : Nat) : Bool :=
  let t := unitOf tgt
  match unitOf unit with
  | (.engine, e) => tgt == 0x10 + e / 256
  | (.cluster, c) => tgt == 0x10 + c / 16
  | (.segment, _) => tgt == 3
  | (.pseudoChannel, p) => tgt == 0x900 + sister (p / 32) || (t.1 == .pseudoChannel && t.2 / 32 == sister (p / 32))
  | (.stack, s) => tgt == 0x900 + sister s || (t.1 == .pseudoChannel && t.2 / 32 == sister s)
  | (.laser, e) => (mapGet d.ports.moved e []).any fun sp => laserTarget sp == tgt
  | (.crossing, _) => tgt == unit
  | (.pilot, _) => tgt == 1
  | _ => false

/-- Whether an event against a target is escalated (R320). -/
def Device.escalates (d : Device) (c : Clk) (tgt : Nat) : Bool :=
  (d.dumping && tgt == 1) || d.look.reactions.any fun u => d.inProgress u && d.issuedBy c u && d.actsFor u tgt

/-! ### Fences and reactions (Table 15.5) -/

/-- A queue stopped as R65 step 1 says: it fetches no more, and its parked chains complete STOPPED with the counts reached. -/
def Device.stopQueue (d : Device) (q : Nat) : Device :=
  let stop (x : Fetched) : Fetched := match x.stage with
    | .parked _ n f => { x with stage := .finished 7 (n * 2 ^ 32 + f) }
    | _ => x
  let d : Device := { d with wq := { d.wq with
    fetched := mapSet d.wq.fetched q ((mapGet d.wq.fetched q []).map stop) [] } }
  d.set Obj.wqEnable q 0

/-- The punts in the 64 KiB punt FIFO: the oldest of the punt path (Table 16.7). -/
def puntFifo (room : Nat) : List QEntry → List QEntry
  | [] => []
  | e :: es => if e.packet.length ≤ room then e :: puntFifo (room - e.packet.length) es else []

/-- A flow lookup's request lost by the block reset of a stack's crossing (R344). -/
def Device.loseFlow (d : Device) (s : Nat) : FlowPlace → Device
  | .packet id =>
    { d with sl := { d.sl with flights := d.sl.flights.map fun f => if f.id = id then { f with flowLost := some s } else f } }
  | .slot k n =>
    match d.ctx? k with
    | some x => d.setCtx k { x with lookups := x.lookups.map fun l => if l.1 = n then (l.1, { l.2 with lost := some s }) else l }
    | none => d
  | .orphan slice i =>
    { d with sl := { d.sl with
      orphans := mapPut d.sl.orphans slice ((mapGet d.sl.orphans slice []).zipIdx.map fun o =>
        if o.2 = i then { o.1 with lost := some s } else o.1) } }

/-- The HBM FIFOs of a stack's crossing emptied (R344, R346): the requests in them are discarded, and counted once. They stay without
response until the stack is fenced (R342). -/
def Device.emptyHbmFifo (d : Device) (s : Nat) : Nat × Device :=
  let d1 := (d.flowFifo s).foldl (fun d x => d.loseFlow s x.place) d
  ((d.hbmQueue s).length,
   { d1 with hbm := { d1.hbm with unanswered := d1.hbm.unanswered.filter (fun x => x.1 != s)
                                  discarded := d1.hbm.discarded ++ d.hbm.unanswered.filter fun x => x.1 == s } })

/-- Entries of the dual-clock FIFOs of a crossing (Table 16.7), and the device without them (log 31). -/
def Device.emptyFifos (d : Device) (c : Clk) (x : Nat) : Nat × Device :=
  if 0x20 ≤ x ∧ x < 0x24 then
    let fs := (d.sl.flights.filter fun f => f.slice == x - 0x20 && f.place == .input)
      ++ ((clustersOf (x - 0x20)).map d.verdictFifo).flatten
    (fs.length, fs.foldl Device.discard d)
  else if 0x24 ≤ x ∧ x < 0x28 then d.emptyHbmFifo (x - 0x24)
  else if 0x28 ≤ x ∧ x < 0x30 then d.emptyReceive fun p => p / 32 == x - 0x28
  else if 0x30 ≤ x ∧ x < 0x38 then d.emptyTransmit fun p => p / 32 == x - 0x30
  else if x = 0x38 then
    let ps := puntFifo 65536 (d.queue puntPath)
    let d1 := ps.foldl (fun d e => (d.dequeue c puntPath e).freeEntry e e.cells) d
    (d.mgmt.pipeline.length + ps.length, { d1 with mgmt := { d1.mgmt with pipeline := [] } })
  else (0, d)

/-- A block reset of a crossing (R344): requests in flight and pending counts are lost and counted, the Sextant's command under way on 0x08
among them, and no access of it waits to end with TIMEOUT any more. A crossing whose Pilot side a restart holds in reset goes on reading
RESETTING, and takes no request before the peer-reset event (R343, log 48). -/
def Device.blockReset (d : Device) (c : Clk) (x : Nat) : Device :=
  let mine := d.cross.outstanding.filter fun kv => kv.1 / 256 == x
  let stalled := if d.crossState x = 2 then 1 else 0
  let f := (if x = 8 then d.dropSxCommand else d).emptyFifos c x
  let d : Device := f.2.crossCount x 4 (mine.length + stalled + f.1)
  let d : Device := d.crossCount x 2 ((mine.map fun kv => min 7 kv.2).sum)
  let d : Device := { d with cross := { d.cross with outstanding := d.cross.outstanding.filter fun kv => kv.1 / 256 != x
                                                     late := setDel d.cross.late x } }
  (if d.crossState x = 3 then d else d.setFld Obj.crossStatus x 63 56 0).setFld Obj.crossStatus x 55 53 0

/-- Whether a unit stands fenced, as LOOK.UnitStatus FENCED shows it (Table 15.7). -/
def Device.unitFenced (d : Device) (t : Nat) : Bool :=
  match unitOf t with
  | (.cluster, c) => d.clusterFenced c
  | (.engine, e) => d.engineFenced e
  | (.tcamBank, b) => d.bankFenced (b / 12) (b % 12)
  | (.segment, g) => d.get Obj.bufSegmentState g != 0
  | (.pseudoChannel, p) => setHas d.hbm.fencedPcs p
  | (.stack, s) => d.stackState s == 8
  | (.feed, k) => setHas d.ports.feedFenced k
  | (.port, p) => d.portFenced p
  | (.queue, q) => d.get Obj.wqFenced q != 0
  | _ => false

/-- Whether a cluster is the last unfenced one of its slice. -/
def Device.lastCluster (d : Device) (c : Nat) : Bool := d.unfenced (c / 16) == [c]

/-- Whether the reaction of a target is withheld (Table 15.5). -/
def Device.withheld (d : Device) (t : Nat) : Bool :=
  match unitOf t with
  | (.engine, e) => !d.engineFenced e && d.lastEngine e && d.lastCluster (e / 16)
  | (.cluster, c) => !d.clusterFenced c && d.lastCluster c
  | (.pseudoChannel, p) => d.pcState (sister (p / 32)) (p % 32) != 0 || d.stackState (sister (p / 32)) != 1
  | (.stack, s) => d.stackState (sister s) == 8 || !d.allPcs (sister s)
  | _ => false

/-- The unit that a reaction fences or resets: a last engine's cluster in its place (R187). -/
def Device.reactUnit (d : Device) (t : Nat) : Nat :=
  match unitOf t with
  | (.engine, e) => if !d.engineFenced e && d.lastEngine e then clusterTarget (e / 16) else t
  | _ => t

/-- The fence or reset of a unit (Table 15.5), of one that is not fenced yet. -/
def Device.fenceUnit (d : Device) (c : Clk) (u : Nat) : Device :=
  match unitOf u with
  | (.engine, e) => d.fenceEngine e
  | (.cluster, k) => d.fenceCluster k 2
  | (.tcamBank, b) => (d.fenceBank c (b / 12) (b % 12)).openShadow u
  | (.segment, g) => (d.retireSegment g).openShadow u
  | (.pseudoChannel, p) => (d.retirePc c p).openShadow u
  | (.stack, s) => (d.fenceStack c s).openShadow u
  | (.laser, e) => (d.fenceSource c e).openShadow u
  | (.feed, k) => (d.fenceFeed c k).openShadow u
  | (.port, p) => (d.fencePort c p).openShadow u
  | (.queue, q) => ((d.stopQueue q).set Obj.wqFenced q 1).openShadow u
  | (.crossing, x) => (d.blockReset c x).openShadow u
  | (.pilot, _) => if d.pwr.pilot = .restarting then d else d.pilotDown.openShadow u
  | _ => d

/-- A unit whose severity-2 reaction has acting units or a shadow. -/
def hasReaction (u : Nat) : Bool :=
  match (unitOf u).1 with
  | .device | .slice | .bufferManager | .timeUnit | .scratchpad | .commonStore | .reserved => false
  | _ => true

/-- The severity-2 reaction of a target (R321), and whether it was performed. Fencing a fenced unit does nothing further (R317). -/
def Device.react (d : Device) (c : Clk) (t : Nat) : Device × Bool :=
  if d.withheld t then (d, false)
  else
    let u := d.reactUnit t
    let d1 := if d.unitFenced u then d else d.fenceUnit c u
    let d2 : Device :=
      if hasReaction u then
        { d1 with look := { d1.look with
            reactions := setAdd d1.look.reactions u
            issued := if setHas d.look.shadows u || !setHas d1.look.shadows u then d1.look.issued
                      else mapPut d1.look.issued u c.ticks } }
      else d1
    (d2.bump Obj.lookCounters 0 6 4 1, true)

/-! ### The safe state (R327 to R329) -/

/-- The dumps asked for and not started: that which comes next, and those that wait behind it. -/
def Device.dumpsAsked (d : Device) : List Dumping :=
  (match d.look.dump with
    | some x => if x.onChip = false ∧ d.dumpState false ≠ 1 then [x] else []
    | none => []) ++ d.look.asked

/-- Entry to SAFE (Table 15.13): admission and MACs stop, packets in flight are discarded, every enabled port's link falls, and the
dump is asked for; a requested dump that is being written stops, and those not started wait behind it (R331, log 27). A second entry does
nothing further. -/
def Device.enterSafe (d : Device) (c : Clk) (cause src tgt : Nat) : Device :=
  if d.state = St.safe ∨ d.state = St.reset then d
  else
    let d : Device := d.set Obj.lookStatus 0
      (putFld (putFld (putFld (putFld (d.get Obj.lookStatus 0) 127 120 1) 119 112 cause) 111 104 src) 103 88 tgt)
    let asked := d.dumpsAsked
    let d : Device := d.cutDump.fenceImageless
    let d : Device := { d with
      sl := { d.sl with flights := [] }
      sx := { d.sx with pilotHalted := false }
      pwr := { d.pwr with safeFrom := d.state }
      look := { d.look with dump := some { safe := true, time := c.time80, cause := cause, onChip := false, hbm := false,
                                           stopped := false }
                            asked := asked
                            conditions := d.look.conditions.filter fun k => k / 65536 != 0x06 } }
    let d : Device := d.set Obj.devState 0 St.safe
    (d.enabledPorts.foldl (fun d p => d.dropLink c p) d).updFaultN

/-- The Lookout's copies disagree, or its registers fail their parity (R327): no pending event is processed. -/
def Device.directSafe (d : Device) (c : Clk) (cause : Nat) : Device :=
  if d.state = St.safe ∨ d.state = St.reset then d
  else ({ d with look := { d.look with waiting := [], older := 0 } }).enterSafe c cause 0 0

/-- The two copies of the Lookout disagree. -/
def execCopyMismatch (s : State) : Host.Outcome State Fault Refusal :=
  onDev Instr.copyMismatch.wf (fun c d => d.directSafe c 2) s

/-- A parity error in the Lookout's own registers. -/
def execLookoutParity (s : State) : Host.Outcome State Fault Refusal :=
  onDev Instr.lookoutParity.wf (fun c d => d.directSafe c 3) s

/-! ### Handling an event (R317, R318, R326) -/

/-- LOOK.Config CoalesceWindow in ticks, and HistoryCount. -/
def Device.coalesceTicks (d : Device) : Nat := 1250 * d.rd Obj.lookConfig 0 25 16
def Device.historyCount (d : Device) : Nat := d.rd Obj.lookStatus 0 63 32

/-- The history count of the record that a report against a target coalesces into (R318), while history holds it. -/
def Device.recordOf (d : Device) (c : Clk) (t : Nat) : Option Nat :=
  match mapGet? d.look.latest t with
  | some (n, tick) =>
    if c.ticks < tick + d.coalesceTicks ∧ subMod 32 d.historyCount n ≤ 32 then some n else none
  | none => none

/-- NOTED or DEGRADE set for a source and a target (R317). -/
def Device.setStatuses (d : Device) (src tgt sev : Nat) : Device :=
  let b := if sev = 1 then 0 else 1
  let d : Device := d.set Obj.lookSourceStatus src (putBit (d.get Obj.lookSourceStatus src) b true)
  if targetKnown tgt then d.set Obj.lookUnitStatus tgt (putBit (d.get Obj.lookUnitStatus tgt) b true) else d

/-- The reaction at a severity, if the state allows one, and whether a severity-2 reaction was performed. -/
def Device.reactAt (d : Device) (c : Clk) (sev src tgt : Nat) : Device × Bool :=
  if d.state = St.safe then (d, false)
  else if sev = 2 then d.react c tgt
  else if sev = 3 then (d.enterSafe c 1 src tgt, false)
  else (d, false)

/-- A history element pushed while NOTIFY is set (R326). -/
def Device.pushRecord (d : Device) (e : Nat) : Device :=
  if bit (d.get Obj.lookConfig 0) 31 then d.notify Obj.lookHistory e else d

/-- A new history record (R326, Table 15.8), written before its reaction. -/
def Device.newRecord (d : Device) (c : Clk) (r : Report) (sev : Nat) (con esc : Bool) : Device :=
  let n := d.historyCount
  let e := n % 32
  let v := at_ 255 248 r.source + at_ 247 232 r.target + at_ 231 216 r.code + at_ 215 214 sev + at_ 213 213 (b2n con)
    + at_ 212 212 (b2n esc) + at_ 207 192 (min (r.count - 1) 65535) + at_ 159 80 c.time80 + at_ 79 48 n
  let d : Device := (d.set Obj.lookHistory e v).setFld Obj.lookStatus 0 63 32 (n + 1)
  let d : Device := { d with look := { d.look with latest := mapPut d.look.latest r.target (n, c.ticks) } }
  let x := d.reactAt c sev r.source r.target
  (x.1.setFld Obj.lookHistory e 210 210 (b2n x.2)).pushRecord e

/-- A report coalesced into the record of history count `n` (R318). -/
def Device.coalesce (d : Device) (c : Clk) (r : Report) (sev n : Nat) : Device :=
  let e := n % 32
  let d : Device := d.bump Obj.lookCounters 0 6 1 1
  let d : Device := d.setFld Obj.lookHistory e 207 192 (addSat 16 (d.rd Obj.lookHistory e 207 192) r.count)
  let d : Device := d.setFld Obj.lookHistory e 191 160 c.short
  if d.rd Obj.lookHistory e 215 214 < sev then
    let d : Device := (d.setFld Obj.lookHistory e 215 214 sev).setFld Obj.lookHistory e 211 211 1
    let x := d.reactAt c sev r.source r.target
    (x.1.setFld Obj.lookHistory e 210 210 (b2n x.2)).pushRecord e
  else d

/-- An event's effective severity, and whether it is escalated or consequential (R317, R319, R320). -/
def Device.rate (d : Device) (c : Clk) (r : Report) : Nat × Bool × Bool :=
  let sev := d.get Obj.lookSeverity r.source % 4
  if d.escalates c r.target then (min (sev + 1) 3, true, false)
  else if d.shadowed c r.source r.target then (min sev 1, false, true)
  else (sev, false, false)

/-- A dump in SAFE stops when an event blames the Pilot (R331). -/
def Device.stopDump (d : Device) (tgt : Nat) : Device :=
  if d.state = St.safe ∧ tgt = 1 ∧ d.dumping = true then
    { d with look := { d.look with dump := d.look.dump.map fun x => { x with stopped := true } } }
  else d

/-- Reactions that are no longer in progress forgotten. -/
def Device.pruneReactions (d : Device) : Device :=
  { d with look := { d.look with reactions := d.look.reactions.filter d.inProgress } }

/-- An accepted event handled (R317). -/
def Device.handle (d : Device) (c : Clk) (r : Report) : Device :=
  let x := d.rate c r
  let sev := x.1
  let d : Device := (d.tally Obj.lookSourceCount r.source r.count).bump Obj.lookCounters 0 6 0 1
  let d : Device := d.stopDump r.target
  if sev = 0 then d
  else
    let d : Device := if x.2.1 then d.bump Obj.lookCounters 0 6 3 1 else d
    let d : Device := if x.2.2 then d.bump Obj.lookCounters 0 6 2 1 else d
    let d : Device := d.setStatuses r.source r.target sev
    (match d.recordOf c r.target with
      | some n => d.coalesce c r sev n
      | none => d.newRecord c r sev x.2.2 x.2.1).updFaultN

/-- The Lookout accepts the first waiting event (R313, R317). -/
def execLookoutEventAccept (s : State) : Host.Outcome State Fault Refusal :=
  onDev Instr.lookoutEventAccept.wf
    (fun c d =>
      match d.look.waiting with
      | [] => d
      | r :: rest =>
        if d.state = St.reset then d
        else (({ d with look := { d.look with waiting := rest, older := d.look.older - 1 } }).pruneReactions).handle c r) s

/-- ShadowTime after its fence or reset, a unit's shadow ends (R319). -/
def execReactionShadowEnd (target : Nat) (s : State) : Host.Outcome State Fault Refusal :=
  onDev (Instr.reactionShadowEnd target).wf
    (fun _ d =>
      ({ d with look := { d.look with shadows := setDel d.look.shadows target,
                                      issued := mapDel d.look.issued target } }).pruneReactions) s

/-! ### Statuses and their clearing (R323, R324) -/

/-- Whether the condition of a source against a target is present (Table 15.4): those that follow a margin or a window of time are
computed. -/
def Device.conditionNow (d : Device) (c : Clk) (src tgt : Nat) : Bool :=
  let t := unitOf tgt
  let fresh (ts : List Nat) : Nat := (ts.filter (recentTick c)).length
  d.condition src tgt
    || (src == 0x11 && t.1 == .stack && d.stackState t.2 != 0 && d.marginLow t.2)
    || (src == 0x13 && t.1 == .pseudoChannel
        && decide (d.rd Obj.hbmConfig 0 95 88 ≤ fresh (mapGet d.hbm.errors t.2 [])))
    || (src == 0x0B && t.1 == .segment && decide (4 ≤ fresh (mapGet d.buf.segErrors t.2 [])))
    || (src == 0x09 && t.1 == .tcamBank
        && decide (d.get Obj.tcamBankErrorLimit 0 ≤ (d.recentInvalid c (t.2 / 12) (t.2 % 12)).length))

/-- Whether some condition of a source, or against a target, is present (Table 15.7). -/
def Device.sourceCondition (d : Device) (c : Clk) (src : Nat) : Bool :=
  (d.look.conditions.any fun k => k / 65536 == src)
    || (src == 0x11 && (List.range 4).any fun s => d.conditionNow c 0x11 (0x900 + s))
    || (src == 0x13 && (List.range 128).any fun p => d.conditionNow c 0x13 (0x880 + p))
    || (src == 0x0B && (List.range 48).any fun g => d.conditionNow c 0x0B (0x840 + g))
    || (src == 0x09 && (List.range 48).any fun b => d.conditionNow c 0x09 (0x800 + b))
def Device.targetCondition (d : Device) (c : Clk) (tgt : Nat) : Bool :=
  (d.look.conditions.any fun k => k % 65536 == tgt)
    || d.conditionNow c 0x11 tgt || d.conditionNow c 0x13 tgt || d.conditionNow c 0x0B tgt || d.conditionNow c 0x09 tgt

/-- LOOK.SourceStatus and LOOK.UnitStatus as read. -/
def Device.viewSource (d : Device) (c : Clk) (src : Nat) : Nat :=
  putBit (d.get Obj.lookSourceStatus src) 3 (d.sourceCondition c src)
def Device.viewUnit (d : Device) (c : Clk) (tgt : Nat) : Nat :=
  if targetKnown tgt then putBit (putBit (d.get Obj.lookUnitStatus tgt) 3 (d.targetCondition c tgt)) 2 (d.unitFenced tgt) else 0

/-- A write of a status element whose condition is `present` (R324): the status it answers, and the device. -/
def Device.clearStatus (d : Device) (obj e v : Nat) (present : Bool) : Nat × Device :=
  let hit := d.get obj e % 4
  let asked := v % 4
  let both := (if bit hit 0 && bit asked 0 then 1 else 0) + if bit hit 1 && bit asked 1 then 2 else 0
  if both ≠ 0 ∧ present = true then (stCondition, d.bump Obj.lookCounters 0 6 5 1)
  else (0, (d.set obj e (hit - both)).updFaultN)

/-- A write of LOOK.SourceStatus. -/
def Device.writeSourceStatus (d : Device) (c : Clk) (e v : Nat) : Nat × Device :=
  d.clearStatus Obj.lookSourceStatus e v (d.sourceCondition c e)

/-- A write of LOOK.UnitStatus; a reserved target number takes none (R314). -/
def Device.writeUnitStatus (d : Device) (c : Clk) (e v : Nat) : Nat × Device :=
  if targetKnown e then d.clearStatus Obj.lookUnitStatus e v (d.targetCondition c e) else (0, d)

/-- A source number of Table 15.4. -/
def sourceKnown (src : Nat) : Bool :=
  [0x01, 0x02, 0x03, 0x04, 0x05, 0x06, 0x08, 0x09, 0x0A, 0x0B, 0x0C, 0x0D, 0x0E, 0x10, 0x11, 0x12, 0x13, 0x14, 0x15, 0x16, 0x18, 0x19,
    0x1A, 0x1B, 0x1C, 0x20, 0x21, 0x22, 0x23, 0x28, 0x29, 0x30, 0x31, 0x32, 0x38, 0x39, 0x3A].contains src

/-- A write of LOOK.Severity (R315, Table 15.4). -/
def Device.writeSeverity (d : Device) (e v : Nat) : Wr :=
  if 3 < v then .error stType else if sourceKnown e then .ok (d.set Obj.lookSeverity e v) else .ok d

/-- A write of LOOK.Config (Table 15.10). -/
def Device.writeLookConfig (d : Device) (v : Nat) : Wr :=
  let w := fld v 25 16
  let t := fld v 15 0
  if w < 1 ∨ 1000 < w ∨ t < 10 ∨ 10000 < t then .error stType else .ok (d.set Obj.lookConfig 0 (putFld v 30 26 0))

/-- LOOK.Status as read: FAULT_N's level and the gauge of degraded elements (Table 15.9). -/
def Device.viewLook (d : Device) : Nat :=
  putFld (putBit (d.get Obj.lookStatus 0) 87 (d.look.faultN == .low)) 31 0 d.degraded

/-! ### Unfence (R322) -/

/-- Kinds that LOOK.Unfence returns to service (Table 15.5). -/
def unfences (k : UnitKind) : Bool :=
  match k with
  | .engine | .cluster | .tcamBank | .segment | .pseudoChannel | .stack | .feed | .port | .queue => true
  | _ => false

/-- Whether an unfence of a target is refused with BUSY for its statuses or the device's state. -/
def Device.unfenceBusy (d : Device) (t : Nat) : Bool :=
  d.blamed t || d.state == St.safe
    || (match unitOf t with
        | (.stack, s) => (List.range 32).any fun k => d.blamed (0x880 + 32 * s + k)
        | _ => false)

/-- A fenced unit returned. -/
def Device.returnUnit (d : Device) (c : Clk) (t : Nat) : Wr :=
  match unitOf t with
  | (.engine, e) => d.writeEngineFence e 0
  | (.cluster, k) => d.writeFence k 0
  | (.tcamBank, b) => .ok (d.unfenceBank (b / 12) (b % 12))
  | (.segment, g) => .ok (d.returnSegment g)
  | (.pseudoChannel, p) => .ok (d.unfencePc p)
  | (.stack, s) => .ok (d.unfenceStack c s)
  | (.feed, k) => .ok (d.unfenceFeed k)
  | (.port, p) => .ok (d.unfencePort p)
  | (.queue, q) => .ok (d.set Obj.wqFenced q 0)
  | _ => .error stType

/-- A write of LOOK.Unfence. Of a cluster R222 and R414 refuse it whether or not the cluster is fenced, as they do a write of CL.Fence
(`Device.writeFence`, log 58). -/
def Device.writeUnfence (d : Device) (c : Clk) (t : Nat) : Wr :=
  if !unfences (unitOf t).1 then .error stType
  else if d.unfenceBusy t ∨ (match unitOf t with | (.cluster, k) => d.zeroRefused k | _ => false) = true then .error stBusy
  else if !d.unitFenced t then .ok d
  else d.returnUnit c t

/-! ### Asking for a dump (R333) -/

/-- DUMP.Status Trigger and RELEASED: 1 SAFE, 2 REQUESTED. -/
def Device.dumpTrigger (d : Device) : Nat := d.rd Obj.dumpStatus 0 111 104

/-- The stores hold a SAFE dump that is not released. -/
def Device.dumpUnreleased (d : Device) : Bool := d.dumpTrigger == 1 && !bit (d.get Obj.dumpStatus 0) 103

/-- A dump is asked for: it is made at once, or after those asked for before it (R331). -/
def Device.askDump (d : Device) (x : Dumping) : Device :=
  { d with look := if d.look.dump.isSome then { d.look with asked := d.look.asked ++ [x] } else { d.look with dump := some x } }

/-- A write of DUMP.Control. -/
def Device.writeDumpControl (d : Device) (c : Clk) (v : Nat) : Wr :=
  if v = 1 then
    if d.dumpState false = 1 ∨ d.dumpState true = 1 ∨ d.dumpUnreleased = true then .error stBusy
    else .ok (d.askDump { safe := false, time := c.time80, cause := d.rd Obj.lookStatus 0 119 112, onChip := false, hbm := false,
                          stopped := false })
  else if v = 2 then .ok (d.setFld Obj.dumpStatus 0 103 103 1)
  else .error stType

end Sys2Proof.Machine
end

