-- ==== Sys2Proof/Machine/WorkQueue.lean ====
section
/-! DEFINITION. Work queues and completion rings (chapter 03): fetch and prefetch, the checks of a descriptor, the commands over the
tables, the TCAM and the flex counters, chains, fences, completions and their holding buffer, stopping and resetting. -/

namespace Sys2Proof.Machine

/-! ### Regions (R44, Table 2.10) -/

/-- Bytes of bulk region 0x01, the queue store, and 0x02, the HBM queue region. -/
def regionSize (region : Nat) : Nat := if region = 1 then queueStoreSize else if region = 2 then 2 ^ 28 else 0

/-- Blocks of the HBM queue region that a range touches. -/
def regionBlocks (off n : Nat) : List (Nat × Nat) :=
  (List.range ((off % 64 + n + 63) / 64)).map fun i => queueBlock (off + 64 * i)

/-- Bytes read from a region. -/
def Device.regionRead (d : Device) (region off n : Nat) : Bytes :=
  if region = 1 then memRead d.queueStore off n else memRead d.hbm.queueRegion off n

/-- Whether a range of a region can be read: every block of it has a copy that serves and none is poisoned (R251, R267). -/
def Device.regionOk (d : Device) (region off n : Nat) : Bool :=
  region == 1 || !(regionBlocks off n).any d.blockBad

/-- Bytes written to a region; the table region's blocks follow R251, and a block written whole is no longer poisoned (R267). -/
def Device.regionWrite (d : Device) (region off : Nat) (bs : Bytes) : Device :=
  if region = 1 then { d with queueStore := memWriteAll d.queueStore off bs }
  else
    let whole := (List.range (bs.length / 64)).filter fun i => decide (roundUp 64 off + 64 * i + 64 ≤ off + bs.length)
    let d : Device := whole.foldl (fun d i => d.unpoison (queueBlock (roundUp 64 off + 64 * i))) d
    let d : Device := (regionBlocks off bs.length).foldl Device.tableWrite d
    { d with hbm := { d.hbm with queueRegion := memWriteAll d.hbm.queueRegion off bs } }

/-! ### Configuration (Tables 3.2 and 3.3) -/

/-- Fields of WQ.Config. -/
def Device.wqBulk (d : Device) (q : Nat) : Bool := d.rd Obj.wqConfig q 127 120 == 1
def Device.wqCached (d : Device) (q : Nat) : Bool := d.rd Obj.wqConfig q 119 112 == 1
def Device.wqEntries (d : Device) (q : Nat) : Nat := 2 ^ d.rd Obj.wqConfig q 111 104
def Device.wqLimit (d : Device) (q : Nat) : Nat := d.rd Obj.wqConfig q 95 80
def Device.wqBase (d : Device) (q : Nat) : Nat := d.rd Obj.wqConfig q 63 32

/-- The ring of a queue, as a per-ring element (R43). -/
def Device.wqRing (d : Device) (q : Nat) : Nat := q / 16 * 8 + d.rd Obj.wqConfig q 103 96 % 8

/-- A queue's region. -/
def Device.wqRegion (d : Device) (q : Nat) : Nat := if d.wqBulk q then 2 else 1

/-- Fields of CQ.Config. -/
def Device.cqOn (d : Device) (r : Nat) : Bool := bit (d.get Obj.cqConfig r) 127
def Device.cqEntries (d : Device) (r : Nat) : Nat := 2 ^ d.rd Obj.cqConfig r 119 112
def Device.cqBase (d : Device) (r : Nat) : Nat := d.rd Obj.cqConfig r 63 32

/-- The descriptors of a queue that are fetched and not completed. -/
def Device.wqFetched (d : Device) (q : Nat) : List Fetched := mapGet d.wq.fetched q []

/-- WQ.Outstanding and WQ.Idle, CQ.Held. -/
def Device.viewOutstanding (d : Device) (q : Nat) : Nat := (d.wqFetched q).length
def Device.viewIdle (d : Device) (q : Nat) : Nat := b2n (d.wqFetched q).isEmpty
def Device.viewHeld (d : Device) (r : Nat) : Nat := (mapGet d.wq.held r []).length

/-- The fetched descriptors of a queue set. -/
def Device.setFetched (d : Device) (q : Nat) (xs : List Fetched) : Device :=
  { d with wq := { d.wq with fetched := mapSet d.wq.fetched q xs [] } }

/-- The work of the queues runs: in every state but RESET (R328 lets fetched work complete in SAFE). -/
def Device.pilotRuns (d : Device) : Bool := d.pwr.pilot == .running && !d.sx.pilotHalted && d.state != St.reset

/-! ### Descriptors (Table 3.4, R49, R50, R116) -/

/-- Fields of a descriptor. -/
def dOp (v : Nat) : Nat := fld v 511 504
def dChain (v : Nat) : Bool := bit v 503
def dFence (v : Nat) : Bool := bit v 502
def dSuppress (v : Nat) : Bool := bit v 501
def dIndirect (v : Nat) : Bool := bit v 500
def dTag (v : Nat) : Nat := fld v 495 480
def dTable (v : Nat) : Nat := fld v 479 472
def dScope (v : Nat) : Nat := fld v 471 464
def dLength (v : Nat) : Nat := fld v 463 448
def dIndex (v : Nat) : Nat := fld v 447 416
def dCount (v : Nat) : Nat := fld v 415 384
def dDataRegion (v : Nat) : Nat := fld v 383 376
def dDataOffset (v : Nat) : Nat := fld v 351 320
def dResultRegion (v : Nat) : Nat := fld v 319 312
def dResultOffset (v : Nat) : Nat := fld v 287 256
def dInline (v : Nat) : Nat := v % 2 ^ 256

/-- Tables by kind (Table 3.6). -/
def isTcam (t : Nat) : Bool := decide (0x10 ≤ t ∧ t < 0x1C)
def isDirect (t : Nat) : Bool := decide (4 ≤ t ∧ t ≤ 8)

/-- A table and a scope allowed for an entry command: 1 INSERT, 2 UPDATE, 3 DELETE, 4 SEARCH, 5 NEXT (Table 3.6). -/
def scopeOk (op table scope : Nat) : Bool :=
  if table = 1 then decide (scope < 4) || (scope == 0xFF && decide (op ≤ 3))
  else if 2 ≤ table ∧ table ≤ 9 then scope == 0xFF
  else isTcam table && decide (scope < 4)

/-- Bytes of an entry command's operand (Tables 6.2 and 7.5). -/
def Device.operandBytes (d : Device) (op table scope index : Nat) : Nat :=
  if isTcam table then d.tcOperand scope (table - 0x10) op index
  else keyBytes table + if op = 1 ∨ op = 2 then dataBytes table else 0

/-- An entry command's Index is one its table admits (R116, R148). -/
def Device.indexOk (d : Device) (op table scope index : Nat) : Bool :=
  if isTcam table then d.tcIndexOk scope (table - 0x10) op index
  else if isDirect table then decide (index < directSize table)
  else index == 0

/-- Whether operand bytes fit in Inline; a TCAM key or search key never does (Tables 6.2 and 7.5). -/
def fitsInline (table index n : Nat) : Bool := decide (n ≤ 32) && !(isTcam table && tcPart index != 0)

/-- The key and the data of an operand lie in the ranges their table states (R116). -/
def operandOk (op table : Nat) (bs : Bytes) : Bool :=
  isTcam table ||
    (keyOk table (beAt bs 0 (keyBytes table)) && ((op != 1 && op != 2) || dataOk table (beAt bs (keyBytes table) (dataBytes table))))

/-- An operand carried in Inline or in a region (R49, R116). -/
def Device.operandPlaced (d : Device) (v : Nat) : Bool :=
  let n := d.operandBytes (dOp v) (dTable v) (dScope v) (dIndex v)
  if dIndirect v then
    dInline v == 0 && dLength v == n && decide (1 ≤ n ∧ n ≤ 4096) && (dDataRegion v == 1 || dDataRegion v == 2)
      && dDataOffset v % 64 == 0 && decide (dDataOffset v + n ≤ regionSize (dDataRegion v))
  else
    dLength v == 0 && dDataRegion v == 0 && dDataOffset v == 0 && (n == 0 || fitsInline (dTable v) (dIndex v) n)
      && dInline v % 2 ^ (256 - 8 * min n 32) == 0

/-- A result buffer of `n` bytes within its region. -/
def resultPlaced (v n : Nat) : Bool :=
  (dResultRegion v == 1 || dResultRegion v == 2) && dResultOffset v % 64 == 0
    && decide (dResultOffset v + n ≤ regionSize (dResultRegion v))

/-- No result buffer, no operand data, no Inline. -/
def noResult (v : Nat) : Bool := dResultRegion v == 0 && dResultOffset v == 0
def noData (v : Nat) : Bool := !dIndirect v && dLength v == 0 && dDataRegion v == 0 && dDataOffset v == 0

/-- The fields an opcode uses are in range, and the others are zero (Table 3.7). -/
def Device.fieldsOk (d : Device) (v : Nat) : Bool :=
  let t := dTable v
  let s := dScope v
  match dOp v with
  | 0x00 | 0x08 => t == 0 && s == 0 && dIndex v == 0 && dCount v == 0 && noData v && noResult v && dInline v == 0
  | 0x01 | 0x02 | 0x03 =>
    scopeOk (dOp v) t s && d.indexOk (dOp v) t s (dIndex v) && dCount v == 0 && d.operandPlaced v && noResult v
  | 0x04 => scopeOk 4 t s && d.indexOk 4 t s (dIndex v) && dCount v == 0 && d.operandPlaced v && resultPlaced v 64
  | 0x05 =>
    scopeOk 5 t s && dIndex v == 0 && decide (1 ≤ dCount v ∧ dCount v ≤ 1024) && noData v && dInline v % 2 ^ 208 == 0
      && resultPlaced v (64 * dCount v)
  | 0x06 =>
    t == 1 && scopeOk 1 t s && decide (dIndex v < 256) && dCount v == 0 && noData v && dInline v % 2 ^ 255 == 0 && noResult v
  | 0x07 =>
    t == 0 && s == 0 && dIndex v == 0 && dCount v == 0 && !dIndirect v && dLength v == 0 && dDataRegion v == 1
      && dDataOffset v % 64 == 0 && decide (dDataOffset v + 64 ≤ queueStoreSize) && noResult v && dInline v == 0
  | 0x10 =>
    t == 0x20 && s == 0xFF && decide (1 ≤ dCount v ∧ dCount v ≤ 4096) && decide (dIndex v + dCount v ≤ 67108864) && noData v
      && dInline v % 2 ^ 255 == 0 && resultPlaced v (16 * dCount v)
  | _ => false

/-- A descriptor is not malformed by R50. -/
def Device.descOk (d : Device) (v : Nat) : Bool :=
  fld v 499 496 == 0 && fld v 375 352 == 0 && fld v 311 288 == 0 && (dChain v == (dOp v == 7)) && d.fieldsOk v

/-! ### Fetch (R51, R60, R62, R64, R328) -/

/-- The byte offset of the entry with a count (R46). -/
def Device.entryAt (d : Device) (q count : Nat) : Nat := d.wqBase q + 64 * (count % d.wqEntries q)

/-- A queue may fetch its next entry: enabled, posted, below its limit, its ring not stalled, and the device not SAFE. -/
def Device.mayFetch (d : Device) (q : Nat) : Bool :=
  d.pilotRuns && d.get Obj.wqEnable q == 1 && d.get Obj.wqHead q != d.get Obj.wqDoorbell q
    && decide ((d.wqFetched q).length < d.wqLimit q) && d.viewHeld (d.wqRing q) == 0 && d.state != St.safe

/-- The prefetched copy of an entry. -/
def Device.cached (d : Device) (q count : Nat) : Option Nat :=
  ((mapGet d.wq.cache q []).find? fun x => x.1 == count).map Prod.snd

/-- A queue's cache set. -/
def Device.setCache (d : Device) (q : Nat) (xs : List (Nat × Nat)) : Device :=
  { d with wq := { d.wq with cache := mapSet d.wq.cache q xs [] } }

/-- A fetched entry joins the queue; a malformed one is finished at once (R50). -/
def Device.fetched (d : Device) (q count v : Nat) : Device :=
  let d : Device := (d.set Obj.wqHead q ((count + 1) % 2 ^ 32)).setCache q ((mapGet d.wq.cache q []).filter fun x => x.1 != count)
  if d.descOk v then d.setFetched q (d.wqFetched q ++ [{ count := count, raw := v, stage := .waiting }])
  else
    (d.tally Obj.wqMalformed q 1).setFetched q (d.wqFetched q ++ [{ count := count, raw := v, stage := .finished csMalformed 0 }])

/-- The reading of an entry or record from a queue's memory fails: WQ_FETCH blames the queue (Table 15.4). -/
def Device.fetchFails (d : Device) (q entry : Nat) : Device := d.raise 0x20 (0xB00 + q) entry

/-- What the code finds in the blocks of the HBM queue region that an entry of a queue lies in, as it is read (R265, R267). -/
def Device.entrySeen (d : Device) (c : Clk) (q off : Nat) (blocks : List BlockFound) : Device :=
  if d.wqRegion q = 2 then d.readFound c (fun pb => (regionBlocks off 64).contains pb) blocks else d

/-- A read of a queue's entry fails: it timed out, or the queue store's code could not correct it; an entry in HBM is judged by what its
blocks show. -/
def Device.entryFails (d : Device) (q : Nat) : FetchEnd → Bool
  | .ok => false
  | .timeout => true
  | .uncorrectable => d.wqRegion q == 1

/-- The crossings through which an entry of a queue is read: those of the stacks that serve it, of a queue in HBM (R338, log 34). -/
def Device.entryCrossings (d : Device) (q off : Nat) : List Nat :=
  if d.wqRegion q = 2 then d.blockCrossings (regionBlocks off 64) else []

/-- The next entry of a queue is fetched, from its cache or from memory; `blocks` is what the code finds in its blocks in HBM (R265). A
read that fails, or that its crossing cannot carry, fetches nothing (log 32); one in HBM that is not done within 2 µs is an access timeout of
its crossing too (R341). -/
def execDescriptorFetch (queue : Nat) (found : FetchEnd) (blocks : List BlockFound) (s : State) : Host.Outcome State Fault Refusal :=
  onDev (Instr.descriptorFetch queue found blocks).wf
    (fun c d =>
      if d.mayFetch queue then
        let n := d.get Obj.wqHead queue
        match d.cached queue n with
        | some v => d.fetched queue n v
        | none =>
          let off := d.entryAt queue n
          let xs := d.entryCrossings queue off
          match d.firstBlocked xs with
          | some k => (d.accessRefused k 0).fetchFails queue (n % d.wqEntries queue)
          | none =>
            let d := (if found = .timeout then xs.foldl (fun d k => d.accessTimeout k 0) d else d.accessesDone xs).entrySeen c queue off blocks
            if d.entryFails queue found = false ∧ d.regionOk (d.wqRegion queue) off 64 = true then
              d.fetched queue n (beNat (d.regionRead (d.wqRegion queue) off 64))
            else d.fetchFails queue (n % d.wqEntries queue)
      else d) s

/-- The next entry beyond the doorbell that a cached queue reads ahead (R62, Table 3.11). -/
def Device.nextPrefetch (d : Device) (q : Nat) : Option Nat :=
  let bell := d.get Obj.wqDoorbell q
  let ahead := (mapGet d.wq.cache q []).filter fun x => decide (subMod 32 x.1 bell < 2 ^ 31)
  let k := ahead.length
  if k < 64 ∧ subMod 32 (bell + k) (d.get Obj.wqHead q) < d.wqEntries q then some ((bell + k) % 2 ^ 32) else none

/-- A cached queue reads one entry ahead; `blocks` is what the code finds in its blocks in HBM (R265, R267). A read that fails is reported as a
fetch's is (Table 15.4), and nothing is cached (log 32). Whether a queue whose ring is stalled reads ahead R60 and R62 leave open: it does
(DESIGN CHOICE, log 86). -/
def execCachePrefetch (queue : Nat) (blocks : List BlockFound) (s : State) : Host.Outcome State Fault Refusal :=
  onDev (Instr.cachePrefetch queue blocks).wf
    (fun c d =>
      if d.pilotRuns && d.get Obj.wqEnable queue == 1 && d.wqCached queue && d.state != St.safe then
        match d.nextPrefetch queue with
        | some n =>
          let off := d.entryAt queue n
          let xs := d.entryCrossings queue off
          match d.firstBlocked xs with
          | some k => (d.accessRefused k 0).fetchFails queue (n % d.wqEntries queue)
          | none =>
            let d := (d.accessesDone xs).entrySeen c queue off blocks
            if d.regionOk (d.wqRegion queue) off 64 then
              d.setCache queue (mapGet d.wq.cache queue [] ++ [(n, beNat (d.regionRead (d.wqRegion queue) off 64))])
            else d.fetchFails queue (n % d.wqEntries queue)
        | none => d
      else d) s

/-! ### Order (R51) -/

/-- What an entry command addresses: table, scope, and key or index; the parts of a TCAM row are one entry (R149). -/
structure Target where
  table : Nat
  scope : Nat
  key : Nat
deriving DecidableEq, Repr

/-- Whether two commands address the same entry: the same table, a common slice, and the same key or index. -/
def Target.same (a b : Target) : Bool :=
  a.table == b.table && (a.scope == b.scope || a.scope == 0xFF || b.scope == 0xFF) && a.key == b.key

/-- The target of an entry command with its operand. -/
def targetOf (table scope index : Nat) (operand : Bytes) : Target :=
  { table := table, scope := scope,
    key := if isTcam table then tcRow index else if isDirect table then index else cleanKey table (beAt operand 0 (keyBytes table)) }

/-- A descriptor's operand bytes. -/
def Device.operand (d : Device) (v : Nat) : Bytes :=
  let n := d.operandBytes (dOp v) (dTable v) (dScope v) (dIndex v)
  if dIndirect v then d.regionRead (dDataRegion v) (dDataOffset v) n else (natBe 32 (dInline v)).take n

/-- Fields of a chain record (Table 3.8). -/
def rEnd (v : Nat) : Bool := bit v 511
def rLast (v : Nat) : Bool := bit v 510
def rNext (v : Nat) : Nat := fld v 470 448
def rOp (v : Nat) : Nat := fld v 447 440
def rTable (v : Nat) : Nat := fld v 439 432
def rScope (v : Nat) : Nat := fld v 431 424
def rIndex (v : Nat) : Nat := fld v 415 384

/-- A chain record read whole. -/
def Device.record (d : Device) (off : Nat) : Nat := beNat (memRead d.queueStore off 64)

/-- The data bytes of a record. -/
def recordData (v : Nat) : Bytes := natBe 48 (v % 2 ^ 384)

/-- Whether the linked records from a record on address an entry. -/
def Device.chainAddresses (d : Device) (t : Target) : Nat → Nat → Bool
  | 0, _ => false
  | fuel + 1, off =>
    let v := d.record off
    (decide (1 ≤ rOp v ∧ rOp v ≤ 3) && (targetOf (rTable v) (rScope v) (rIndex v) (recordData v)).same t)
      || (!rEnd v && rNext v % 64 == 0 && Device.chainAddresses d t fuel (rNext v))

/-- Whether an earlier descriptor still holds back one that addresses `t`: one that has not started, or a chain whose linked records
address the same entry. -/
def Device.holdsBack (d : Device) (t : Option Target) (x : Fetched) : Bool :=
  match x.stage with
  | .waiting => true
  | .running off _ _ => match t with | some t => d.chainAddresses t 131072 off | none => false
  | _ => false

/-- The target of a descriptor, if it is an entry command. -/
def Device.descTarget (d : Device) (v : Nat) : Option Target :=
  if 1 ≤ dOp v ∧ dOp v ≤ 4 then some (targetOf (dTable v) (dScope v) (dIndex v) (d.operand v)) else none

/-- The waiting descriptor with a count, if it may start: every earlier one has started and none with its entry is unfinished, or,
for FENCE and FENCE_BEFORE, every earlier one has completed. -/
def Device.startable (d : Device) (q count : Nat) : Option Fetched :=
  let xs := d.wqFetched q
  match findFrom (fun x => x.count == count && x.stage == .waiting) 0 xs with
  | none => none
  | some (i, x) =>
    if dOp x.raw = 8 ∨ dFence x.raw = true then (if i = 0 then some x else none)
    else if (xs.take i).any (d.holdsBack (d.descTarget x.raw)) then none
    else some x

/-! ### Finishing (R50, R52) -/

/-- A descriptor's stage set: of equal ones, a queue stopped and enabled again having fetched the same entry twice, only the first. -/
def Device.setStage (d : Device) (q : Nat) (x : Fetched) (st : Stage) : Device :=
  d.setFetched q ((d.wqFetched q).replace x { x with stage := st })

/-- A descriptor finished with a status and a result: MALFORMED is counted, and one that suppresses its OK leaves the queue. -/
def Device.finish (d : Device) (q : Nat) (x : Fetched) (status result : Nat) : Device :=
  if status = csOk ∧ dSuppress x.raw then d.setFetched q ((d.wqFetched q).erase x)
  else
    let d : Device := if status = csMalformed then d.tally Obj.wqMalformed q 1 else d
    d.setStage q x (.finished status result)

/-! ### The crossings of a command (R341) -/

/-- The flow slots that a command with a key reads (R128, R129): those an INSERT reads; else slot h1, and h2 unless h1 decides. -/
def Device.flowReads (d : Device) (op key : Nat) : List Nat :=
  let k := cleanKey 9 key
  let s := flowSlots k
  if op = 1 then d.insertReads k
  else if !d.slotReadable k (op == 2) s.1 || d.slotHas s.1 k then [s.1] else [s.1, s.2]

/-- The flow slots that a command with a key writes where it ends with a status and a result (R128, R129): an INSERT those of the path it takes,
an UPDATE or a DELETE the slot it found, and none where it does not end with OK. -/
def Device.flowWrites (d : Device) (op key status result : Nat) : List Nat :=
  let s := flowSlots (cleanKey 9 key)
  let paths := d.flowPaths s.1 s.2
  if status ≠ csOk ∨ op = 4 then []
  else if op = 1 then (paths[Config.freeValue d.free % paths.length]?).getD []
  else [result]

/-- The crossings of a flow command (1 INSERT, 2 UPDATE, 3 DELETE, 4 SEARCH) that ends with a status and a result: of the reads it makes and
of its writes, which go to both stacks of a pair (R128, R251). -/
def Device.flowCrossings (d : Device) (op key status result : Nat) : List Nat :=
  (d.blockCrossings ((d.flowReads op key).map flowBlock)
    ++ d.writeCrossings ((d.flowWrites op key status result).map flowBlock)).eraseDups

/-- The blocks of the flow slots that NEXT examines; none from an invalid cursor (R133). -/
def Device.nextBlocks (d : Device) (v : Nat) : List (Nat × Nat) :=
  match cursorStart 0 (tableSize 9) (dInline v / 2 ^ 208) with
  | none => []
  | some start =>
    (List.range ((nextFrom (tableSize 9) start (dCount v) (d.positions 9 0xFF start)).2 - start)).map fun i => flowBlock (start + i)

/-- The crossings of what a command that ends with a status and a result does to its table: the pipeline's, or those of the stacks that hold
the flow slots or flex counters it reads and writes. A FLEX_READ with CLEAR writes its counters too (R361). -/
def Device.tableCrossings (d : Device) (v status result : Nat) : List Nat :=
  let counters := (List.range (dCount v)).map fun i => flexBlock (dIndex v + i)
  if dTable v = 9 then
    if dOp v = 5 then d.blockCrossings (d.nextBlocks v) else d.flowCrossings (dOp v) (beAt (d.operand v) 0 40) status result
  else if dTable v = 0x20 then
    d.blockCrossings counters ++ if bit (dInline v) 255 ∧ status = csOk then d.writeCrossings counters else []
  else [0]

/-- The crossings through which a command reads its operand: those of the stacks that serve it, in the HBM queue region. -/
def Device.operandCrossings (d : Device) (v : Nat) : List Nat :=
  if dIndirect v && dDataRegion v == 2 then
    d.blockCrossings (regionBlocks (dDataOffset v) (d.operandBytes (dOp v) (dTable v) (dScope v) (dIndex v)))
  else []

/-- Bytes that a command which ends with a status and a result writes into its result buffer: an image, the images returned, or Count
counters (Table 3.7); none where it does not end with OK. -/
def resultBytes (v status result : Nat) : Nat :=
  if status ≠ csOk then 0
  else if dOp v = 4 then 64 else if dOp v = 5 then 64 * (result / 2 ^ 48) else if dOp v = 0x10 then 16 * dCount v else 0

/-- The crossings of what a command writes into its result buffer in the HBM queue region. -/
def Device.resultCrossings (d : Device) (v status result : Nat) : List Nat :=
  if dResultRegion v = 2 ∧ resultBytes v status result ≠ 0 then
    d.writeCrossings (regionBlocks (dResultOffset v) (resultBytes v status result))
  else []

/-- The crossings of the accesses that a command makes which ends with a status and a result (Tables 3.10 and 6.13: TIMEOUT comes of an
access it makes). -/
def Device.cmdCrossings (d : Device) (v status result : Nat) : List Nat :=
  (d.operandCrossings v ++ d.tableCrossings v status result ++ d.resultCrossings v status result).eraseDups

/-- The table blocks that a command can read: those of its operand in the HBM queue region, of the flow table, and of the flex counters it
names (R249, R361). -/
def Device.cmdReads (d : Device) (v : Nat) (pb : Nat × Nat) : Bool :=
  (dIndirect v && dDataRegion v == 2
      && (regionBlocks (dDataOffset v) (d.operandBytes (dOp v) (dTable v) (dScope v) (dIndex v))).contains pb)
    || (dTable v == 9 && decide (pb.2 < 0x400000))
    || (dTable v == 0x20 && (List.range (dCount v)).any fun i => flexBlock (dIndex v + i) == pb)

/-- The device once the code has seen the blocks that a descriptor's command reads (R265). -/
def Device.seen (d : Device) (c : Clk) (x : Fetched) (found : List BlockFound) : Device := d.readFound c (d.cmdReads x.raw) found

/-- A descriptor's operand can be read (R267). -/
def Device.operandRead (d : Device) (v : Nat) : Bool :=
  !dIndirect v || d.regionOk (dDataRegion v) (dDataOffset v) (d.operandBytes (dOp v) (dTable v) (dScope v) (dIndex v))

/-- A command's fields and operand are in range as it starts (R50, R116): what its fields may hold follows TCAM.Table, which may have been
written since the fetch, and is held against it again (R148, DEDUCED, log 41). -/
def operandFits (d : Device) (v : Nat) : Bool :=
  d.descOk v && (!decide (1 ≤ dOp v ∧ dOp v ≤ 4) || operandOk (dOp v) (dTable v) (d.operand v))

/-- A descriptor ends with TIMEOUT at a crossing that cannot carry an access of its (R341). -/
def Device.timesOut (d : Device) (q : Nat) (x : Fetched) (k : Nat) : Device := (d.accessRefused k 0).finish q x csTimeout 0

/-- A command run with what the code finds in the blocks it reads (R265): TIMEOUT where a crossing cannot carry its operand (R341), FENCED
where the operand cannot be read (R267), MALFORMED where a key or data field is out of range (R116), TIMEOUT where a crossing of its other
accesses cannot carry them, else what `f` does, each of its crossings counting the request acknowledged (R339, log 34). One that needs a
crossing whose Pilot side is being reset waits (R13, log 48). -/
def Device.runCmd (d : Device) (c : Clk) (q : Nat) (x : Fetched) (found : List BlockFound) (f : Device → Nat → Outcome) : Device :=
  let v := x.raw
  let e := d.seen c x found
  let r := f e v
  let xs := e.cmdCrossings v r.2.1 r.2.2
  if d.awaitsReset (d.operandCrossings v) then d
  else match d.firstBlocked (d.operandCrossings v) with
    | some k => d.timesOut q x k
    | none =>
      if e.operandRead v = false then e.finish q x csFenced 0
      else if operandFits e v = false then e.finish q x csMalformed 0
      else if e.awaitsReset xs then d
      else match e.firstBlocked xs with
        | some k => e.timesOut q x k
        | none => (r.1.accessesDone xs).finish q x r.2.1 r.2.2

/-- A command of a queue started: `p` says which descriptors the command is for, `found` what the blocks it reads show. -/
def Device.command (d : Device) (c : Clk) (q count : Nat) (found : List BlockFound) (p : Nat → Bool) (f : Device → Nat → Outcome) :
    Device :=
  match d.startable q count with
  | some x => if p x.raw then d.runCmd c q x found f else d
  | none => d

/-- Whether a descriptor is an entry command with an opcode on tables 0x01 to 0x09. -/
def isTable (op v : Nat) : Bool := dOp v == op && decide (1 ≤ dTable v ∧ dTable v ≤ 9)

/-- Whether it is one on a TCAM table with a part. -/
def isPart (op part v : Nat) : Bool := dOp v == op && isTcam (dTable v) && tcPart (dIndex v) == part

/-- Key and data of a descriptor's operand. -/
def Device.keyOf (d : Device) (v : Nat) : Nat := beAt (d.operand v) 0 (keyBytes (dTable v))
def Device.dataOf (d : Device) (v : Nat) : Nat := beAt (d.operand v) (keyBytes (dTable v)) (dataBytes (dTable v))

/-! ### Entry commands (R132) -/

/-- NOP completes OK with result 0. -/
def execTableNop (queue count : Nat) (s : State) : Host.Outcome State Fault Refusal :=
  onDev (Instr.tableNop queue count).wf
    (fun _ d => match d.startable queue count with
      | some x => if dOp x.raw = 0 then d.finish queue x csOk 0 else d
      | none => d) s

/-- INSERT. -/
def execTableInsert (queue count : Nat) (found : List BlockFound) (s : State) : Host.Outcome State Fault Refusal :=
  onDev (Instr.tableInsert queue count found).wf
    (fun c d => d.command c queue count found (isTable 1)
      (fun d v => d.tblInsert c (dTable v) (dScope v) (dIndex v) (d.keyOf v) (d.dataOf v))) s

/-- UPDATE. -/
def execTableUpdate (queue count : Nat) (found : List BlockFound) (s : State) : Host.Outcome State Fault Refusal :=
  onDev (Instr.tableUpdate queue count found).wf
    (fun c d => d.command c queue count found (isTable 2)
      (fun d v => d.tblUpdate c (dTable v) (dScope v) (dIndex v) (d.keyOf v) (d.dataOf v))) s

/-- DELETE. -/
def execTableDelete (queue count : Nat) (found : List BlockFound) (s : State) : Host.Outcome State Fault Refusal :=
  onDev (Instr.tableDelete queue count found).wf
    (fun c d => d.command c queue count found (isTable 3)
      (fun d v => d.tblDelete (dTable v) (dScope v) (dIndex v) (d.keyOf v))) s

/-- The result buffer of a descriptor written. -/
def Device.result (d : Device) (v : Nat) (bs : Bytes) : Device := d.regionWrite (dResultRegion v) (dResultOffset v) bs

/-- SEARCH (R117): the entry image into the result buffer. -/
def Device.searchCmd (d : Device) (v : Nat) : Outcome :=
  match d.tblSearch (dTable v) (dScope v) (dIndex v) (d.keyOf v) with
  | .error st => (d, st, 0)
  | .ok i =>
    match d.imageAt (dTable v) (dScope v) i with
    | some bs => (d.result v bs, csOk, i)
    | none => (d, csNotFound, 0)

/-- SEARCH of a table. -/
def execTableSearch (queue count : Nat) (found : List BlockFound) (s : State) : Host.Outcome State Fault Refusal :=
  onDev (Instr.tableSearch queue count found).wf (fun c d => d.command c queue count found (isTable 4) Device.searchCmd) s

/-- The positions that NEXT can return of a table, its size, and the image at a position. -/
def Device.nextHeld (d : Device) (table scope start : Nat) : List Nat :=
  if isTcam table then d.tcHeld scope (table - 0x10) start else d.positions table scope start
def nextSize (table : Nat) : Nat := if isTcam table then 24576 else tableSize table
def Device.nextImage (d : Device) (table scope i : Nat) : Bytes :=
  if isTcam table then controlImage (d.tcamRow scope (i / 2048) (i % 2048)) i
  else (d.imageAt table scope i).getD []

/-- NEXT (R133): up to Count images into the result buffer, and the next cursor. A flow slot it examines that cannot be read ends it with
FENCED (R128, R267, Table 6.13). -/
def Device.nextCmd (d : Device) (v : Nat) : Outcome :=
  let t := dTable v
  let s := dScope v
  let gen := d.generation t s
  match cursorStart gen (nextSize t) (dInline v / 2 ^ 208) with
  | none => (d, csCursor, 0)
  | some start =>
    let r := nextFrom (nextSize t) start (dCount v) (d.nextHeld t s start)
    if t = 9 ∧ ((List.range (r.2 - start)).any fun i => d.slotBad (start + i)) = true then (d, csFenced, 0)
    else
      let bs := (r.1.map (d.nextImage t s)).flatten
      (d.result v bs, csOk, r.1.length * 2 ^ 48 + cursorAfter gen (nextSize t) r.2)

/-- NEXT of a table or of a TCAM table. -/
def execTableNext (queue count : Nat) (found : List BlockFound) (s : State) : Host.Outcome State Fault Refusal :=
  onDev (Instr.tableNext queue count found).wf (fun c d => d.command c queue count found (fun v => dOp v == 5) Device.nextCmd) s

/-- FLUSH_BY_PORT (R134). -/
def execFlushByPort (queue count : Nat) (s : State) : Host.Outcome State Fault Refusal :=
  onDev (Instr.flushByPort queue count).wf
    (fun c d => d.command c queue count [] (fun v => dOp v == 6)
      (fun d v => let r := d.flushPort (dScope v) (dIndex v) (bit (dInline v) 255); (r.1, csOk, r.2))) s

/-- The counters of a FLEX_READ read, and cleared when asked (R361). -/
def Device.flexRead (d : Device) (n : Nat) (clear : Bool) : Nat → Bytes × Device
  | 0 => ([], d)
  | k + 1 =>
    let x := d.flexValue n
    let d1 := if clear then d.flexClear n else d
    let r := Device.flexRead d1 (n + 1) clear k
    (natBe 8 x.1 ++ natBe 8 x.2 ++ r.1, r.2)

/-- FLEX_READ (R361): a counter in a block that cannot be read ends it with FENCED, with nothing written or cleared. -/
def execFlexRead (queue count : Nat) (found : List BlockFound) (s : State) : Host.Outcome State Fault Refusal :=
  onDev (Instr.flexRead queue count found).wf
    (fun c d => d.command c queue count found (fun v => dOp v == 0x10)
      (fun d v =>
        if (List.range (dCount v)).any (fun i => d.blockBad (flexBlock (dIndex v + i))) then (d, csFenced, 0)
        else
          let r := d.flexRead (dIndex v) (bit (dInline v) 255) (dCount v)
          (r.2.result v r.1, csOk, dCount v))) s

/-! ### TCAM commands (R149) -/

/-- The TCAM table a descriptor names, and its row. -/
def dTcam (v : Nat) : Nat := dTable v - 0x10
def dRow (v : Nat) : Nat := tcRow (dIndex v)

/-- INSERT CONTROL. -/
def execTcamInsertControl (queue count : Nat) (found : List BlockFound) (s : State) : Host.Outcome State Fault Refusal :=
  onDev (Instr.tcamInsertControl queue count found).wf
    (fun c d => d.command c queue count found (isPart 1 0)
      (fun d v => d.tcInsert c (dScope v) (dRow v) (beAt (d.operand v) 0 16))) s

/-- UPDATE CONTROL. -/
def execTcamUpdateControl (queue count : Nat) (found : List BlockFound) (s : State) : Host.Outcome State Fault Refusal :=
  onDev (Instr.tcamUpdateControl queue count found).wf
    (fun c d => d.command c queue count found (isPart 2 0)
      (fun d v => d.tcUpdate c (dScope v) (dRow v) (beAt (d.operand v) 0 16))) s

/-- DELETE CONTROL. -/
def execTcamDeleteControl (queue count : Nat) (s : State) : Host.Outcome State Fault Refusal :=
  onDev (Instr.tcamDeleteControl queue count).wf
    (fun c d => d.command c queue count [] (isPart 3 0) (fun d v => d.tcDelete c (dScope v) (dRow v))) s

/-- UPDATE KEY. -/
def execTcamUpdateKey (queue count : Nat) (found : List BlockFound) (s : State) : Host.Outcome State Fault Refusal :=
  onDev (Instr.tcamUpdateKey queue count found).wf
    (fun c d => d.command c queue count found (isPart 2 1)
      (fun d v => d.tcKey c (dScope v) (dRow v) (tcComp (dIndex v)) (beAt (d.operand v) 0 40))) s

/-- SEARCH CONTROL or SEARCH KEY: the part's image into the result buffer. -/
def Device.tcReadCmd (d : Device) (v : Nat) : Outcome :=
  match d.tcRead (dScope v) (dIndex v) with
  | .error st => (d, st, 0)
  | .ok bs => (d.result v bs, csOk, dRow v)

/-- SEARCH CONTROL. -/
def execTcamSearchControl (queue count : Nat) (s : State) : Host.Outcome State Fault Refusal :=
  onDev (Instr.tcamSearchControl queue count).wf (fun c d => d.command c queue count [] (isPart 4 0) Device.tcReadCmd) s

/-- SEARCH KEY. -/
def execTcamSearchKey (queue count : Nat) (s : State) : Host.Outcome State Fault Refusal :=
  onDev (Instr.tcamSearchKey queue count).wf (fun c d => d.command c queue count [] (isPart 4 1) Device.tcReadCmd) s

/-- SEARCH LOOKUP: the winning row's image and index; `winner` is what that row's check finds. -/
def execTcamSearchLookup (queue count : Nat) (winner : WinnerCheck) (found : List BlockFound) (s : State) :
    Host.Outcome State Fault Refusal :=
  onDev (Instr.tcamSearchLookup queue count winner found).wf
    (fun c d => d.command c queue count found (isPart 4 3)
      (fun d v =>
        let w := tcWidth (d.tcamTable (dScope v) (dTcam v))
        let r := d.tcLookup c (dScope v) (dTcam v) (beAt (d.operand v) 0 (20 * w)) winner
        match r.2 with
        | .error st => (r.1, st, 0)
        | .ok (bs, i) => (r.1.result v bs, csOk, i))) s

/-! ### Fences (R51, R138) -/

/-- A FENCE starts: it waits for every packet that has entered a slice and not yet the traffic manager. -/
def execFence (queue count : Nat) (s : State) : Host.Outcome State Fault Refusal :=
  onDev (Instr.fence queue count).wf
    (fun _ d => match d.startable queue count with
      | some x =>
        if dOp x.raw = 8 then
          d.setStage queue x (.fencing ((d.sl.flights.filter fun f => !f.lost).map Flight.id))
        else d
      | none => d) s

/-- Packets of a FENCE that have neither entered the traffic manager nor been discarded. -/
def Device.fenceWaits (d : Device) (ids : List Nat) : Bool :=
  d.sl.flights.any fun f => ids.contains f.id && !f.lost

/-- A FENCE that waits for nothing any more completes. -/
def execFenceComplete (queue count : Nat) (s : State) : Host.Outcome State Fault Refusal :=
  onDev (Instr.fenceComplete queue count).wf
    (fun _ d =>
      match (d.wqFetched queue).find? fun x => x.count == count && (match x.stage with | .fencing _ => true | _ => false) with
      | some x => match x.stage with
        | .fencing ids => if d.fenceWaits ids then d else d.finish queue x csOk 0
        | _ => d
      | none => d) s

/-! ### Chains (R53, R54) -/

/-- BULK_WRITE starts at its head record. -/
def execBulkWrite (queue count : Nat) (s : State) : Host.Outcome State Fault Refusal :=
  onDev (Instr.bulkWrite queue count).wf
    (fun _ d => match d.startable queue count with
      | some x => if dOp x.raw = 7 then d.setStage queue x (.running (dDataOffset x.raw) 0 0) else d
      | none => d) s

/-- A record is not malformed by the tests of R50. -/
def Device.recordOk (d : Device) (v : Nat) : Bool :=
  let op := rOp v
  let n := d.operandBytes op (rTable v) (rScope v) (rIndex v)
  fld v 509 471 == 0 &&
    if op = 0 then rTable v == 0 && rScope v == 0 && rIndex v == 0 && v % 2 ^ 384 == 0
    else
      decide (op ≤ 3) && scopeOk op (rTable v) (rScope v) && d.indexOk op (rTable v) (rScope v) (rIndex v) && decide (n ≤ 48)
        && v % 2 ^ (384 - 8 * min n 48) == 0 && operandOk op (rTable v) (recordData v)

/-- A record's command on a TCAM row. -/
def Device.tcamRecord (d : Device) (c : Clk) (v : Nat) : Outcome :=
  let bs := recordData v
  let row := tcRow (rIndex v)
  if rOp v = 1 then d.tcInsert c (rScope v) row (beAt bs 0 16)
  else if rOp v = 3 then d.tcDelete c (rScope v) row
  else if tcPart (rIndex v) = 1 then d.tcKey c (rScope v) row (tcComp (rIndex v)) (beAt bs 0 40)
  else d.tcUpdate c (rScope v) row (beAt bs 0 16)

/-- What a record's command does to its table. -/
def Device.recordDoes (d : Device) (c : Clk) (v : Nat) : Outcome :=
  let t := rTable v
  let k := beAt (recordData v) 0 (keyBytes t)
  let x := beAt (recordData v) (keyBytes t) (dataBytes t)
  if isTcam t then d.tcamRecord c v
  else if rOp v = 1 then d.tblInsert c t (rScope v) (rIndex v) k x
  else if rOp v = 2 then d.tblUpdate c t (rScope v) (rIndex v) k x
  else d.tblDelete t (rScope v) (rIndex v) k

/-- The crossings of the accesses that a record's command makes: none of a NOP's or of a malformed record's. -/
def Device.recordCrossings (d : Device) (c : Clk) (v : Nat) : List Nat :=
  let r := d.recordDoes c v
  if d.recordOk v = false ∨ rOp v = 0 then []
  else if rTable v = 9 then d.flowCrossings (rOp v) (beAt (recordData v) 0 40) r.2.1 r.2.2 else [0]

/-- A record executed: its status. -/
def Device.runRecord (d : Device) (c : Clk) (v : Nat) : Device × Nat :=
  let xs := d.recordCrossings c v
  let r := d.recordDoes c v
  if !d.recordOk v then (d, csMalformed)
  else if rOp v = 0 then (d, csOk)
  else match d.firstBlocked xs with
    | some y => (d.accessRefused y 0, csTimeout)
    | none => (r.1.accessesDone xs, r.2.1)

/-- The counts of a chain as its result (Table 3.7). -/
def chainResult (n f : Nat) : Nat := n * 2 ^ 32 + f

/-- A chain goes on as the link word of its record says: to the next record, to its end, or it parks (R53, R54). A queue that is
stopped parks no chain (R65). -/
def Device.follow (d : Device) (q : Nat) (x : Fetched) (off n f : Nat) : Device :=
  let link := d.record off
  if rEnd link then
    if rLast link then d.finish q x (if f = 0 then csOk else csPartial) (chainResult n f)
    else if d.get Obj.wqEnable q = 1 then d.setStage q x (.parked off n f)
    else d.finish q x csStopped (chainResult n f)
  else if rNext link % 64 = 0 then d.setStage q x (.running (rNext link) n f)
  else d.finish q x csMalformed (chainResult n f)

/-- A chain's next record executes, its Status byte is written, and its link word is read once (R54). A record that cannot be read
raises WQ_FETCH and is read again (log 81); a timeout ends the descriptor with TIMEOUT (log 32). A malformed record counts among those
executed and failed (DESIGN CHOICE, log 81). -/
def Device.chainStep (d : Device) (c : Clk) (q : Nat) (x : Fetched) (off n f : Nat) : FetchEnd → Device
  | .uncorrectable => d.fetchFails q (x.count % d.wqEntries q)
  | .timeout => (d.fetchFails q (x.count % d.wqEntries q)).finish q x csTimeout (chainResult n f)
  | .ok =>
    let r := d.runRecord c (d.record off)
    let d : Device := { r.1 with queueStore := memWrite r.1.queueStore (off + 11) (BitVec.ofNat 8 r.2) }
    d.follow q x off (n + 1) (if r.2 = csOk then f else f + 1)

/-- A record of a chain waits while an earlier chain of its queue has a linked record on the same entry, the two being taken in count
order (R51). -/
def Device.recordWaits (d : Device) (earlier : List Fetched) (off : Nat) : Bool :=
  let v := d.record off
  decide (1 ≤ rOp v ∧ rOp v ≤ 3) && earlier.any (d.holdsBack (some (targetOf (rTable v) (rScope v) (rIndex v) (recordData v))))

/-- The device once the code has seen the flow slots that a record at an offset can read (R265). -/
def Device.recordSeen (d : Device) (c : Clk) (off : Nat) (blocks : List BlockFound) : Device :=
  d.readFound c (fun pb => rTable (d.record off) == 9 && decide (pb.2 < 0x400000)) blocks

/-- The next record of a running chain; `blocks` is what the flow slots it reads show (R265). A record that needs a crossing whose Pilot side
is being reset waits (R13, log 48). -/
def execChainRecordExecute (queue count : Nat) (found : FetchEnd) (blocks : List BlockFound) (s : State) :
    Host.Outcome State Fault Refusal :=
  onDev (Instr.chainRecordExecute queue count found blocks).wf
    (fun c d =>
      match findFrom (fun x : Fetched => x.count == count && (match x.stage with | .running _ _ _ => true | _ => false)) 0
        (d.wqFetched queue) with
      | some (i, x) => match x.stage with
        | .running off n f =>
          let e := d.recordSeen c off blocks
          if d.recordWaits ((d.wqFetched queue).take i) off || (found == .ok && e.awaitsReset (e.recordCrossings c (d.record off))) then d
          else e.chainStep c queue x off n f found
        | _ => d
      | none => d) s

/-- A parked chain's link word read again at a doorbell write (R54). -/
def Device.reread (d : Device) (q : Nat) (x : Fetched) : Device :=
  match x.stage with
  | .parked off n f => d.follow q x off n f
  | _ => d

/-! ### Completions (R57 to R61) -/

/-- A completion without PHASE (Table 3.9). -/
def Device.completion (d : Device) (q : Nat) (x : Fetched) (status result : Nat) : Nat :=
  at_ 127 112 (dTag x.raw) + at_ 111 104 status + at_ 103 100 (q % 16) + at_ 95 64 (x.count % d.wqEntries q) + at_ 63 0 result

/-- CQ.Producer − CQ.Consumer. -/
def Device.cqUsed (d : Device) (r : Nat) : Nat := subMod 32 (d.get Obj.cqProducer r) (d.get Obj.cqConsumer r)

/-- A completion written into its ring with its PHASE, CQ.Producer advanced, and pushed where the ring asks for it (R57, R61): to the ring's
own supervisor, whatever BDP.NotifyTarget holds (DESIGN CHOICE, log 80). -/
def Device.postRing (d : Device) (r v : Nat) : Device :=
  let p := d.get Obj.cqProducer r
  let n := d.cqEntries r
  let full := v + at_ 99 99 (if p / n % 2 = 0 then 1 else 0)
  let d : Device := { d with queueStore := memWriteAll d.queueStore (d.cqBase r + 16 * (p % n)) (natBe 16 full) }
  let d : Device := (d.set Obj.cqProducer r ((p + 1) % 2 ^ 32)).set Obj.cqPush r full
  if bit (d.get Obj.cqConfig r) 126 then d.notifyOne Obj.cqPush r full (r / 8) else d

/-- A ring's holding buffer set. -/
def Device.setHeld (d : Device) (r : Nat) (xs : List Nat) : Device :=
  { d with wq := { d.wq with held := mapSet d.wq.held r xs [] } }

/-- A completion held because its ring is full (R60). The buffer takes every one, and CQ.Held counts them: R60's bound of 256 rests on the sum
that R45 keeps for enabled queues, and what a stopped queue still has outstanding escapes that sum (DESIGN CHOICE, log 86). -/
def Device.hold (d : Device) (r v : Nat) : Device :=
  let d : Device := d.setHeld r (mapGet d.wq.held r [] ++ [v])
  if d.get Obj.cqStall r = 0 then (d.tally Obj.cqStallCount r 1).set Obj.cqStall r 1 else d

/-- A completion posted or held (R57, R60). -/
def Device.post (d : Device) (r v : Nat) : Device :=
  if d.viewHeld r ≠ 0 ∨ d.cqEntries r ≤ d.cqUsed r then d.hold r v else d.postRing r v

/-- A finished descriptor's completion is posted by the running Pilot (R13). -/
def execCompletionPost (queue count : Nat) (s : State) : Host.Outcome State Fault Refusal :=
  onDev (Instr.completionPost queue count).wf
    (fun _ d =>
      if d.pilotRuns then
        match (d.wqFetched queue).find? fun x => x.count == count && (match x.stage with | .finished _ _ => true | _ => false) with
        | some x => match x.stage with
          | .finished st res =>
            (d.setFetched queue ((d.wqFetched queue).erase x)).post (d.wqRing queue) (d.completion queue x st res)
          | _ => d
        | none => d
      else d) s

/-- Held completions moved into the ring in their order, as far as it has room (R60). -/
def Device.moveHeld (d : Device) (r : Nat) : Nat → Device
  | 0 => d
  | k + 1 =>
    match mapGet d.wq.held r [] with
    | [] => d
    | v :: rest => if d.cqUsed r < d.cqEntries r then Device.moveHeld ((d.setHeld r rest).postRing r v) r k else d

/-- A ring with free space takes held completions, unless it has been disabled or reconfigured since: no completion is addressed to it
then (R45, log 73). -/
def execHeldCompletionMove (ring : Nat) (s : State) : Host.Outcome State Fault Refusal :=
  onDev (Instr.heldCompletionMove ring).wf
    (fun _ d => if d.pilotRuns && !setHas d.wq.stale ring then d.moveHeld ring 256 else d) s

/-! ### Chart writes (R45, R46, R59, R63, R65 to R67) -/

/-- The ranges of WQ.Config; an all-zero element is the unconfigured default. -/
def wqConfigOk (v : Nat) : Bool :=
  let t := fld v 127 120
  let z := fld v 111 104
  v == 0 || (decide (t ≤ 1) && decide (fld v 119 112 ≤ 1) && decide (6 ≤ z ∧ z ≤ if t = 1 then 20 else 13)
    && decide (fld v 103 96 ≤ 7) && decide (1 ≤ fld v 95 80 ∧ fld v 95 80 ≤ 256) && fld v 63 32 % 64 == 0)

/-- A write of WQ.Config. -/
def Device.writeWqConfig (d : Device) (q v : Nat) : Wr :=
  let v := putFld (putFld v 79 64 0) 31 0 0
  if !wqConfigOk v then .error stType
  else if d.get Obj.wqEnable q = 1 ∨ d.viewIdle q = 0 then .error stBusy
  else .ok (d.set Obj.wqConfig q v)

/-- The queues bound to a ring. -/
def Device.boundQueues (d : Device) (r : Nat) : List Nat :=
  ((List.range 16).map (r / 8 * 16 + ·)).filter fun q => d.get Obj.wqConfig q != 0 && d.wqRing q == r

/-- Enabling a queue is in range (R45). -/
def Device.enableOk (d : Device) (q : Nat) : Bool :=
  let r := d.wqRing q
  let others := (d.boundQueues r).filter fun p => p != q && d.get Obj.wqEnable p == 1
  d.get Obj.wqConfig q != 0 && d.cqOn r && decide (d.wqBase q + 64 * d.wqEntries q ≤ regionSize (d.wqRegion q))
    && decide (((others.map d.wqLimit).sum) + d.wqLimit q ≤ 256)

/-- A write of WQ.Enable. -/
def Device.writeWqEnable (d : Device) (q v : Nat) : Wr :=
  if v = 1 then
    if !d.enableOk q then .error stType
    else if d.get Obj.wqFenced q = 1 then .error stBusy
    else if d.get Obj.wqEnable q = 1 then .ok d
    else .ok ((((d.set Obj.wqDoorbell q 0).set Obj.wqHead q 0).setCache q []).set Obj.wqEnable q 1)
  else if d.get Obj.wqEnable q = 1 ∧ d.wqBulk q then .error stAccess
  else .ok (d.stopQueue q)

/-- A write of WQ.Doorbell (R46, R54). -/
def Device.writeDoorbell (d : Device) (q v : Nat) : Wr :=
  if d.wqEntries q < subMod 32 v (d.get Obj.wqHead q) ∨ d.wqEntries q < subMod 32 v (d.get Obj.wqDoorbell q) then .error stType
  else if d.get Obj.wqEnable q ≠ 1 then .error stBusy
  else
    let d1 := d.set Obj.wqDoorbell q v
    .ok ((d1.wqFetched q).foldl (fun d x => d.reread q x) d1)

/-- A write of WQ.CacheInvalidate. -/
def Device.writeCacheInvalidate (d : Device) (q v : Nat) : Wr := .ok (if v = 1 then d.setCache q [] else d)

/-- The ranges of CQ.Config, checked where the write enables the ring (R45). -/
def cqConfigOk (v : Nat) : Bool :=
  let z := fld v 119 112
  !bit v 127 || (decide (6 ≤ z ∧ z ≤ 16) && fld v 63 32 % 64 == 0 && decide (fld v 63 32 + 16 * 2 ^ z ≤ queueStoreSize))

/-- The holding buffer of a ring emptied (R45). -/
def Device.dropHeld (d : Device) (r : Nat) : Device :=
  let d := d.setHeld r []
  { d with wq := { d.wq with stale := setDel d.wq.stale r } }

/-- The bits of CQ.Config that say where a ring lies: ENABLE, SizeLog2 and Base. -/
def ringPlace (v : Nat) : Nat × Nat × Nat := (fld v 127 127, fld v 119 112, fld v 63 32)

/-- A write of CQ.Config: completions still held for the ring as it was stay held, and leave only as the ring is enabled anew (R45,
log 73). -/
def Device.writeCqConfig (d : Device) (r v : Nat) : Wr :=
  let v := putFld (putFld (putFld v 125 120 0) 111 64 0) 31 0 0
  if !cqConfigOk v then .error stType
  else if (d.boundQueues r).any fun q => d.get Obj.wqEnable q == 1 || d.viewIdle q == 0 then .error stBusy
  else
    let d1 : Device :=
      if bit v 127 && !d.cqOn r then ((d.set Obj.cqProducer r 0).set Obj.cqConsumer r 0).dropHeld r
      else if d.viewHeld r ≠ 0 ∧ ringPlace v ≠ ringPlace (d.get Obj.cqConfig r) then
        { d with wq := { d.wq with stale := setAdd d.wq.stale r } }
      else d
    .ok (d1.set Obj.cqConfig r v)

/-- A write of CQ.Consumer (R59). -/
def Device.writeConsumer (d : Device) (r v : Nat) : Wr :=
  let p := d.get Obj.cqProducer r
  let old := d.get Obj.cqConsumer r
  if d.cqEntries r < subMod 32 p v ∨ subMod 32 p old < subMod 32 v old then .error stType else .ok (d.set Obj.cqConsumer r v)

/-- A write of CQ.Stall, tied to CQ.Held > 0 (R17, R60). -/
def Device.writeStall (d : Device) (r v : Nat) : Wr :=
  if bit v 0 && bit (d.get Obj.cqStall r) 0 then
    if d.viewHeld r ≠ 0 then .error stCondition else .ok (d.set Obj.cqStall r 0)
  else .ok d

/-- A write of WQ.FunctionReset (R67). -/
def Device.writeFunctionReset (d : Device) (f v : Nat) : Wr :=
  if v = 0 then .ok d
  else
    let d1 : Device := { d with wq := { d.wq with
      fetched := d.wq.fetched.filter fun kv => kv.1 / 16 != f
      cache := d.wq.cache.filter fun kv => kv.1 / 16 != f
      held := d.wq.held.filter fun kv => kv.1 / 8 != f
      stale := d.wq.stale.filter fun r => r / 8 != f } }
    let d2 : Device := (List.range 16).foldl (fun d k =>
      ((d.set Obj.wqEnable (16 * f + k) 0).set Obj.wqHead (16 * f + k) 0).set Obj.wqDoorbell (16 * f + k) 0) d1
    .ok ((List.range 8).foldl (fun d k =>
      ((d.set Obj.cqProducer (8 * f + k) 0).set Obj.cqConsumer (8 * f + k) 0).set Obj.cqStall (8 * f + k) 0) d2)

end Sys2Proof.Machine
end

