-- ==== Sys2Proof/Machine/Sextant.lean ====
section
/-! DEFINITION. The Sextant debug port (chapter 20): the TAP, the checks of a command, the memory spaces, halting, stepping and debug
passes of contexts, points, the Pilot's halt, block transfers, and the DBG objects. -/

namespace Sys2Proof.Machine

/-! ### The TAP (R403, R405, R416) -/

/-- TCK moves: CLK.Status of the debug domain reads RUNNING, its measured frequency free up to 50 MHz (R335, R385). -/
def Device.tckSeen (d : Device) : Device :=
  if d.state = St.reset then d
  else
    let d := (d.spend.setFld Obj.clkStatus 9 31 0 (Config.freeValue d.free % 50001)).setFld Obj.clkStatus 9 63 56 0
    { d with sx := { d.sx with absentAt := none } }

/-- The Sextant's registers set. -/
def Device.setSx (d : Device) (x : Sextant) : Device := { d with sx := x }

/-- What a TAP event does to the device: the TAP works once power is good. A header that drives TCK drives TRST_N high, and the event
leaves the controller in state `st` (R385). -/
def Device.onTap (d : Device) (st : TapState) (f : Device → Device) : Device :=
  if d.pwr.good then
    let d := f d.tckSeen
    d.setSx { d.sx with tap := st, trstN := true }
  else d

/-- TDO: high-impedance except in Shift-DR and Shift-IR, where it carries the register's bit 0 (R385). -/
def Device.tdo (d : Device) : Option Bool :=
  if d.sx.tap = .shiftDr ∨ d.sx.tap = .shiftIr then some (bit d.sx.shifted 0) else none

/-- A TAP reset selects IDCODE in Test-Logic-Reset (R403): TRST_N low, which needs no TCK and holds that state, or five TCK cycles with TMS
high. -/
def execTapReset (byPin : Bool) (s : State) : Host.Outcome State Fault Refusal :=
  onDev (Instr.tapReset byPin).wf
    (fun _ d =>
      if byPin then d.setSx { d.sx with ir := 1, tap := .testLogicReset, trstN := false }
      else d.onTap .testLogicReset fun d => d.setSx { d.sx with ir := 1 }) s

/-- IDCODE shifts out 0x1512_09A7 (Table 20.3). -/
def execTapIdcode (s : State) : Host.Outcome State Fault Refusal :=
  onDev Instr.tapIdcode.wf (fun _ d => d.onTap .shiftDr fun d => d.setSx { d.sx with ir := 1, shifted := 0x151209A7 }) s

/-- Instruction codes that do not select the bypass register (Table 20.3). -/
def tapRegister (code : Nat) : Bool := code == 0x01 || code == 0x10 || code == 0x11 || code == 0x12

/-- BYPASS and the reserved codes select the 1-bit bypass register, which a scan captures as 0. -/
def execTapBypass (code : Nat) (s : State) : Host.Outcome State Fault Refusal :=
  onDev (Instr.tapBypass code).wf
    (fun _ d => if tapRegister code then d else d.onTap .shiftDr fun d => d.setSx { d.sx with ir := code, shifted := 0 }) s

/-- Update-IR with SX_CMD, SX_RESULT or SX_STREAM, after Capture-IR has loaded 0b0000_0001, which the scan shifts out (R403); SX_STREAM starts
at word 0 (R416). -/
def execInstructionSelect (code : Nat) (s : State) : Host.Outcome State Fault Refusal :=
  onDev (Instr.instructionSelect code).wf
    (fun _ d =>
      if code = 0x10 ∨ code = 0x11 ∨ code = 0x12 then
        d.onTap .updateIr fun d => d.setSx { d.sx with ir := code, shifted := 1, index := if code = 0x12 then 0 else d.sx.index }
      else d) s

/-- A word of DBG.Buffer. -/
def Device.bufferWord (d : Device) (i : Nat) : Nat := beNat (memRead d.sx.buffer (8 * i) 8)

/-- A word of DBG.Buffer written. -/
def Device.setBufferWord (d : Device) (i v : Nat) : Device :=
  d.setSx { d.sx with buffer := memWriteAll d.sx.buffer (8 * i) (natBe 8 v) }

/-- Update-DR of SX_STREAM writes the next word of DBG.Buffer. -/
def execSxStreamWrite (word : Word) (s : State) : Host.Outcome State Fault Refusal :=
  onDev (Instr.sxStreamWrite word).wf
    (fun _ d => d.onTap .updateDr fun d =>
      if d.sx.ir = 0x12 then
        let d : Device := d.setBufferWord d.sx.index word.toNat
        d.setSx { d.sx with index := (d.sx.index + 1) % 8192 }
      else d) s

/-- Capture-DR of SX_STREAM reads the next word of DBG.Buffer. -/
def execSxStreamRead (s : State) : Host.Outcome State Fault Refusal :=
  onDev Instr.sxStreamRead.wf
    (fun _ d => d.onTap .captureDr fun d =>
      if d.sx.ir = 0x12 then d.setSx { d.sx with shifted := d.bufferWord d.sx.index, index := (d.sx.index + 1) % 8192 } else d) s

/-- Capture-DR of SX_RESULT loads the state of the latest command; Data of a running command is free (R405, log 2). -/
def execSxResultCapture (s : State) : Host.Outcome State Fault Refusal :=
  onDev Instr.sxResultCapture.wf
    (fun _ d => d.onTap .captureDr fun d =>
      if d.sx.ir = 0x11 then
        let data := if d.sx.running.isSome then Config.freeValue d.free % 2 ^ 64 else d.sx.data
        let v := at_ 95 88 d.sx.status + at_ 79 64 d.sx.sequence + at_ 63 0 data
        let d : Device := if d.sx.running.isSome then d.spend else d
        d.setSx { d.sx with captured := v, shifted := v }
      else d) s

/-! ### The SX_CMD register (Table 20.4) -/

/-- The fields of a 160-bit SX_CMD scan other than its Op. -/
def sxFieldsOf (w : Nat) : SxFields :=
  { unit := fld w 151 136, context := fld w 135 133, space := fld w 132 128, address := fld w 127 88, count := fld w 87 64,
    data := fld w 63 0 }

/-- The command of the table that an SX_CMD scan is: its Op selects it (Table 20.5); `ecc` and `blocks` are what a READ finds. -/
def sxCommandOf (w : Nat) (ecc : Ecc) (blocks : List BlockFound) : Instr :=
  let f := sxFieldsOf w
  match fld w 159 152 with
  | 1 => .sxHalt f
  | 2 => .sxResume f
  | 3 => .sxStep f
  | 4 => .sxRead f ecc blocks
  | 5 => .sxWrite f
  | 6 => .sxBlockRead f
  | 7 => .sxBlockWrite f
  | 8 => .sxSetPoint f
  | 9 => .sxClearPoint f
  | 10 => .sxStart f
  | 11 => .sxHaltAll f
  | 12 => .sxResumeAll f
  | op => .sxNop op f

/-- The 160-bit SX_CMD word of an Op and its fields. -/
def sxWord (op : Nat) (f : SxFields) : Nat :=
  at_ 159 152 op + at_ 151 136 f.unit + at_ 135 133 f.context + at_ 132 128 f.space + at_ 127 88 f.address + at_ 87 64 f.count
    + at_ 63 0 f.data

/-! ### Status codes and fields (R404, R405) -/

abbrev sxDisabled : Nat := 2
abbrev sxState : Nat := 3
abbrev sxAddress : Nat := 4
abbrev sxTimeout : Nat := 5
abbrev sxEcc : Nat := 6
abbrev sxField : Nat := 7
abbrev sxOpcode : Nat := 8

/-- A context that a command names: engine targets are 0x0400 to 0x07FF (Table 15.2). -/
def sxCtx (f : SxFields) : Option Nat := if 0x400 ≤ f.unit ∧ f.unit < 0x800 then some ((f.unit - 0x400) * 8 + f.context) else none

/-- A cluster that a command names: targets 0x0100 to 0x013F. -/
def sxCluster (f : SxFields) : Option Nat := if 0x100 ≤ f.unit ∧ f.unit < 0x140 then some (f.unit - 0x100) else none

/-- The fields a command uses (R404). -/
structure SxUse where
  unit : Bool
  context : Bool
  space : Bool
  address : Bool
  count : Bool
  data : Bool
deriving DecidableEq, Repr

/-- Fields an operation uses (Tables 20.4, 20.5, 20.6). -/
def sxUse (op : Nat) (f : SxFields) : SxUse :=
  let mem : Bool := [4, 5, 6, 7].contains op
  { unit := [1, 2, 3, 8, 9, 0xA].contains op || (mem && ([0, 1, 2, 3, 7].contains f.space))
    context := ([1, 2, 3].contains op && f.unit != 1) || op == 0xA || (mem && decide (f.space ≤ 1))
    space := mem
    address := mem || [8, 9, 0xA].contains op
    count := op == 6 || op == 7
    data := op == 5 || op == 8 }

/-- Every field that an operation does not use is 0. -/
def fieldsZero (op : Nat) (f : SxFields) : Bool :=
  let u := sxUse op f
  (u.unit || f.unit == 0) && (u.context || f.context == 0) && (u.space || f.space == 0) && (u.address || f.address == 0)
    && (u.count || f.count == 0) && (u.data || f.data == 0)

/-- The DBG.Enable bits an operation needs: 1 ENGINES, 2 PILOT, 4 MEMORY (Table 20.5). -/
def sxNeeds (op : Nat) (f : SxFields) : Nat :=
  match op with
  | 0 => 0
  | 1 | 2 | 3 => if f.unit = 1 then 2 else 1
  | 4 | 6 | 7 => 4
  | 5 => if 1 ≤ f.space ∧ f.space ≤ 3 then 5 else 4
  | _ => 1

/-! ### Halted contexts (R409, R410) -/

/-- A halted context: whether it is FREE, and what it holds. -/
def Device.heldCtx (d : Device) (k : Nat) : Option (Bool × Ctx) :=
  match d.ctx? k with
  | some x => if x.halted then some (false, x) else none
  | none => (mapGet? d.sx.idle k).map fun x => (true, x)

/-- A halted context stored. -/
def Device.putHeld (d : Device) (k : Nat) (free : Bool) (x : Ctx) : Device :=
  if free then d.setSx { d.sx with idle := mapPut d.sx.idle k x } else d.setCtx k x

/-- A context halted (R410): a FREE one receives no packet. -/
def Device.haltCtx (d : Device) (k : Nat) : Device :=
  match d.ctx? k with
  | some x => d.setCtx k { x with halted := true }
  | none =>
    if (mapGet? d.sx.idle k).isSome then d
    else
      let r := d.idleCtx
      r.2.setSx { r.2.sx with idle := mapPut r.2.sx.idle k r.1 }

/-- A halted context resumed. -/
def Device.resumeCtx (d : Device) (k : Nat) : Device :=
  let d : Device := match d.ctx? k with
    | some x => d.setCtx k { x with halted := false, stepping := false }
    | none => d
  d.setSx { d.sx with idle := mapDel d.sx.idle k, verdicts := mapDel d.sx.verdicts k }

/-- Every halted context resumed (R401, Table 20.5); a step under way runs its word. -/
def Device.resumeAll (d : Device) : Device :=
  { d with eng := { d.eng with ctx := d.eng.ctx.map fun kv => (kv.1, { kv.2 with halted := false }) }
           sx := { d.sx with idle := [], verdicts := [] } }

/-- Context commands are allowed on a cluster (R409). -/
def Device.sxAllowed (d : Device) (cl : Nat) : Bool := d.clusterFenced cl || d.state == St.maintenance

/-- The Pilot resumes (R415). -/
def Device.pilotResume (d : Device) : Device := d.setSx { d.sx with pilotHalted := false, pilotRegs := [] }

/-! ### Context spaces (Table 20.6) -/

/-- A context as a read sees it: halted, or any in SAFE, where a FREE context's contents are open (R409). -/
def Device.shownCtx (d : Device) (k : Nat) : Option (Ctx × Device) :=
  match d.heldCtx k with
  | some x => some (x.2, d)
  | none =>
    if d.state = St.safe then
      match d.ctx? k with
      | some x => some (x, d)
      | none => some d.idleCtx
    else none

/-- A memory word of the context address map, as an access names it. -/
def whereWord (w : Where) : Option Nat :=
  match w with
  | .scratch a => some a
  | .common a => some (0x2000000 + a)
  | .counters a => some (0x2F00000 + a)
  | _ => none

/-- A read of Space 0x00. -/
def Device.mapRead (d : Device) (c : Clk) (k a : Nat) : Except Nat (Nat × Device) :=
  let w := locate (k / 128) a
  match whereWord w with
  | some p => if d.wordOn c p then .ok (d.word p, d) else .error sxState
  | none =>
    match w with
    | .area off =>
      match d.shownCtx k with
      | some x => .ok (readArea x.1 off 8, x.2)
      | none => .error sxState
    | _ => .error sxAddress

/-- A write of the window or record of a halted context: RW record bytes only while it holds a packet. -/
def areaWrite (free : Bool) (x : Ctx) (off v : Nat) : Option Ctx :=
  if off < 320 then some { x with window := overwrite x.window off (natBe 8 v) }
  else if off < 384 ∧ free = true then some { x with record := cleanRecord (putBytes x.record 64 (off - 320) 8 v) }
  else if off < 384 ∧ recordWritable (off - 320) 8 = true then some { x with record := storeRecord x.record (off - 320) 8 v }
  else none

/-- A write of Space 0x00. -/
def Device.mapWrite (d : Device) (c : Clk) (k a v : Nat) : Except Nat Device :=
  let w := locate (k / 128) a
  match whereWord w with
  | some p => if 0x2F00000 ≤ p then .error sxAddress else if d.wordOn c p then .ok (d.setWord p v) else .error sxState
  | none =>
    match w with
    | .area off =>
      match d.heldCtx k with
      | none => .error sxState
      | some (free, x) =>
        match areaWrite free x off v with
        | some y => .ok (d.putHeld k free y)
        | none => .error sxAddress
    | _ => .error sxAddress

/-- A register of Space 0x01. The flags register has ALU A's flags in bits 3:0 and ALU B's in bits 7:4, where the verdict of an ended
debug pass then stands (R412, log 33); stack entries beyond the depth are free. -/
def Device.ctxRegister (d : Device) (k : Nat) (x : Ctx) (a : Nat) : Nat × Device :=
  if a < 32 then ((reg x a).toNat, d)
  else if a = 32 then (x.pc, d)
  else if a = 33 then
    (match mapGet? d.sx.verdicts k with
     | some v => putFld x.flags 7 4 v
     | none => x.flags, d)
  else if a = 34 then (x.stack.length, d)
  else
    match x.stack.reverse[a - 35]? with
    | some v => (v, d)
    | none => (Config.freeValue d.free % 4096, d.spend)

/-- A read of Space 0x01. -/
def Device.stateRead (d : Device) (k a : Nat) : Except Nat (Nat × Device) :=
  if 42 < a then .error sxAddress
  else match d.shownCtx k with
    | some x => .ok (x.2.ctxRegister k x.1 a)
    | none => .error sxState

/-- A write of Space 0x01; a breakpoint at the PC written has not halted the context yet (R413). -/
def Device.stateWrite (d : Device) (k a v : Nat) : Except Nat Device :=
  if 32 < a then .error sxAddress
  else match d.heldCtx k with
    | none => .error sxState
    | some (free, x) =>
      .ok (d.putHeld k free (if a = 32 then { x with pc := v % 4096, passed := false } else setReg x a (BitVec.ofNat 64 v)))

/-! ### Control store and dispatch table (R408) -/

/-- The registers of a cluster whose store the Sextant wrote (R221); while the cluster is LOADING they read 0 (DEDUCED, log 78). -/
def Device.sxMarked (d : Device) (cl : Nat) : Device :=
  if d.rd Obj.ucodeLoadStatus cl 63 56 = 2 then d
  else (d.set Obj.ucodeVersion cl 0xFFFFFFFF).set Obj.ucodeImageHash cl 0xFFFFFFFFFFFFFFFF

/-- A read of Space 0x02. -/
def Device.storeRead (d : Device) (cl a : Nat) : Except Nat (Nat × Device) :=
  if 16384 ≤ a ∨ a % 4 = 3 then .error sxAddress
  else .ok (fld (d.controlWord cl (a / 4)) (191 - 64 * (a % 4)) (128 - 64 * (a % 4)), d)

/-- A part of a control-store word waiting for part 2; a part not written is free (log 2). -/
def Device.partOf (d : Device) (key : Nat) : Nat × Device :=
  match mapGet? d.sx.parts key with
  | some v => (v, d)
  | none => (Config.freeValue d.free % 2 ^ 64, d.spend)

/-- A write of Space 0x02: part 2 writes the whole word in all four copies. -/
def Device.storeWrite (d : Device) (cl a v : Nat) : Except Nat Device :=
  if 16384 ≤ a ∨ a % 4 = 3 then .error sxAddress
  else if !d.clusterFenced cl then .error sxState
  else
    let key := cl * 16384 + a
    if a % 4 < 2 then .ok ((d.setSx { d.sx with parts := mapPut d.sx.parts key v }).sxMarked cl)
    else
      let p0 := d.partOf (key - 2)
      let p1 := p0.2.partOf (key - 1)
      let d : Device := p1.2
      let w := at_ 191 128 p0.1 + at_ 127 64 p1.1 + at_ 63 0 v
      let i := cl * 4096 + a / 4
      let d : Device := { d with
        eng := { d.eng with control := mapSet d.eng.control i w 0, copyBad := setDel d.eng.copyBad i }
        sx := { d.sx with parts := mapDel (mapDel d.sx.parts (key - 2)) (key - 1) } }
      .ok (d.sxMarked cl)

/-- A read and a write of Space 0x03. -/
def Device.dispatchRead (d : Device) (cl a : Nat) : Except Nat (Nat × Device) :=
  if 255 < a then .error sxAddress else .ok (d.get Obj.clDispatch (cl * 256 + a), d)
def Device.dispatchWrite (d : Device) (cl a v : Nat) : Except Nat Device :=
  if 255 < a then .error sxAddress
  else if !d.clusterFenced cl then .error sxState
  else .ok ((d.set Obj.clDispatch (cl * 256 + a) (dispatchEntry v)).sxMarked cl)

/-! ### HBM (R249, R250, Table 12.1) -/

/-- Bytes of an HBM segment and of a stack. -/
abbrev segmentBytes : Nat := 0xC0000000
abbrev stackBytes : Nat := 0x600000000

/-- The packets that hold cells: queued, selected, or in transmission. -/
def Device.cellHolders (d : Device) : List QEntry :=
  (d.buf.queues.map Prod.snd).flatten ++ (d.tm.egress.map fun kv => kv.2.map Selected.entry).flatten
    ++ d.tm.transmit.map fun kv => kv.2.entry

/-- The byte of its packet at which a cell of a chain begins (R229). -/
def cellOffset (cells : List Nat) (a : Nat) : Option Nat :=
  match cells with
  | [] => none
  | x :: xs => if x = a then some 0 else (cellOffset xs a).map (· + if cellHbm x then 1024 else 256)

/-- Eight bytes of a Vat cell: the bytes of the packet that holds it; whatever lies beyond a packet, or in a cell no packet holds, is
free (R229, R249, log 2). -/
def Device.vatRead (d : Device) (s off : Nat) : Nat × Device :=
  let cell := hbmCell s (off / 1024)
  let free : Nat × Device := (Config.freeValue d.free % 2 ^ 64, d.spend)
  match d.cellHolders.filterMap fun e => (cellOffset e.cells cell).map fun o => (o + off % 1024, e.packet) with
  | (o, bytes) :: _ =>
    let known := min 8 (bytes.length - o)
    (beAt bytes o known * 2 ^ (64 - 8 * known) + free.1 % 2 ^ (64 - 8 * known), free.2)
  | [] => free

/-- Where an offset of segment 0 lies (Table 12.1): a flow slot, a word of a flex counter, queue region, churn log, dump region, or
reserved. -/
inductive TableArea where
  | flow (slot : Nat)
  | flex (counter : Nat) (bytes : Bool)
  | queues (off : Nat)
  | churn
  | dump (off : Nat)
  | reserved
deriving DecidableEq, Repr

/-- The area of an offset of a pair's segment 0. -/
def tableArea (pair off : Nat) : TableArea :=
  if off < 0x10000000 then .flow (off / 64 * 2 + pair)
  else if off < 0x30000000 then .flex ((off - 0x10000000) / 16 * 2 + pair) (off % 16 == 8)
  else if off < 0x38000000 then .queues (pair * 0x8000000 + (off - 0x30000000))
  else if off < 0x39000000 then .churn
  else if off < 0x40000000 then .reserved
  else if off < 0x60000000 then .dump (pair * 0x20000000 + (off - 0x40000000))
  else .reserved

/-- A word of a churn-log copy, and which copy it is of: the first bit it holds (R262). -/
def logWord (off : Nat) : Option (Bool × Nat) := (logBits (off / 64)).map fun pos => (decide (off < 0x38604000), pos + 8 * (off % 64))

/-- A word of the churn log that a stack keeps for its sister: of a copy, its bits; between and behind the copies, what was written. -/
def Device.logRead (d : Device) (s off : Nat) : Nat :=
  match logWord off with
  | some (first, pos) =>
    let copy := if first then d.hbm.churn else d.hbm.churnB
    (List.range 64).foldl (fun a i => a + b2n (setHas copy (blockKey (sister s) (churnPlace (pos + i)))) * 2 ^ i) 0
  | none => mapGet d.hbm.raw ((s + 4) * 2 ^ 29 + off / 8) 0

/-- A word of the churn log written: each of its bits set or cleared in its copy, as each is written. -/
def Device.logWrite (d : Device) (s off v : Nat) : Device :=
  match logWord off with
  | some (first, pos) =>
    (List.range 64).foldl (fun d i =>
      let k := blockKey (sister s) (churnPlace (pos + i))
      if first then { d with hbm := { d.hbm with churn := setTo d.hbm.churn k (bit v i) } }
      else { d with hbm := { d.hbm with churnB := setTo d.hbm.churnB k (bit v i) } }) d
  | none => { d with hbm := { d.hbm with raw := mapPut d.hbm.raw ((s + 4) * 2 ^ 29 + off / 8) v } }

/-- A word of segment 0 as stack `s` serves it: an empty flow slot is zero (R367); the spec gives no bit layout for one that holds an entry,
nor contents for the reserved ranges: they are free. -/
def Device.tableReadWord (d : Device) (s off : Nat) : Nat × Device :=
  let pair := pairOf s
  let free : Nat × Device := (Config.freeValue d.free % 2 ^ 64, d.spend)
  match tableArea pair off with
  | .flow i => if (mapGet? d.tbl.flow i).isNone then (0, d) else free
  | .flex n b => (if b then (d.flexInHbm n).2 else (d.flexInHbm n).1, d)
  | .queues o => (beNat (memRead d.hbm.queueRegion o 8), d)
  | .churn => (d.logRead s off, d)
  | .dump o => (beNat (memRead d.hbm.dump o 8), d)
  | .reserved =>
    match mapGet? d.hbm.raw (pair * 2 ^ 29 + off / 8) with
    | some v => (v, d)
    | none => free

/-- A flow slot after eight of its bytes were written: its validity, key and data are free, since the slot's bit layout is open, but its
reserved data bits, which read as 0 (R6); FlowEntries counts the slots that hold an entry (R140). -/
def Device.slotScrambled (d : Device) (i : Nat) : Device :=
  let v := Config.freeValue d.free
  let e : Entry := { key := Config.freeValue (d.free + 1) % 2 ^ 320, data := cleanEntry 9 (Config.freeValue (d.free + 2) % 2 ^ 64)
                     changed := Config.freeValue (d.free + 3) % 2 ^ 80 }
  let was : Int := b2n (mapGet? d.tbl.flow i).isSome
  let flow := if v % 2 = 0 then mapDel d.tbl.flow i else mapPut d.tbl.flow i e
  let d : Device := ({ d with free := d.free + 4, tbl := { d.tbl with flow := flow } }).tableWrite (flowBlock i)
  d.sharedCount 1 ((v % 2 : Nat) - was)

/-- A word of segment 0 written through stack `s`, to both copies (R251); the churn log is not mirrored. -/
def Device.tableWriteWord (d : Device) (s off v : Nat) : Device :=
  let pair := pairOf s
  match tableArea pair off with
  | .flow i => d.slotScrambled i
  | .flex n b => d.setFlex n (if b then ((d.flexInHbm n).1, v) else (v, (d.flexInHbm n).2))
  | .queues o => d.regionWrite 2 o (natBe 8 v)
  | .dump o =>
    ({ d with hbm := { d.hbm with dump := memWriteAll d.hbm.dump o (natBe 8 v), dumpSpans := d.hbm.dumpSpans ++ [(o, 8)] } }).tableWrite
      (dumpBlock o)
  | .churn => d.logWrite s off v
  | .reserved =>
    ({ d with hbm := { d.hbm with raw := mapPut d.hbm.raw (pair * 2 ^ 29 + off / 8) v } }).tableWrite (pair, off / 64)

/-- The stack that serves an access to a block of segment 0 of a stack: that stack, or its sister; none where no copy does (R251). -/
def Device.servedBy (d : Device) (s b : Nat) : Option Nat :=
  if d.copyServes s b then some s else if d.copyServes (sister s) b then some (sister s) else none

/-- A read of Space 0x04: segments 1 to 7 of a stack that is not ACTIVE read STATE. -/
def Device.hbmRead (d : Device) (a : Nat) : Except Nat (Nat × Device) :=
  let s := a / 2 ^ 35
  let off := a % 2 ^ 35
  if 4 ≤ s ∨ stackBytes ≤ off then .error sxAddress
  else if segmentBytes ≤ off then
    if d.stackState s = 1 then .ok (d.vatRead s (off - segmentBytes)) else .error sxState
  else match d.servedBy s (off / 64) with
    | none => .error sxState
    | some t => if setHas d.hbm.poison (poisonKey t (off / 64)) then .error sxEcc else .ok (d.tableReadWord t off)

/-- A write of Space 0x04. -/
def Device.hbmWrite (d : Device) (a v : Nat) : Except Nat Device :=
  let s := a / 2 ^ 35
  let off := a % 2 ^ 35
  if 4 ≤ s ∨ segmentBytes ≤ off then .error sxAddress
  else match d.servedBy s (off / 64) with
    | none => .error sxState
    | some t => .ok (d.tableWriteWord t off v)

/-! ### The other spaces -/

/-- Eight bytes of LOOK.History at a byte offset. -/
def Device.historyWord (d : Device) (a : Nat) : Nat :=
  let n := match objInfo? Obj.lookHistory with | some r => r.size | none => 1
  beAt (natBe n (d.get Obj.lookHistory (a / n))) (a % n) 8

/-- A read of a Pilot register: free when first read after a halt (log 2). -/
def Device.pilotRead (d : Device) (a : Nat) : Except Nat (Nat × Device) :=
  if 32 < a then .error sxAddress
  else if !d.sx.pilotHalted then .error sxState
  else match mapGet? d.sx.pilotRegs a with
    | some v => .ok (v, d)
    | none =>
      let v := Config.freeValue d.free % 2 ^ 64
      .ok (v, d.spend.setSx { d.sx with pilotRegs := mapPut d.sx.pilotRegs a v })

/-- A write of a Pilot register. -/
def Device.pilotWrite (d : Device) (a v : Nat) : Except Nat Device :=
  if 32 < a then .error sxAddress
  else if !d.sx.pilotHalted then .error sxState
  else .ok (d.setSx { d.sx with pilotRegs := mapPut d.sx.pilotRegs a v })

/-- A byte-addressed space takes 8-byte-aligned addresses (R407). -/
def byteSpace (space : Nat) : Bool := space == 0 || (4 ≤ space && space ≤ 6)

/-- One word of a space read. -/
def Device.spaceRead (d : Device) (c : Clk) (f : SxFields) (a : Nat) : Except Nat (Nat × Device) :=
  if byteSpace f.space && a % 8 != 0 then .error sxAddress
  else match f.space with
    | 0 => match sxCtx f with | some k => if a < 2 ^ 32 then d.mapRead c k a else .error sxAddress | none => .error sxAddress
    | 1 => match sxCtx f with | some k => d.stateRead k a | none => .error sxAddress
    | 2 => match sxCluster f with | some cl => d.storeRead cl a | none => .error sxAddress
    | 3 => match sxCluster f with | some cl => d.dispatchRead cl a | none => .error sxAddress
    | 4 => d.hbmRead a
    | 5 => if a < 1024 then .ok (d.historyWord a, d) else .error sxAddress
    | 6 => if a < 8388608 then .ok (beNat (memRead d.look.dumpStore a 8), d) else .error sxAddress
    | 7 => if f.unit = 1 then d.pilotRead a else .error sxAddress
    | _ => .error sxAddress

/-- What uncorrectable data that a read of a space finds does to the device, outside the table region: none where the space's memory carries
no code (R178, R265). A control-store word none of whose copies passes is not returned (R185, R405); the fault of R185 is a fetch's. The
dispatch table has a code as the cluster's other memories have (Table 16.8), and no fault of its own. -/
def Device.sxWorn (d : Device) (c : Clk) (f : SxFields) (a : Nat) : Option Device :=
  match f.space with
  | 0 =>
    match sxCtx f with
    | some k => (whereWord (locate (k / 128) a)).map fun p => let t := wordTarget p; d.raise 0x04 t.1 t.2
    | none => none
  | 2 | 3 | 6 => some d
  | 4 => some (d.pcError c (32 * (a / 2 ^ 35) + a % 2 ^ 35 / 1024 % 32))
  | _ => none

/-- A single-bit error that a read of a space corrects: counted in HBM (R265). -/
def Device.sxCorrected (d : Device) (f : SxFields) (a : Nat) : Device := if f.space = 4 then d.hbmCount (a / 2 ^ 35) 3 1 else d

/-- The block of the table region that an address of Space 0x04 lies in, with its pair. -/
def sxBlock (f : SxFields) (a : Nat) : Option (Nat × Nat) :=
  if f.space = 4 ∧ a % 2 ^ 35 < segmentBytes then some (pairOf (a / 2 ^ 35), a % 2 ^ 35 / 64) else none

/-- One word of a space read, and what its memory's code finds in it: `ecc` says so of a word, which is not returned where the error is
uncorrectable (R178, R185, R405), and `blocks` of the copies of a block of the table region, which may be healed (R265, R267). -/
def Device.checkedRead (d : Device) (c : Clk) (f : SxFields) (a : Nat) (ecc : Ecc) (blocks : List BlockFound) :
    Except Nat (Nat × Device) × Device :=
  match d.spaceRead c f a with
  | .error st => (.error st, d)
  | .ok r =>
    match sxBlock f a with
    | some pb =>
      let d1 := d.copiesFound c (fun s b => (pairOf s, b) == pb && d.servedBy (a / 2 ^ 35) b == some s) blocks
      match d1.spaceRead c f a with
      | .ok r1 => (.ok r1, d1)
      | .error _ => (.error sxEcc, d1)
    | none =>
      match ecc with
      | .good => (.ok r, d)
      | .single => (.ok (r.1, r.2.sxCorrected f a), d)
      | .double =>
        match d.sxWorn c f a with
        | some d1 => (.error sxEcc, d1)
        | none => (.ok r, d)

/-- One word of a space written. -/
def Device.spaceWrite (d : Device) (c : Clk) (f : SxFields) (a v : Nat) : Except Nat Device :=
  if byteSpace f.space && a % 8 != 0 then .error sxAddress
  else match f.space with
    | 0 => match sxCtx f with | some k => if a < 2 ^ 32 then d.mapWrite c k a v else .error sxAddress | none => .error sxAddress
    | 1 => match sxCtx f with | some k => d.stateWrite k a v | none => .error sxAddress
    | 2 => match sxCluster f with | some cl => d.storeWrite cl a v | none => .error sxAddress
    | 3 => match sxCluster f with | some cl => d.dispatchWrite cl a v | none => .error sxAddress
    | 4 => d.hbmWrite a v
    | 7 => if f.unit = 1 then d.pilotWrite a v else .error sxAddress
    | _ => .error sxAddress

/-! ### Issuing a command (R400, R404) -/

/-- What a command answers at once: a status, or Data where it returns any and the device. -/
abbrev SxAct := Except Nat (Option Nat × Device)

/-- The checks every command passes before its own: the fuse, the opcode, the enable bits, the unused fields (R400, R404). -/
def Device.sxRefused (d : Device) (op : Nat) (f : SxFields) : Option Nat :=
  if d.sx.fused then some sxDisabled
  else if 0xC < op then some sxOpcode
  else if (d.get Obj.dbgEnable 0 &&& sxNeeds op f) ≠ sxNeeds op f then some sxDisabled
  else if !fieldsZero op f then some sxField
  else if (op = 6 ∨ op = 7) ∧ (f.count % 8 ≠ 0 ∨ f.count < 8 ∨ 65536 < f.count) then some sxField
  else none

/-- The result a command will complete with. -/
def Device.stage (d : Device) (status : Nat) (data : Option Nat) : Device := d.setSx { d.sx with staged := some (status, data) }

/-- The stacks that an access to a block of a stack goes to: in segment 0 the one that serves a read, and those of the pair that take a write
(R251); above it the stack itself. -/
def Device.sxStacks (d : Device) (write : Bool) (s b : Nat) : List Nat :=
  if segmentBytes ≤ b * 64 then [s] else if write then d.writingStacks (pairOf s, b) else (d.servedBy s b).toList

/-- The crossings that lead to what a command accesses, beside 0x08 (R338, Table 16.4, log 34): to the engine domain, to the stacks of the
blocks it reads or writes, or to the Lookout's history; none for the Pilot and for what it holds itself. -/
def Device.sxCrossings (d : Device) (op : Nat) (f : SxFields) : List Nat :=
  if [4, 5, 6, 7].contains op then
    let bytes := if op = 6 ∨ op = 7 then f.count else 8
    let s := f.address / 2 ^ 35
    let off := f.address % 2 ^ 35
    if f.space ≤ 3 then [1]
    else if f.space = 4 ∧ s < 4 then
      (((List.range ((off + bytes - 1) / 64 + 1 - off / 64)).map fun i => d.sxStacks (op == 5 || op == 7) s (off / 64 + i)).flatten.map
        (2 + ·)).eraseDups
    else if f.space = 5 then [0]
    else []
  else if op = 0 ∨ 0xC < op ∨ (op ≤ 3 ∧ f.unit = 1) then []
  else [1]

/-- A command whose access a crossing cannot carry ends with TIMEOUT (R341, R405). -/
def Device.sxTimedOut (d : Device) (x : Nat) : Device := (d.accessRefused x 0).callOffStep.stage sxTimeout none

/-- A command's access sent to what it names: done at once, or refused by its crossing (R339, R341). -/
def Device.sxSend (d : Device) (op : Nat) (f : SxFields) (done : Device) : Device :=
  match d.firstBlocked (d.sxCrossings op f) with
  | some x => d.sxTimedOut x
  | none => done.accessesDone (d.sxCrossings op f)

/-- Update-DR of SX_CMD issues a command; one issued while another runs is discarded (R404). `act` is the command's own part; STEP
and block commands leave their result to later. -/
def Device.sxIssue (d : Device) (op : Nat) (f : SxFields) (act : Device → Except Nat Device) : Device :=
  d.onTap .updateDr fun d =>
    if d.sx.ir ≠ 0x10 ∨ d.sx.running.isSome = true then d
    else
      let d : Device := d.setSx { d.sx with sequence := (d.sx.sequence + 1) % 65536, status := 1, running := some (op, f), staged := none }
      match d.sxRefused op f with
      | some st => d.stage st none
      | none =>
        if d.sxBlocked then (d.accessTimeout 8 0).stage sxTimeout none
        else match act d with
          | .ok d1 => if op = 6 ∨ op = 7 then d1 else d.sxSend op f d1
          | .error st => d.stage st none

/-- A command done with status OK and no Data. -/
def Device.sxOk (d : Device) : Except Nat Device := .ok (d.stage 0 none)

/-- HALT of a context or the Pilot (R409, R410, R415). -/
def Device.sxHalt (d : Device) (f : SxFields) : Except Nat Device :=
  if f.unit = 1 then
    if d.pwr.pilot = .running then
      (d.setSx { d.sx with pilotHalted := true, pilotRegs := if d.sx.pilotHalted then d.sx.pilotRegs else [] }).sxOk
    else .error sxState
  else match sxCtx f with
    | none => .error sxAddress
    | some k => if d.state = St.safe ∨ d.sxAllowed (k / 128) = false then .error sxState else (d.haltCtx k).sxOk

/-- RESUME of a context or the Pilot. -/
def Device.sxResume (d : Device) (f : SxFields) : Except Nat Device :=
  if f.unit = 1 then d.pilotResume.sxOk
  else match sxCtx f with
    | none => .error sxAddress
    | some k => (d.resumeCtx k).sxOk

/-- A step of the halted Pilot (R415): its registers hold what its firmware makes them, which is free. Data gives the new PC, the one that a
read of it then returns, and the trap cause 0, since R182's traps are the engines'; bits 31:24 are free, since Table 20.7 has codes of contexts
alone (Table 20.5; DESIGN CHOICE, log 92). -/
def Device.pilotStep (d : Device) : Device :=
  let pc := Config.freeValue d.free % 2 ^ 64
  let code := Config.freeValue (d.free + 1) % 256
  (d.spend.spend.setSx { d.sx with pilotRegs := [(32, pc)] }).stage 0 (some (pc % 2 ^ 16 + code * 2 ^ 24))

/-- STEP (R411): the context's engine runs its next word once it can start; a Pilot's step is over at once. -/
def Device.sxStep (d : Device) (f : SxFields) : Except Nat Device :=
  if f.unit = 1 then
    if d.sx.pilotHalted then .ok d.pilotStep else .error sxState
  else match sxCtx f with
    | none => .error sxAddress
    | some k =>
      if d.state = St.safe ∨ d.sxAllowed (k / 128) = false then .error sxState
      else match d.ctx? k with
        | some x => if x.halted then .ok (d.setCtx k { x with stepping := true, passed := true }) else .error sxState
        | none => .error sxState

/-- READ (R407). -/
def Device.sxRead (d : Device) (c : Clk) (f : SxFields) (ecc : Ecc) (blocks : List BlockFound) : Except Nat Device :=
  match d.checkedRead c f f.address ecc blocks with
  | (.ok r, _) => .ok (r.2.stage 0 (some r.1))
  | (.error st, d1) => .ok (d1.stage st none)

/-- WRITE (R407, R408). -/
def Device.sxWrite (d : Device) (c : Clk) (f : SxFields) : Except Nat Device :=
  match d.spaceWrite c f f.address f.data with
  | .ok d => d.sxOk
  | .error st => .error st

/-- The cluster and the number a point command names. -/
def sxPoint (f : SxFields) : Option (Nat × Nat) :=
  match sxCluster f with
  | some cl => if f.address < 10 then some (cl, f.address) else none
  | none => none

/-- A point as SET_POINT's Data gives it (R413): a mask of 0 selects every one; a watchpoint's length is 1 to 4,096 words. -/
def pointOf (n v : Nat) : Option Point :=
  let mask (m : Nat) : Option Nat := if m = 0 then none else some m
  if n < 8 then
    some { watch := false, address := v % 4096, last := v % 4096, engine := mask (fld v 31 16), context := mask (fld v 39 32), kind := 0 }
  else
    let len := fld v 44 32
    if len < 1 ∨ 4096 < len then none
    else some { watch := true, address := v % 2 ^ 32, last := v % 2 ^ 32 + 8 * len - 1, engine := none, context := none
                kind := fld v 47 46 }

/-- SET_POINT arms a point (R409, R413). -/
def Device.sxSetPoint (d : Device) (f : SxFields) : Except Nat Device :=
  match sxPoint f with
  | none => .error sxAddress
  | some (cl, n) =>
    match pointOf n f.data with
    | none => .error sxField
    | some p =>
      if d.sxAllowed cl then ({ d with eng := { d.eng with points := mapPut d.eng.points (cl * 10 + n) p } }).sxOk else .error sxState

/-- CLEAR_POINT disarms a point. -/
def Device.sxClearPoint (d : Device) (f : SxFields) : Except Nat Device :=
  match sxPoint f with
  | none => .error sxAddress
  | some (cl, n) => ({ d with eng := { d.eng with points := mapDel d.eng.points (cl * 10 + n) } }).sxOk

/-- START begins a debug pass in a FREE halted context (R412). -/
def Device.sxStart (d : Device) (f : SxFields) : Except Nat Device :=
  match sxCtx f with
  | none => .error sxAddress
  | some k =>
    if 4095 < f.address then .error sxAddress
    else if d.state = St.safe ∨ d.sxAllowed (k / 128) = false then .error sxState
    else match mapGet? d.sx.idle k with
      | none => .error sxState
      | some x =>
        let id := d.nextArrival
        let d : Device := id.2
        let y : Ctx := { x with
          flight := id.1, pc := f.address, pending := [], flags := 0, stack := [], window := x.window.take (fld x.record 335 327),
          tail := [], slots := [], lookups := [], verdict := none, mirrors := [], order := d.eng.next, waitMask := 0, barrier := false,
          halted := false, stepping := false, passed := false, debug := true }
        let d : Device := { d with eng := { d.eng with next := d.eng.next + 1 }
                                   sx := { d.sx with idle := mapDel d.sx.idle k, verdicts := mapDel d.sx.verdicts k } }
        (d.setCtx k y).sxOk

/-- HALT_ALL halts every context of every cluster, in MAINTENANCE only (R409). -/
def Device.sxHaltAll (d : Device) : Except Nat Device :=
  if d.state = St.maintenance then ((List.range 8192).foldl Device.haltCtx d).sxOk else .error sxState

/-- What the command that an Op selects does once its checks have passed (Table 20.5): a block command's words move later, and a reserved Op
has been refused already. -/
def Device.sxAct (d : Device) (c : Clk) (op : Nat) (f : SxFields) (ecc : Ecc) (blocks : List BlockFound) : Except Nat Device :=
  match op with
  | 0 => d.sxOk
  | 1 => d.sxHalt f
  | 2 => d.sxResume f
  | 3 => d.sxStep f
  | 4 => d.sxRead c f ecc blocks
  | 5 => d.sxWrite c f
  | 6 | 7 => .ok d
  | 8 => d.sxSetPoint f
  | 9 => d.sxClearPoint f
  | 10 => d.sxStart f
  | 11 => d.sxHaltAll
  | 12 => d.resumeAll.sxOk
  | _ => .error sxOpcode

/-- Update-DR of SX_CMD with a 160-bit word (R404, Table 20.4): the word's Op selects the command and its bits give the fields. -/
def Device.sxScan (d : Device) (c : Clk) (w : Nat) (ecc : Ecc) (blocks : List BlockFound) : Device :=
  d.sxIssue (fld w 159 152) (sxFieldsOf w) fun d => d.sxAct c (fld w 159 152) (sxFieldsOf w) ecc blocks

/-- NOP completes OK; every reserved Op completes with OPCODE (Table 20.5). -/
def execSxNop (op : Nat) (fields : SxFields) (s : State) : Host.Outcome State Fault Refusal :=
  onDev (Instr.sxNop op fields).wf (fun c d => if 1 ≤ op ∧ op ≤ 0xC then d else d.sxScan c (sxWord op fields) .good []) s

/-- HALT (R409, R410, R415). -/
def execSxHalt (fields : SxFields) (s : State) : Host.Outcome State Fault Refusal :=
  onDev (Instr.sxHalt fields).wf (fun c d => d.sxScan c (sxWord 1 fields) .good []) s

/-- RESUME. -/
def execSxResume (fields : SxFields) (s : State) : Host.Outcome State Fault Refusal :=
  onDev (Instr.sxResume fields).wf (fun c d => d.sxScan c (sxWord 2 fields) .good []) s

/-- STEP (R411). -/
def execSxStep (fields : SxFields) (s : State) : Host.Outcome State Fault Refusal :=
  onDev (Instr.sxStep fields).wf (fun c d => d.sxScan c (sxWord 3 fields) .good []) s

/-- READ (R407); `ecc` and `blocks` are what it finds. -/
def execSxRead (fields : SxFields) (ecc : Ecc) (blocks : List BlockFound) (s : State) : Host.Outcome State Fault Refusal :=
  onDev (Instr.sxRead fields ecc blocks).wf (fun c d => d.sxScan c (sxWord 4 fields) ecc blocks) s

/-- WRITE (R407, R408). -/
def execSxWrite (fields : SxFields) (s : State) : Host.Outcome State Fault Refusal :=
  onDev (Instr.sxWrite fields).wf (fun c d => d.sxScan c (sxWord 5 fields) .good []) s

/-- BLOCK_READ (R416). -/
def execSxBlockRead (fields : SxFields) (s : State) : Host.Outcome State Fault Refusal :=
  onDev (Instr.sxBlockRead fields).wf (fun c d => d.sxScan c (sxWord 6 fields) .good []) s

/-- BLOCK_WRITE (R416). -/
def execSxBlockWrite (fields : SxFields) (s : State) : Host.Outcome State Fault Refusal :=
  onDev (Instr.sxBlockWrite fields).wf (fun c d => d.sxScan c (sxWord 7 fields) .good []) s

/-- SET_POINT (R413). -/
def execSxSetPoint (fields : SxFields) (s : State) : Host.Outcome State Fault Refusal :=
  onDev (Instr.sxSetPoint fields).wf (fun c d => d.sxScan c (sxWord 8 fields) .good []) s

/-- CLEAR_POINT (R413). -/
def execSxClearPoint (fields : SxFields) (s : State) : Host.Outcome State Fault Refusal :=
  onDev (Instr.sxClearPoint fields).wf (fun c d => d.sxScan c (sxWord 9 fields) .good []) s

/-- START (R412). -/
def execSxStart (fields : SxFields) (s : State) : Host.Outcome State Fault Refusal :=
  onDev (Instr.sxStart fields).wf (fun c d => d.sxScan c (sxWord 10 fields) .good []) s

/-- HALT_ALL (R409). -/
def execSxHaltAll (fields : SxFields) (s : State) : Host.Outcome State Fault Refusal :=
  onDev (Instr.sxHaltAll fields).wf (fun c d => d.sxScan c (sxWord 11 fields) .good []) s

/-- RESUME_ALL. -/
def execSxResumeAll (fields : SxFields) (s : State) : Host.Outcome State Fault Refusal :=
  onDev (Instr.sxResumeAll fields).wf (fun c d => d.sxScan c (sxWord 12 fields) .good []) s

/-! ### Completion and block transfers (R405, R416) -/

/-- One word of a block transfer moved; `ecc` is what the code finds in a word read, and `blocks` what it finds in the blocks of the table
region, each read as its first word is. -/
def Device.moveWord (d : Device) (c : Clk) (write : Bool) (f : SxFields) (ecc : Ecc) (blocks : List BlockFound) (i : Nat) :
    Except Nat Device × Device :=
  let a := f.address + if byteSpace f.space then 8 * i else i
  if write then (d.spaceWrite c f a (d.bufferWord i), d)
  else match d.checkedRead c f a ecc (if i = 0 ∨ a % 64 = 0 then blocks else []) with
    | (.ok r, _) => (.ok (r.2.setBufferWord i r.1), d)
    | (.error st, d1) => (.error st, d1)

/-- Words `i` to `i + n − 1` of a block moved; the first that cannot be moved, or that fails its check, ends the block with its status. -/
def Device.moveWords (d : Device) (c : Clk) (write : Bool) (f : SxFields) (words : NMap Ecc) (blocks : List BlockFound) (i : Nat) :
    Nat → Nat × Device
  | 0 => (0, d)
  | n + 1 =>
    match d.moveWord c write f (mapGet words i .good) blocks i with
    | (.ok d, _) => Device.moveWords d c write f words blocks (i + 1) n
    | (.error st, d1) => (st, d1)

/-- A block that MEMORY's clearing cuts short moves a free number of its words and completes with DISABLED (R401). -/
def Device.cutBlock (d : Device) (c : Clk) : Device :=
  match d.sx.running, d.sx.staged with
  | some (op, f), none =>
    if op = 6 ∨ op = 7 then
      ((d.spend.moveWords c (op == 7) f [] [] 0 (Config.freeValue d.free % (f.count / 8))).2).stage sxDisabled none
    else d
  | _, _ => d

/-- The result of the running command, where it is there: a block is moved now; a STEP whose context no longer steps ends with STATE;
a fabric timeout ends either with TIMEOUT (R341, R405). -/
def Device.sxResolve (d : Device) (c : Clk) (op : Nat) (f : SxFields) (words : NMap Ecc) (blocks : List BlockFound) : Device :=
  match d.sx.staged with
  | some _ => d
  | none =>
    if d.sxBlocked then (d.accessTimeout 8 0).callOffStep.stage sxTimeout none
    else if op = 6 ∨ op = 7 then
      let r := d.moveWords c (op == 7) f words blocks 0 (f.count / 8)
      d.sxSend op f (r.2.stage r.1 none)
    else match d.firstBlocked (d.sxCrossings op f) with
      | some x => d.sxTimedOut x
      | none =>
        let steps := match sxCtx f with
          | some k => match d.ctx? k with | some x => x.stepping | none => false
          | none => false
        if steps then d else d.stage sxState none

/-- The result of the running command enters SX_RESULT; Data is free for a command that returns none (log 2). Its request of crossing 0x08 is
acknowledged, but for one that ends with TIMEOUT (R339, log 34). -/
def Device.sxFinish (d : Device) : Device :=
  match d.sx.staged with
  | none => d
  | some (st, some v) => (d.accessDone 8).setSx { d.sx with status := st, data := v % 2 ^ 64, running := none, staged := none }
  | some (st, none) =>
    (if st = sxTimeout then d.spend else d.spend.accessDone 8).setSx
      { d.sx with status := st, data := Config.freeValue d.free % 2 ^ 64, running := none, staged := none }

/-- A command finishes; `words` and `blocks` are what the words and the table blocks of a block read show. -/
def execSxCommandComplete (words : NMap Ecc) (blocks : List BlockFound) (s : State) : Host.Outcome State Fault Refusal :=
  onDev (Instr.sxCommandComplete words blocks).wf
    (fun c d =>
      match d.sx.running with
      | some (op, f) => (d.sxResolve c op f words blocks).sxFinish
      | none => d) s

/-- TCK is absent (R335, R415): CLK.Status of the debug domain reads ABSENT from the first such event on, and one 100 ms or more later
resumes a halted Pilot. -/
def execDebugClockAbsent (s : State) : Host.Outcome State Fault Refusal :=
  onDev Instr.debugClockAbsent.wf
    (fun c d =>
      if d.state = St.reset then d
      else match d.sx.absentAt with
        | none =>
          let d := (d.setFld Obj.clkStatus 9 31 0 0).setFld Obj.clkStatus 9 63 56 2
          d.setSx { d.sx with absentAt := some c.ticks }
        | some t => if t + ticksOf 100000000 ≤ c.ticks then d.pilotResume else d) s

/-! ### The DBG objects (Table 20.1) -/

/-- What clearing bits of DBG.Enable does (R401). -/
def Device.disableSx (d : Device) (c : Clk) (gone : Nat) : Device :=
  let d1 : Device := if bit gone 0 then { d.resumeAll with eng := { d.resumeAll.eng with points := [] } } else d
  let d2 : Device := if bit gone 1 then d1.pilotResume else d1
  if bit gone 2 then d2.cutBlock c else d2

/-- A write of DBG.Enable (R401, R402). -/
def Device.writeDbgEnable (d : Device) (c : Clk) (v : Nat) : Wr :=
  if d.sx.fused ∧ v ≠ 0 then .error stAccess
  else
    let old := d.get Obj.dbgEnable 0
    let new := v % 8
    .ok ((d.disableSx c (old ^^^ (old &&& new))).set Obj.dbgEnable 0 new)

/-- A write of DBG.FuseDisable (R402). -/
def Device.writeDbgFuse (d : Device) (c : Clk) (v : Nat) : Wr :=
  if v ≠ 0x5EC70FF0 then .error stType
  else if d.sx.fused then .error stAccess
  else
    let d1 : Device := (d.disableSx c (d.get Obj.dbgEnable 0)).set Obj.dbgEnable 0 0
    .ok (d1.setSx { d1.sx with fused := true })

/-- Halted contexts. -/
def Device.haltedContexts (d : Device) : List Nat :=
  ((d.eng.ctx.filter fun kv => kv.2.halted).map Prod.fst) ++ d.sx.idle.map Prod.fst

/-- DBG.Status (Table 20.2). -/
def Device.viewDbgStatus (d : Device) : Nat :=
  at_ 127 127 (b2n d.sx.fused) + at_ 126 126 (b2n (d.clockState 9 == 0)) + at_ 125 125 (b2n d.sx.pilotHalted)
    + at_ 119 104 d.haltedContexts.length + at_ 103 88 d.eng.points.length + d.rd Obj.dbgStatus 0 63 0

/-- DBG.Halted of a cluster. -/
def Device.viewHalted (d : Device) (cl : Nat) : Nat :=
  (List.range 16).foldl (fun a k => a + b2n (d.haltedContexts.any fun h => h / 8 == 16 * cl + k) * 2 ^ k) 0

/-- The Sextant holds halted a context of an unfenced cluster, which refuses PORT.Enable := 1 (R373). -/
def Device.sxHoldsUnfenced (d : Device) : Bool := d.haltedContexts.any fun h => !d.clusterFenced (h / 128)

end Sys2Proof.Machine
end

