-- ==== Sys2Proof/Machine/Chart.lean ====
section
/-! DEFINITION. The Chart as software reads and writes it (chapter 02): what each element reads as, what each write does, the Helm, and
the checks of an item in the order of R28. -/

namespace Sys2Proof.Machine

/-! ### Reading an element -/

/-- Milliseconds since the last executed request of an originator (Table 2.3). -/
def Device.lastHeard (d : Device) (c : Clk) (orig : Nat) : Nat :=
  match mapGet? d.mgmt.heard orig with
  | some t => min ((c.ticks - t) / 1250000) 0xFFFFFFFE
  | none => 0xFFFFFFFF

/-- Elements whose value is made at the read, areas 0x0xxx to 0x7xxx. -/
def Device.viewLow (d : Device) (c : Clk) (o e : Nat) : Nat :=
  match o with
  | 0x0206 => d.lastHeard c e
  | 0x2002 => d.viewPortStatus e
  | 0x4802 => d.viewBank c e
  | 0x5000 => d.viewCluster e
  | 0x6043 => d.viewTas c e
  | 0x7003 => d.viewPoolStatus e
  | 0x7041 => d.viewSepStack c e
  | 0x7043 => d.viewQueueState
  | 0x7082 => d.viewStack e
  | _ => d.get o e

/-- Elements whose value is made at the read, areas 0x8xxx and above. -/
def Device.viewHigh (d : Device) (c : Clk) (o e : Nat) : Nat :=
  match o with
  | 0x8000 => c.time80
  | 0x9000 => d.viewLook
  | 0x9003 => d.viewSource c e
  | 0x9004 => d.viewUnit c e
  | 0xB005 => d.viewOutstanding e
  | 0xB006 => d.viewIdle e
  | 0xB013 => d.viewHeld e
  | 0xC001 => d.viewDbgStatus
  | 0xC003 => d.bufferWord e
  | 0xC004 => d.viewHalted e
  | 0xE001 => d.viewCrossing e
  | _ => d.get o e

/-- An element read (R15, R353): its value and the device after the read, or the status that refuses it. -/
def Device.readElement (d : Device) (c : Clk) (o e : Nat) : Except Nat (Nat × Device) :=
  if isBank o then .ok (d.viewBankElement o e, d)
  else if o = Obj.memData then
    match d.readMemData c e with
    | .ok v => .ok (v, d)
    | .error st => .error st
  else if o = Obj.cntSnapshotImage then
    match d.readSnapshotImage e with
    | .ok v => .ok (v, d)
    | .error st => .error st
  else if o = Obj.tsqPop then .ok (d.readTsqPop e)
  else if o = Obj.laserStatus then .ok (d.readLaser e)
  else if o = Obj.pwrStatus then .ok (d.pwr.status, d)
  else if o = Obj.pwrRail then .ok (d.readRail e, d)
  else if o < 0x8000 then .ok (d.viewLow c o e, d)
  else .ok (d.viewHigh c o e, d)

/-! ### Writing an element -/

/-- A value stored where it is in range, and refused with TYPE otherwise. -/
def Device.writeRange (d : Device) (o e v : Nat) (ok : Bool) : Wr := if ok then .ok (d.set o e v) else .error stType

/-- Writes in area 0x0xxx (Table 2.3). -/
def Device.writeArea0 (d : Device) (o e v : Nat) : Wr :=
  match o with
  | 0x0010 => d.writeRange o 0 v (!bit v 15)
  | 0x0020 => d.writeRestart v
  | 0x0101 => d.writeRange o 0 v (decide (100 ≤ v ∧ v ≤ 60000))
  | 0x0200 => d.writeRange o 0 v (v != 0)
  | 0x0201 => d.writeRange o 0 v (decide (v ≤ 3))
  | 0x0203 => d.writeRange o 0 v (decide (v ≤ 1))
  | 0x0204 => d.writeRange o e (v % 4) (v % 4 != 0)
  | _ => .ok (d.set o e v)

/-- Writes in area 0x1xxx (chapter 10). -/
def Device.writeArea1 (d : Device) (c : Clk) (o e v : Nat) : Wr :=
  match o with
  | 0x1000 => d.writeStage e v
  | 0x1002 => d.writeApply c.ticks e v
  | 0x1012 => d.writeFuseOwner v
  | 0x1103 => d.writeLoad e v
  | 0x1106 => d.writePendingClass e v
  | 0x1201 => d.writePilotStage v
  | 0x1202 => d.writeSwitch v
  | 0x1203 => d.writeConfirm v
  | 0x1204 => d.writeRange o 0 v (decide (10000 ≤ v ∧ v ≤ 600000))
  | _ => .ok (d.set o e v)

/-- Writes in area 0x2xxx (chapter 04). -/
def Device.writeArea2 (d : Device) (c : Clk) (o e v : Nat) : Wr :=
  match o with
  | 0x2000 => d.writePortConfig c e v
  | 0x2001 => d.writePortEnable c e v d.sxHoldsUnfenced
  | 0x2004 => .ok (d.set o 0 (v % 4))
  | 0x2021 => d.writeSwapRequest c e v
  | _ => .ok (d.set o e v)

/-- Writes in area 0x3xxx (chapter 05). -/
def Device.writeArea3 (d : Device) (o e v : Nat) : Wr :=
  match o with
  | 0x3100 => d.writeClassMap e v
  | 0x3101 => d.writeSegment e v
  | 0x3102 => d.writeKeyLookup e v
  | 0x3103 => d.writeHash e v
  | 0x3200 => d.writeIndirection e v
  | 0x3201 => d.writeFenceTarget e v
  | _ => .ok (d.set o e v)

/-- Writes in area 0x4xxx (chapters 06, 07). -/
def Device.writeArea4 (d : Device) (o e v : Nat) : Wr :=
  match o with
  | 0x4000 => d.writeAgePeriod e v
  | 0x4001 => .ok (d.set o e (v % 8))
  | 0x4800 => d.writeTcamTable e v
  | 0x4801 => d.writeSegmentTag e v
  | 0x4806 => .ok (d.set o 0 (v % 2))
  | 0x4807 => d.writeBankErrorLimit v
  | _ => .ok (d.set o e v)

/-- Writes in area 0x5xxx (chapter 08). -/
def Device.writeArea5 (d : Device) (c : Clk) (o e v : Nat) : Wr :=
  match o with
  | 0x5001 => d.writeFence e v
  | 0x5002 => d.writeEngineFence e v
  | 0x5004 => d.writeWatchdog e v
  | 0x5009 => d.writePuntPool v
  | 0x500A => d.writeMirror e v
  | 0x5010 => d.writeMemAddress v
  | 0x5011 => d.writeMemData c e v
  | 0x5012 => .ok (d.writeSegments c v)
  | _ => .ok (d.set o e v)

/-- TAS.Admin without its reserved bits (Table 13.9). -/
def tasAdminClean (v : Nat) : Nat := putFld (putFld v 254 240 0) 111 0 0

/-- Writes in area 0x6xxx (chapter 13). -/
def Device.writeArea6 (d : Device) (c : Clk) (o e v : Nat) : Wr :=
  match o with
  | 0x6000 => d.writeNode kPort e v
  | 0x6001 => d.writeNode kService e v
  | 0x6002 => d.writeNode kSubscriber e v
  | 0x6003 => d.writeClassProfile e v
  | 0x6004 => d.writeFlush c v
  | 0x6010 => d.writePuntPolicer e v
  | 0x6020 => d.writePolicer 0 e v
  | 0x6021 => d.writePolicer 1 e v
  | 0x6022 => d.writePolicer 2 e v
  | 0x6023 => d.writePolicer 3 e v
  | 0x6040 => .ok (d.set o e (tasAdminClean v))
  | 0x6042 => d.writeTasApply c e v
  | 0x6050 => d.writeHistEdges e v
  | _ => .ok (d.set o e v)

/-- Writes in area 0x7xxx (chapters 11, 12). -/
def Device.writeArea7 (d : Device) (c : Clk) (o e v : Nat) : Wr :=
  match o with
  | 0x7000 => d.writePoolConfig e v
  | 0x7001 => d.writeClassAdmit e v
  | 0x7002 => d.writeClassPool e v
  | 0x7040 => d.writeSepConfig v
  | 0x7042 => d.writeQueueSelect v
  | 0x7080 => d.writeHbmConfig v
  | 0x7081 => d.writeHbmRequest c e v
  | _ => .ok (d.set o e v)

/-- Writes in areas 0x8xxx to 0xAxxx that leave device time alone (chapters 14, 15, 17); `orig` is the originator. -/
def Device.writeArea8 (d : Device) (c : Clk) (orig o e v : Nat) : Wr :=
  match o with
  | 0x8001 => d.writeIncrement v
  | 0x8003 => d.writeJumpLimit v
  | 0x8010 => d.writePpsOut v
  | 0x8101 => .ok (d.set o e (v % 2))
  | 0x9001 => d.writeLookConfig v
  | 0x9002 => d.writeSeverity e v
  | 0x9005 => d.writeUnfence c v
  | 0x9200 => d.writeDumpControl c v
  | 0xA000 => d.writeSnapshotAt c orig v
  | _ => .ok (d.set o e v)

/-- Writes in areas 0xBxxx and 0xCxxx (chapters 03, 20). -/
def Device.writeAreaB (d : Device) (c : Clk) (o e v : Nat) : Wr :=
  match o with
  | 0xB000 => d.writeWqConfig e v
  | 0xB001 => d.writeWqEnable e v
  | 0xB002 => d.writeDoorbell e v
  | 0xB003 => d.writeCacheInvalidate e v
  | 0xB009 => d.writeFunctionReset e v
  | 0xB010 => d.writeCqConfig e v
  | 0xB012 => d.writeConsumer e v
  | 0xB014 => d.writeStall e v
  | 0xC000 => d.writeDbgEnable c v
  | 0xC002 => d.writeDbgFuse c v
  | _ => .ok (d.set o e v)

/-- The write of an object by its area. -/
def Device.writePlain (d : Device) (c : Clk) (orig o e v : Nat) : Wr :=
  match o / 4096 with
  | 0 => d.writeArea0 o e v
  | 1 => d.writeArea1 c o e v
  | 2 => d.writeArea2 c o e v
  | 3 => d.writeArea3 o e v
  | 4 => d.writeArea4 o e v
  | 5 => d.writeArea5 c o e v
  | 6 => d.writeArea6 c o e v
  | 7 => d.writeArea7 c o e v
  | 8 | 9 | 10 => d.writeArea8 c orig o e v
  | _ => d.writeAreaB c o e v

/-- A write's outcome: its status, and device time and device afterwards. -/
def wrote (c : Clk) (d : Device) (w : Wr) : Nat × Clk × Device :=
  match w with
  | .ok d' => (0, c, d')
  | .error st => (st, c, d)

/-- W1C elements without a tie (R17): JUMP_REFUSED, OVERFLOW and OVERRUN. -/
def Device.clearBits (d : Device) (o e v : Nat) : Device := d.set o e (d.get o e - (d.get o e &&& v))

/-- An element written with a value of its type (R16, R17): a BOOL above 1 and a TIME80 of 10^9 ns or more are refused with TYPE. -/
def writeElement (c : Clk) (d : Device) (orig : Nat) (r : ObjInfo) (e v : Nat) : Nat × Clk × Device :=
  let o := r.number
  if r.ty = 1 ∧ 1 < v then (stType, c, d)
  else if r.ty = 8 ∧ 999999999 < fld v 31 0 then (stType, c, d)
  else if o = Obj.timeNow then writeTimeNow c d v
  else if o = Obj.timeStep then writeTimeStep c d v
  else if o = Obj.lookSourceStatus then let x := d.writeSourceStatus c e v; (x.1, c, x.2)
  else if o = Obj.lookUnitStatus then let x := d.writeUnitStatus c e v; (x.1, c, x.2)
  else if r.access = .w1c ∧ o ≠ Obj.cqStall then (0, c, d.clearBits o e v)
  else wrote c d (d.writePlain c orig o e v)

/-! ### The checks of an item (R18, R20, R22, R28, R38, R43) -/

/-- The areas served for reads and for writes (R20, Table 15.12). -/
def Device.served (d : Device) (area : Nat) (write : Bool) : Bool :=
  if d.state ≤ St.awaitImage then area == 0 || area == 1 || area == 9 || area == 0xD
  else if d.state = St.safe ∧ write = true then area == 0 || area == 9 || area == 0xC
  else true

/-- The supervisor whose function an element of area 0xBxxx belongs to (R43). -/
def ownerOf (o e : Nat) : Option Nat :=
  if o / 4096 ≠ 11 then none
  else if o < 0xB009 then some (e / 16)
  else if o = 0xB009 then some e
  else some (e / 8)

/-- An element of another supervisor's function lies in a range (R43). -/
def foreign (orig o e n : Nat) : Bool :=
  (List.range n).any fun i => match ownerOf o (e + i) with | some f => f != orig | none => false

/-- The area of an object is locked (R22). -/
def Device.locked (d : Device) (o : Nat) : Bool := bit (d.get Obj.devChartLock 0) (o / 4096) && o != Obj.devChartLock

/-- The holder of a Helm token; 0xFF while it is free (R38). -/
def Device.holder (d : Device) (token : Nat) : Nat := d.get Obj.helmToken token

/-- The originator does not hold the token that guards an object (R38). -/
def Device.unheld (d : Device) (orig : Nat) (r : ObjInfo) : Bool := match r.token with | some t => d.holder t != orig | none => false

/-- An object item of a request: object, first element, count, TypeCode, ValueLength and its value bytes (Table 2.8). -/
structure ObjItem where
  object : Nat
  element : Nat
  count : Nat
  ty : Nat
  length : Nat
  value : Bytes
deriving DecidableEq, Repr

/-- The fabric crossing that a Chart access takes (Table 16.4, log 34): that of the engine domain for a counter bank, which is read from
the image in common-store segment 15 (R351, R353); that of the pipeline domain for the Lookout's registers (15_lookout.md); none for what the
Pilot holds itself, the dump's and the Sextant's registers among it. -/
def chartCrossing (o e : Nat) : Option Nat :=
  if isBank o then some 1
  else match o / 4096 with
  | 2 =>
    if o ≤ 0x2003 ∨ o = 0x2010 then some (0x10 + e / 32)
    else if o = 0x2020 then some (0x10 + e / 10)
    else if o = 0x2021 ∨ o = 0x2022 then some (0x10 + e)
    else none
  | 3 | 4 | 6 => some 0
  | 5 | 10 => some 1
  | 7 => if o = 0x7081 ∨ o = 0x7082 ∨ o = 0x7084 then some (2 + e) else if o = 0x7083 then some (2 + e / 32) else some 0
  | 8 => some 6
  | 9 => if o < 0x9200 then some 0 else none
  | _ => none

/-- A Chart access of an element that its crossing cannot carry (R341). -/
def Device.stalled (d : Device) (o e : Nat) : Option Nat :=
  match chartCrossing o e with
  | some x => if d.crossBlocked x then some x else none
  | none => none

/-- A Chart access of an element acknowledged: one request of its crossing (R339, log 34). -/
def Device.accessed (d : Device) (o e : Nat) : Device :=
  match chartCrossing o e with
  | some x => d.accessDone x
  | none => d

/-! ### READ items -/

/-- The checks of a READ item, in the order of R28: 0 where it passes them. -/
def Device.readCheck (d : Device) (c : Clk) (orig : Nat) (it : ObjItem) : Nat :=
  match objInfo? it.object with
  | none => 1
  | some r =>
    if r.count < it.element + max it.count 1 then 1
    else if (2 ≤ orig ∧ r.obs = false) ∨ r.access = .wo then stAccess
    else if it.count = 0 ∨ it.ty ≠ 0 ∨ it.length ≠ 0 then stType
    else if !d.served (it.object / 4096) false then stBusy
    else if (List.range it.count).any fun i =>
        match d.readElement c it.object (it.element + i) with | .error _ => true | .ok _ => false then stBusy
    else 0

/-- Elements read in increasing order; a fabric timeout stops the transfer: the status, the values, and the device. -/
def Device.readElements (d : Device) (c : Clk) (o size e : Nat) : Nat → Nat × Bytes × Device
  | 0 => (0, [], d)
  | n + 1 =>
    match d.stalled o e with
    | some x => (stTimeout, [], d.accessRefused x o)
    | none =>
      match d.readElement c o e with
      | .error st => (st, [], d)
      | .ok (v, d) =>
        let r := Device.readElements (d.accessed o e) c o size (e + 1) n
        (r.1, natBe size v ++ r.2.1, r.2.2)

/-- What an item's response carries (R30): a refused item echoes its TypeCode, or 0x00 in place of a reserved one, which the device
never sends (Table 2.1, log 35). -/
def ObjItem.answer (it : ObjItem) (status count ty : Nat) (value : Bytes) : Bytes :=
  itemBytes it.object it.element count status (if 0x0A < ty then 0 else ty) value

/-- The first word of a MEM.Data item whose check finds an uncorrectable error, among those of `bad` (R178). -/
def Device.wornWord (d : Device) (bad : List Nat) (it : ObjItem) : Option Nat :=
  if it.object = Obj.memData ∧ d.stalled it.object it.element = none then
    ((List.range it.count).map (it.element + ·)).find? bad.contains
  else none

/-- An uncorrectable word read through MEM.Data is reported against its memory (R178). -/
def Device.memDataBad (d : Device) (e : Nat) : Device := let t := wordTarget (d.memPlace e); d.raise 0x04 t.1 t.2

/-- A READ item executed: the bytes of its response item. A word of MEM.Data in `bad` fails its check, and its item answers BUSY. -/
def Device.readItem (d : Device) (c : Clk) (orig : Nat) (bad : List Nat) (it : ObjItem) : Bytes × Device :=
  match d.readCheck c orig it, objInfo? it.object with
  | 0, some r =>
    match d.wornWord bad it with
    | some e => (it.answer stBusy 0 it.ty [], d.memDataBad e)
    | none =>
      let x := d.readElements c it.object r.size it.element it.count
      (it.answer x.1 (x.2.1.length / r.size) r.ty x.2.1, x.2.2)
  | st, _ => (it.answer st 0 it.ty [], d)

/-! ### WRITE items -/

/-- The values of a WRITE item. -/
def ObjItem.values (it : ObjItem) (size : Nat) : List Nat := (List.range it.count).map fun i => beAt it.value (size * i) size

/-- The statuses with which the elements of a WRITE item would be refused as things stand (R28). -/
def Device.rehearse (d : Device) (c : Clk) (orig : Nat) (r : ObjInfo) (it : ObjItem) : List Nat :=
  ((List.range it.count).zip (it.values r.size)).map fun x => (writeElement c d orig r (it.element + x.1) x.2).1

/-- An object's own rule refuses a write of an element with ACCESS (R28 step 2): UCODE.FuseOwner (R214), MEM.Data in segment 15 (R177),
WQ.Enable of a queue that BULK_WRITE fills (R45), DBG.Enable and DBG.FuseDisable (R402). `v` is what the item's bytes give for it. -/
def Device.writeBarred (d : Device) (o e v : Nat) : Bool :=
  match o with
  | 0x1012 => bit d.img.keyPolicy 0
  | 0x5011 => decide (0x2F00000 ≤ d.memPlace e)
  | 0xB001 => v == 0 && d.get Obj.wqEnable e == 1 && d.wqBulk e
  | 0xC000 => d.sx.fused && v != 0
  | 0xC002 => d.sx.fused && v == 0x5EC70FF0
  | _ => false

/-- A WRITE item has its object's type and the length of its elements. -/
def ObjItem.sized (it : ObjItem) (r : ObjInfo) : Bool := it.ty == r.ty && it.length == it.count * r.size

/-- The checks of a WRITE item, in the order of R28: 0 where it passes them. -/
def Device.writeCheck (d : Device) (c : Clk) (orig : Nat) (it : ObjItem) : Nat :=
  match objInfo? it.object with
  | none => 1
  | some r =>
    let found := if it.sized r then d.rehearse c orig r it else []
    let barred := (List.range (max it.count 1)).any fun i => d.writeBarred it.object (it.element + i) (beAt it.value (r.size * i) r.size)
    if r.count < it.element + max it.count 1 then 1
    else if r.access = .ro ∨ foreign orig it.object it.element (max it.count 1) = true ∨ barred = true then stAccess
    else if d.locked it.object then 4
    else if d.unheld orig r then stHelm
    else if it.count = 0 ∨ it.sized r = false then stType
    else
      let busy := !d.served (it.object / 4096) true || found.contains stBusy
      if busy then (if found.contains stType then stType else stBusy) else 0

/-- Elements written in increasing order; the first that fails stops the transfer: its status, how many were written, the state. -/
def writeElements (c : Clk) (d : Device) (orig : Nat) (r : ObjInfo) (e : Nat) : List Nat → Nat × Nat × Clk × Device
  | [] => (0, 0, c, d)
  | v :: vs =>
    match d.stalled r.number e with
    | some x => (stTimeout, 0, c, d.accessRefused x r.number)
    | none =>
      let w := writeElement c d orig r e v
      if w.1 ≠ 0 then (w.1, 0, w.2.1, w.2.2.accessed r.number e)
      else
        let x := writeElements w.2.1 (w.2.2.accessed r.number e) orig r (e + 1) vs
        (x.1, x.2.1 + 1, x.2.2)

/-- A step that R299 refuses with TYPE counts and reports although its area is not served (R20, R28). -/
def writeRefused (c : Clk) (d : Device) (orig : Nat) (it : ObjItem) (st : Nat) : Device :=
  match objInfo? it.object with
  | some r =>
    if st = stType ∧ it.sized r = true ∧ it.count = 1 ∧ (it.object = Obj.timeStep ∨ it.object = Obj.timeNow) then
      (writeElement c d orig r it.element (beAt it.value 0 r.size)).2.2
    else d
  | none => d

/-- The object's writes move or re-rate device time, each at a tick of its own (R298). -/
def setsTime (o : Nat) : Bool := o == Obj.timeNow || o == Obj.timeIncrement || o == Obj.timeStep

/-- A WRITE item executed: the bytes of its response item. It carries the status and the Count of elements written, and neither value nor
ValueLength: Table 2.11 gives a WRITE a status per item, and Table 2.8 does not except it from Count × element size (DESIGN CHOICE, log
35). -/
def writeItem (c : Clk) (d : Device) (orig : Nat) (it : ObjItem) : Bytes × Clk × Device :=
  match d.writeCheck c orig it, objInfo? it.object with
  | 0, some r =>
    let x := writeElements c d orig r it.element (it.values r.size)
    (it.answer x.1 x.2.1 it.ty [], x.2.2)
  | st, _ => (it.answer st 0 it.ty [], c, writeRefused c d orig it st)

/-! ### The Helm (R38) -/

/-- A token's holder set. -/
def Device.setHolder (d : Device) (token h : Nat) : Device := d.set Obj.helmToken token h

/-- HELM_TAKE of a token: the status and the device. -/
def Device.helmTake (d : Device) (c : Clk) (orig token : Nat) : Nat × Device :=
  let h := d.holder token
  if h = 0xFF ∨ h = orig then (0, d.setHolder token orig)
  else if d.lastHeard c h < d.get Obj.helmTimeout 0 then (stHelm, d)
  else (0, d.setHolder token orig)

/-- HELM_GIVE of a token. -/
def Device.helmGive (d : Device) (orig token : Nat) : Nat × Device :=
  if d.holder token = orig then (0, d.setHolder token 0xFF) else (stHelm, d)

/-- A Helm item executed (R25, R38): the response value is the holder before the operation. One that the token's holder refuses answers
HELM whatever else is wrong with it, since R28 checks the token before the type (log 11). An Element that is in range with a Count that
runs past the last token fails by its Count, with TYPE (DESIGN CHOICE, log 80). -/
def Device.helmItem (d : Device) (c : Clk) (take : Bool) (orig : Nat) (it : ObjItem) : Bytes × Device :=
  if it.object ≠ Obj.helmToken ∨ 15 < it.element then (it.answer 1 0 it.ty [], d)
  else
    let old := d.holder it.element
    let r := if take then d.helmTake c orig it.element else d.helmGive orig it.element
    if r.1 = 0 ∧ (it.count ≠ 1 ∨ it.ty ≠ 0 ∨ it.length ≠ 0) then (it.answer stType 0 it.ty [], d)
    else (it.answer r.1 1 2 (natBe 1 old), r.2)

end Sys2Proof.Machine
end

