-- ==== Sys2Proof/Machine/Dump.lean ====
section
/-! DEFINITION. The state dump (R331 to R333): its header, directory and sections, and the writing of the two stores. -/

namespace Sys2Proof.Machine

/-! ### Sections (R332, Tables 15.15 and 15.16) -/

/-- A section: its kind, its Base, and its bytes. -/
structure Section where
  kind : Nat
  base : Nat
  bytes : Bytes
deriving DecidableEq, Repr

/-- An element as a dump shows it. -/
def Device.dumpElement (d : Device) (c : Clk) (o e : Nat) : Nat :=
  match d.readElement c o e with
  | .ok (v, _) => v
  | .error _ => 0

/-- Every element of an object as one item with Status 0x00. -/
def Device.dumpItem (d : Device) (c : Clk) (o : Nat) : Bytes :=
  match objInfo? o with
  | none => []
  | some r => itemBytes o 0 r.count 0 r.ty ((List.range r.count).flatMap fun e => natBe r.size (d.dumpElement c o e))

/-- An item section. -/
def Device.itemSection (d : Device) (c : Clk) (kind : Nat) (os : List Nat) : Section :=
  { kind := kind, base := 0, bytes := os.flatMap (d.dumpItem c) }

/-- The objects of the item sections (Table 15.16). -/
def lookoutObjects : List Nat :=
  [Obj.lookStatus, Obj.lookHistory, Obj.lookSourceStatus, Obj.lookUnitStatus, Obj.lookSeverity, Obj.lookSourceCount, Obj.lookCounters]
def deviceObjects : List Nat :=
  [Obj.devPartId, Obj.devStepping, Obj.devSerial, Obj.devStraps, Obj.devState, Obj.bdpCount, Obj.timeNow, Obj.pilotStatus,
   Obj.ucodeVersion, Obj.ucodeImageHash, Obj.ucodeCompatClass, Obj.clStatus, Obj.portStatus, Obj.hbmStackStatus, Obj.hbmPcStatus,
   Obj.sepStack, Obj.bufStatus]
def logObjects : List Nat := [Obj.clTrapLog, Obj.clTrapCount, Obj.tcamErrorLog, Obj.tcamErrorCount]
def queueObjects : List Nat :=
  (objRows.filter fun r => decide (0xB000 ≤ r.number ∧ r.number ≤ 0xB016) && r.access != .wo).map ObjInfo.number

/-- The sections of both dumps, 0x01 to 0x05. -/
def Device.commonSections (d : Device) (c : Clk) : List Section :=
  [d.itemSection c 1 lookoutObjects, d.itemSection c 2 deviceObjects, d.itemSection c 3 logObjects,
   { kind := 4, base := 0x02F00000, bytes := (List.range 131072).flatMap fun i => natBe 8 (d.counterWord (8 * i)) },
   d.itemSection c 5 queueObjects]

/-- The sections of the HBM dump alone, 0x10 to 0x13. -/
def Device.hbmSections (d : Device) : List Section :=
  [{ kind := 0x10, base := 0x02000000, bytes := memRead d.eng.common 0 15728640 },
   { kind := 0x11, base := 0x01000000, bytes := memRead d.eng.scratch 0 16777216 },
   { kind := 0x12, base := 0, bytes := memRead d.queueStore 0 8388608 },
   { kind := 0x13, base := 0, bytes := (List.range 262144).flatMap fun q => natBe 4 (d.depth q) }]

/-- Directory entries from an offset. -/
def directory : Nat → List Section → Bytes
  | _, [] => []
  | off, s :: ss => natBe 16 (at_ 127 120 s.kind + at_ 95 64 off + at_ 63 32 s.bytes.length + at_ 31 0 s.base)
      ++ directory (off + s.bytes.length) ss

/-- The header of a dump (Table 15.14). -/
def Device.dumpHeader (d : Device) (x : Dumping) (status sections length : Nat) : Bytes :=
  natBe 64 (at_ 511 480 0x5A504450 + at_ 479 464 1 + at_ 463 456 status + at_ 455 448 (if x.safe then 1 else 2)
    + at_ 447 440 x.cause + at_ 439 432 (d.get Obj.bdpEpoch 0) + at_ 431 416 sections + at_ 399 320 x.time
    + at_ 319 288 length + at_ 255 128 (Config.serial % 2 ^ 128))

/-- A dump whole: header, directory, sections (R332). -/
def Device.dumpImage (d : Device) (x : Dumping) (status : Nat) (ss : List Section) : Bytes :=
  let body := directory (64 + 16 * ss.length) ss ++ ss.flatMap Section.bytes
  d.dumpHeader x status ss.length (64 + body.length) ++ body

/-! ### Writing (R331) -/

/-- Where the HBM dump goes: the region offset, or nowhere. -/
def Device.dumpPlace (d : Device) : Option Nat :=
  if d.stackState 0 = 1 ∨ d.stackState 2 = 1 then some 0
  else if d.stackState 1 = 1 ∨ d.stackState 3 = 1 then some 0x20000000
  else none

/-- Bytes written to the HBM dump region, mirrored within the pair (R251); a block written whole is no longer poisoned. -/
def Device.dumpWrite (d : Device) (off : Nat) (bs : Bytes) : Device :=
  let d : Device := { d with hbm := { d.hbm with dump := memWriteAll d.hbm.dump off bs } }
  let d : Device := { d with hbm := { d.hbm with dumpSpans := if (off, bs.length) ∈ d.hbm.dumpSpans then d.hbm.dumpSpans
                                                               else d.hbm.dumpSpans ++ [(off, bs.length)] } }
  let d : Device := (List.range (bs.length / 64)).foldl (fun d i => d.unpoison (dumpBlock (off + 64 * i))) d
  (List.range (ceilDiv bs.length 64)).foldl (fun d i => d.tableWrite (dumpBlock (off + 64 * i))) d

/-- A dump is asked for and has not started; a requested one does not overwrite a SAFE dump that is not released (R333, log 27). -/
def Device.dumpWaits (d : Device) : Option Dumping :=
  match d.look.dump with
  | some x => if x.onChip = false ∧ d.dumpState false ≠ 1 ∧ (x.safe = true ∨ d.dumpUnreleased = false) then some x else none
  | none => none

/-- A dump starts: its stores read WRITING, and the header of each that it writes is written, their Length still free (log 2). -/
def Device.startDump (d : Device) (x : Dumping) : Device :=
  let place := d.dumpPlace
  let hdr := d.dumpHeader x 1 5 (Config.freeValue d.free % 2 ^ 32)
  let far := d.dumpHeader x 1 9 (Config.freeValue (d.free + 1) % 2 ^ 32)
  let d : Device := { d.spend.spend with look := { d.look with dumpStore := memWriteAll d.look.dumpStore 0 hdr } }
  let d : Device := match place with | some off => d.dumpWrite off far | none => d
  let v := d.get Obj.dumpStatus 0
  let v := putFld (putFld v 127 120 1) 119 112 (if place.isSome then 1 else 0)
  let v := putFld (putFld v 111 104 (if x.safe then 1 else 2)) 95 64 (place.getD 0)
  d.set Obj.dumpStatus 0 (if x.safe then putBit v 103 false else v)

/-- The Pilot starts a dump. -/
def execDumpStart (s : State) : Host.Outcome State Fault Refusal :=
  onDev Instr.dumpStart.wf
    (fun _ d => if d.pilotRuns then match d.dumpWaits with | some x => d.startDump x | none => d else d) s

/-- The sections a store holds when it is done: all of them, or a free number of a dump that was stopped, with its Status. -/
def Device.dumpEnd (d : Device) (x : Dumping) (ss : List Section) : Nat × List Section × Device :=
  if x.stopped then (3, ss.take (Config.freeValue d.free % (ss.length + 1)), d.spend) else (2, ss, d)

/-- A dump is done: one requested meanwhile is made next (R331). -/
def Device.dumpMade (d : Device) : Device :=
  { d with look := { d.look with dump := d.look.asked.head?, asked := d.look.asked.tail } }

/-- The on-chip dump is written. -/
def Device.endOnChip (d : Device) (c : Clk) (x : Dumping) : Device :=
  let r := d.dumpEnd x (d.commonSections c)
  let img := d.dumpImage x r.1 r.2.1
  let d : Device := r.2.2
  let d : Device := ({ d with look := { d.look with
    dumpStore := memWriteAll d.look.dumpStore 0 img
    dump := some { x with onChip := true } } }).setFld Obj.dumpStatus 0 127 120 r.1
  if d.dumpState true = 1 then d else d.dumpMade

/-- The on-chip dump is done. -/
def execOnChipDumpDone (s : State) : Host.Outcome State Fault Refusal :=
  onDev Instr.onChipDumpDone.wf
    (fun c d =>
      match d.look.dump with
      | some x => if d.dumpState false = 1 ∧ (d.pilotRuns ∨ x.stopped) then d.endOnChip c x else d
      | none => d) s

/-- The HBM dump is written. Where the dump stopped in its on-chip store, the HBM dump was not begun and holds no section (R331, log 27). -/
def Device.endHbm (d : Device) (c : Clk) (x : Dumping) : Device :=
  let r := if d.dumpState false = 3 then (3, [], d) else d.dumpEnd x (d.commonSections c ++ d.hbmSections)
  let img := d.dumpImage x r.1 r.2.1
  let d : Device := r.2.2.dumpWrite (d.rd Obj.dumpStatus 0 95 64) img
  (d.setFld Obj.dumpStatus 0 119 112 r.1).dumpMade

/-- The HBM dump is done. -/
def execHbmDumpDone (s : State) : Host.Outcome State Fault Refusal :=
  onDev Instr.hbmDumpDone.wf
    (fun c d =>
      match d.look.dump with
      | some x => if x.onChip = true ∧ d.dumpState true = 1 ∧ (d.pilotRuns ∨ x.stopped) then d.endHbm c x else d
      | none => d) s

end Sys2Proof.Machine
end

