-- ==== Sys2Proof/Machine/Management.lean ====
section
/-! DEFINITION. The management plane (chapter 02): receiving and forwarding on the chain, the request queue and its execution, bulk
transfers, injects and punts. -/

namespace Sys2Proof.Machine

/-! ### Frames (R24, Table 2.7) -/

/-- Fields of a BDP frame, given without its FCS. -/
def bVersion (f : Bytes) : Nat := beAt f 14 1
def bTarget (f : Bytes) : Nat := beAt f 15 1
def bResponder (f : Bytes) : Nat := beAt f 16 1
def bDir (f : Bytes) : Nat := beAt f 17 1 / 128
def bOrig (f : Bytes) : Nat := beAt f 17 1 % 16
def bHop (f : Bytes) : Nat := beAt f 18 1
def bOpcode (f : Bytes) : Nat := beAt f 19 1
def bSequence (f : Bytes) : Nat := beAt f 20 2
def bCount (f : Bytes) : Nat := beAt f 22 2
def bLength (f : Bytes) : Nat := beAt f 24 2
def bSource (f : Bytes) : Nat := beAt f 6 6

/-- The bytes after the header that PayloadLength counts. -/
def bPayload (f : Bytes) : Bytes := (f.drop 30).take (bLength f)

/-- PayloadLength runs beyond the frame. -/
def bOverrun (f : Bytes) : Bool := decide (f.length < 30 + bLength f)

/-- Opcodes (Table 2.11). -/
abbrev opRead : Nat := 1
abbrev opWrite : Nat := 2
abbrev opReadBulk : Nat := 3
abbrev opWriteBulk : Nat := 4
abbrev opHelmTake : Nat := 5
abbrev opHelmGive : Nat := 6
abbrev opInject : Nat := 0x12

/-- BDP.Count of a port advanced (Table 2.6). -/
def Device.bdpTally (d : Device) (port code : Nat) : Device := d.tally Obj.bdpCount (port * 16 + code) 1

/-- The management plane set. -/
def Device.setMgmt (d : Device) (m : Mgmt) : Device := { d with mgmt := m }

/-- The management-port hardware runs: from strap latch on, and over a DEVICE restart (R35, Table 18.6). -/
def Device.mgmtOn (d : Device) : Bool :=
  match d.pwr.hold with
  | .none => true
  | .begun _ => true
  | .held .device => true
  | _ => false

/-! ### Responses (R30, R31, R371) -/

/-- A frame of the Pilot's leaves on a port whose link is up; on one whose link is down it is lost (log 36). -/
def Device.answerOn (d : Device) (port : Nat) (frame : Bytes) : Device := if setHas d.mgmt.linkUp port then d.sendOwn port frame else d

/-- The first response of firmware that was started from ROM moves DEV.State to CONFIGURING, and fences every cluster that holds no
image (R220, R371). -/
def Device.responded (d : Device) : Device :=
  if d.state = St.awaitImage ∧ d.running ≠ 0 then
    let d : Device := { d with img := { d.img with previous := none } }
    d.fenceImageless.set Obj.devState 0 St.configuring
  else d

/-- An ERROR frame in place of a response (Table 2.13); it executes no item and is no executed request. -/
def Device.sendError (d : Device) (port : Nat) (f : Bytes) (reason : Nat) : Device :=
  (d.answerOn port (d.frame (bSource f) (bOrig f) 0x1F (bSequence f) 0 reason 0 [])).responded

/-- What is recorded of a request as it is executed: LastHeard, its port and source, and code 0 (R37, R38, Table 2.6). It is recorded before
the items run, so that a READ of BDP.LastHeard or BDP.Count sees its own frame (DESIGN CHOICE, log 9). -/
def Device.executing (d : Device) (c : Clk) (port : Nat) (f : Bytes) : Device :=
  (d.setMgmt { d.mgmt with heard := mapPut d.mgmt.heard (bOrig f) c.ticks
                           routes := mapPut d.mgmt.routes (bOrig f) (port, bSource f) }).bdpTally port 0

/-- The response of an executed request: kept for a retry and sent (R30, R31). -/
def Device.respond (d : Device) (port : Nat) (f : Bytes) (payload : Bytes) : Device :=
  let r := d.frame (bSource f) (bOrig f) (bOpcode f) (bSequence f) (bCount f) 0 payload.length payload
  ((d.setMgmt { d.mgmt with kept := mapPut d.mgmt.kept (bOrig f) (bSequence f, r) }).answerOn port r).responded

/-! ### The request queue (R27) -/

/-- The reason with which a frame is answered whatever its items are: VERSION, then OPCODE (R18, Table 2.13). -/
def unexecutable (f : Bytes) : Nat :=
  if bVersion f ≠ 1 then 1 else if bOpcode f = 0 ∨ 6 < bOpcode f then 2 else 0

/-- Requests at the head of the queue that no command executes are answered with ERROR. -/
def Device.drainErrors (d : Device) : List (Nat × Bytes) → Device
  | [] => d.setMgmt { d.mgmt with requests := [] }
  | (p, f) :: rest =>
    if unexecutable f ≠ 0 then Device.drainErrors (d.sendError p f (unexecutable f)) rest
    else d.setMgmt { d.mgmt with requests := (p, f) :: rest }

/-- A request placed in the queue, or discarded as code 6 (R27). -/
def Device.enqueueRequest (d : Device) (port : Nat) (f : Bytes) : Device :=
  if 32 ≤ d.mgmt.requests.length then d.bdpTally port 6
  else
    let d : Device := d.setMgmt { d.mgmt with requests := d.mgmt.requests ++ [(port, f)] }
    if d.pilotRuns then d.drainErrors d.mgmt.requests else d

/-! ### Receiving (R34, R35, R37) -/

/-- A frame's bytes in a forwarding buffer, FCS included. -/
def frameBytes (f : Bytes) : Nat := f.length + 4

/-- A frame forwarded to the other port (R34, R35). -/
def Device.forwardFrame (d : Device) (port : Nat) (f : Bytes) : Device :=
  let q := 1 - port
  let used := ((d.mgmt.forward.filter fun x => x.1 == q).map fun x => frameBytes x.2).sum
  if bHop f = 1 then d.bdpTally port 3
  else if !setHas d.mgmt.linkUp q then d.bdpTally q 5
  else if 65536 < used + frameBytes f then d.bdpTally q 4
  else d.setMgmt { d.mgmt with forward := d.mgmt.forward ++ [(q, overwrite f 18 (natBe 1 (bHop f - 1)))] }

/-- Fields of INJECT metadata, the 16 bytes after the header (Table 2.15). -/
def iMode (f : Bytes) : Nat := beAt f 30 1
def iPool (f : Bytes) : Nat := beAt f 31 1
def iPort (f : Bytes) : Nat := beAt f 32 2
def iQueue (f : Bytes) : Nat := beAt f 34 4
def iPacket (f : Bytes) : Bytes := (bPayload f).drop 16

/-- An INJECT frame that may be accepted (R41): from a supervisor, well formed, with legal fields and a legal packet length, in a state
that accepts injects. -/
def Device.injectOk (d : Device) (f : Bytes) : Bool :=
  d.forwarding && decide (bOrig f < 2) && bVersion f == 1 && bCount f == 0 && !bOverrun f
    && decide (76 ≤ bLength f ∧ bLength f ≤ 8966) && decide (12 ≤ iPool f ∧ iPool f ≤ 15)
    && ((iMode f == 0 && iPort f == 0 && decide (iQueue f < 262144))
        || (iMode f == 1 && iQueue f == 0 && decide (iPort f < 256) && d.speedCode (iPort f) != 0))

/-- A frame addressed to this device: the port check of R37, then the inject path or the request queue (R18, R27, R41). -/
def Device.acceptFrame (d : Device) (port : Nat) (f : Bytes) : Device :=
  if d.state = St.reset then d
  else if bOrig f < 2 ∧ bit (d.get Obj.bdpSupervisorPort (bOrig f)) port = false then d.bdpTally port 7
  else if bOpcode f = opInject then
    if d.injectOk f then d.setMgmt { d.mgmt with injects := d.mgmt.injects ++ [(port, f)] } else d.bdpTally port 10
  else d.enqueueRequest port f

/-- A well-formed BDP frame handled by its direction and Target, where RING is 1: the procedure of R34. -/
def Device.ringFrame (d : Device) (port : Nat) (f : Bytes) : Device :=
  if bHop f = 0 then d.bdpTally port 3
  else if bDir f = 1 then
    if bResponder f = d.devnum then d.bdpTally port 8
    else d.forwardFrame port f
  else if 0x40 ≤ bTarget f ∧ bTarget f ≤ 0xFE then d.bdpTally port 11
  else if bTarget f = d.devnum then d.acceptFrame port f
  else if bTarget f = 0xFF then (d.acceptFrame port f).forwardFrame port f
  else d.forwardFrame port f

/-- A well-formed BDP frame handled where RING is 0 (R34): nothing is forwarded, and Hop is not looked at. -/
def Device.loneFrame (d : Device) (port : Nat) (f : Bytes) : Device :=
  if bDir f = 1 then d.bdpTally port 3
  else if 0x40 ≤ bTarget f ∧ bTarget f ≤ 0xFE then d.bdpTally port 11
  else if bTarget f = d.devnum ∨ bTarget f = 0xFF then d.acceptFrame port f
  else d.bdpTally port 3

/-- A well-formed BDP frame handled (R34). -/
def Device.chainFrame (d : Device) (port : Nat) (f : Bytes) : Device :=
  if bit (d.get Obj.devStraps 0) 7 then d.ringFrame port f else d.loneFrame port f

/-- A frame arrives whole on MP0 or MP1 (R24, R34); `frame` is without FCS. -/
def execBdpFrameReceive (port : Nat) (frame : Bytes) (fcsOk : Bool) (s : State) : Host.Outcome State Fault Refusal :=
  onDev (Instr.bdpFrameReceive port frame fcsOk).wf
    (fun _ d =>
      if d.mgmtOn && setHas d.mgmt.linkUp port then
        if fcsOk = false ∨ frameBytes frame < 64 ∨ 9000 < frameBytes frame then d.bdpTally port 1
        else if beAt frame 12 2 ≠ 0x88B5 then d.bdpTally port 2
        else d.chainFrame port frame
      else d) s

/-- The first waiting frame of a port in a list, and the others. -/
def takeFirst (port : Nat) : List (Nat × Bytes) → Option (Bytes × List (Nat × Bytes))
  | [] => none
  | x :: xs => if x.1 = port then some (x.2, xs) else (takeFirst port xs).map fun r => (r.1, x :: r.2)

/-! ### The device's own frames and the forwarded ones (R35, R40, R418) -/

/-- PUNT metadata of a queued punt (Table 2.14). -/
def puntMeta (e : QEntry) : Nat :=
  let r := e.record
  at_ 127 112 (fld r 487 480) + at_ 111 96 (fld r 287 272) + at_ 95 88 (fld r 511 504) + at_ 87 87 (b2n (decide (8950 < e.packet.length)))
    + at_ 79 64 e.packet.length + at_ 63 32 (fld r 447 416) + at_ 31 20 (fld r 479 468)

/-- The PUNT frame of an entry sent to BDP.PuntTarget, or counted as code 9 (R40). -/
def Device.sendPunt (d : Device) (e : QEntry) : Device :=
  let sup := d.get Obj.bdpPuntTarget 0
  match d.reachable sup with
  | none => d.bdpTally (d.unsentPort sup) 9
  | some (port, mac) =>
    let body := natBe 16 (puntMeta e) ++ e.packet.take 8950
    let seq := d.mgmt.puntSeq
    d.setMgmt { d.mgmt with puntSeq := (seq + 1) % 65536, lastForwarded := setDel d.mgmt.lastForwarded port
                            sent := d.mgmt.sent ++ [(port, d.frame mac sup 0x11 seq 0 0 body.length body)] }

/-- The oldest punt, which leaves the punt path as its frame is sent: Q falls and its cells are freed then (R418). -/
def Device.releasePunt (d : Device) (c : Clk) (e : QEntry) : Device := ((d.sendPunt e).dequeue c puntPath e).freeEntry e e.cells

/-- The oldest punt, while packets leave the device. -/
def Device.waitingPunt (d : Device) : Option QEntry := if d.forwarding then (d.queue puntPath).head? else none

/-- The port that PUNT frames leave on. -/
def Device.puntPort (d : Device) : Option Nat := (d.reachable (d.get Obj.bdpPuntTarget 0)).map Prod.fst

/-- Whether a PUNT frame may be sent on a port now (R35): no forwarded frame waits there, or one of them went last and no other frame of the
device waits, which goes before a PUNT frame (DESIGN CHOICE, log 90). -/
def Device.ownTurn (d : Device) (port : Nat) : Bool :=
  !(d.mgmt.forward.any fun x => x.1 == port) || (setHas d.mgmt.lastForwarded port && !(d.mgmt.own.any fun x => x.1 == port))

/-- One of the device's own frames that wait for a port is sent: the punt path's where no other does. -/
def Device.sendWaiting (d : Device) (c : Clk) (port : Nat) : Device :=
  match takeFirst port d.mgmt.own, d.waitingPunt with
  | some (f, rest), _ =>
    d.setMgmt { d.mgmt with own := rest, sent := d.mgmt.sent ++ [(port, f)], lastForwarded := setDel d.mgmt.lastForwarded port }
  | none, some e => if d.puntPort = some port then d.releasePunt c e else d
  | none, none => d

/-- All of the device's own frames that wait for a port are sent, when no forwarded frame waits for it. -/
def Device.sendRest (d : Device) (port : Nat) : Device :=
  let mine := d.mgmt.own.filter fun x => x.1 == port
  if d.mgmt.forward.any fun x => x.1 == port then d
  else d.setMgmt { d.mgmt with own := d.mgmt.own.filter (fun x => x.1 != port), sent := d.mgmt.sent ++ mine }

/-- A forwarded frame is sent on a port, after one of the device's own where a forwarded one went last (R35). -/
def execChainForwardTransmit (port : Nat) (s : State) : Host.Outcome State Fault Refusal :=
  onDev (Instr.chainForwardTransmit port).wf
    (fun c d =>
      match if d.mgmtOn then takeFirst port d.mgmt.forward else none with
      | none => d
      | some (f, rest) =>
        let d : Device := if setHas d.mgmt.lastForwarded port then d.sendWaiting c port else d
        (d.setMgmt { d.mgmt with forward := rest, sent := d.mgmt.sent ++ [(port, f)],
                                 lastForwarded := setAdd d.mgmt.lastForwarded port }).sendRest port) s

/-- NOTIFY frames among the device's own that wait for a port. -/
def Mgmt.pushed (m : Mgmt) (port : Nat) : Nat := (m.own.filter fun x => x.1 == port && bOpcode x.2 == 0x10).length

/-- The link of MP0 or MP1 comes up, or goes down with what waits for it: forwarded frames are counted as code 5 (R35), and NOTIFY
frames, which are then not sent, as code 9 (R40); a punt waits on the punt path. -/
def execManagementLinkChange (port : Nat) (up : Bool) (s : State) : Host.Outcome State Fault Refusal :=
  onDev (Instr.managementLinkChange port up).wf
    (fun _ d =>
      if d.mgmtOn then
        if up then d.setMgmt { d.mgmt with linkUp := setAdd d.mgmt.linkUp port }
        else
          let lost := (d.mgmt.forward.filter fun x => x.1 == port).length
          let d : Device := (d.tally Obj.bdpCount (port * 16 + 5) lost).tally Obj.bdpCount (port * 16 + 9) (d.mgmt.pushed port)
          d.setMgmt { d.mgmt with linkUp := setDel d.mgmt.linkUp port
                                  forward := d.mgmt.forward.filter fun x => x.1 != port
                                  own := d.mgmt.own.filter fun x => x.1 != port }
      else d) s

/-! ### Items (R25, R26, Table 2.13) -/

/-- The object items of a payload; none where the lengths disagree. -/
def parseItems : Nat → Bytes → Option (List ObjItem)
  | 0, b => if b.isEmpty then some [] else none
  | n + 1, b =>
    let len := beAt b 8 2
    let used := 12 + roundUp 4 len
    if b.length < used then none
    else (parseItems n (b.drop used)).map fun r =>
      { object := beAt b 0 2, element := beAt b 2 2, count := beAt b 4 2, ty := beAt b 7 1, length := len
        value := (b.drop 12).take len } :: r

/-- A bulk item: region, length, offset, and a write's data (Table 2.9). -/
structure BulkItem where
  region : Nat
  length : Nat
  offset : Nat
  data : Bytes
deriving DecidableEq, Repr

/-- The bulk items of a payload; a WRITE_BULK item is followed by its data. -/
def parseBulk (write : Bool) : Nat → Bytes → Option (List BulkItem)
  | 0, b => if b.isEmpty then some [] else none
  | n + 1, b =>
    let len := beAt b 2 2
    let used := 12 + if write then len else 0
    if b.length < used then none
    else (parseBulk write n (b.drop used)).map fun r =>
      { region := beAt b 0 1, length := len, offset := beAt b 4 4, data := (b.drop 12).take len } :: r

/-- The bytes of a bulk response item: it echoes the request's Region, Length and Offset, a refused READ_BULK item's Length too, although
no data follows it (log 35). -/
def BulkItem.answer (it : BulkItem) (status : Nat) (data : Bytes) : Bytes :=
  natBe 1 it.region ++ natBe 1 0 ++ natBe 2 it.length ++ natBe 4 it.offset ++ natBe 1 status ++ natBe 3 0 ++ data

/-- Bytes of a response frame with a payload, FCS included. -/
def responseBytes (payload : Nat) : Nat := 34 + payload

/-- The lengths of a frame's items agree with ItemCount and PayloadLength. -/
def itemsFormed (f : Bytes) : Bool := (parseItems (bCount f) (bPayload f)).isSome
def bulkFormed (write : Bool) (f : Bytes) : Bool := (parseBulk write (bCount f) (bPayload f)).isSome

/-- A request at the head of the queue with an opcode: it leaves the queue and runs. Before it, frames that no command executes are
answered. A frame whose lengths disagree, whose response would be too long, or that an observer may not send is answered with ERROR; a
repeated one with the kept response (R18, R27, R31). That a repeated frame with such a defect is answered with ERROR is the model's
reading (log 9). -/
def Device.runRequest (d : Device) (c : Clk) (op : Nat) (formed : Bytes → Bool)
    (run : Clk → Device → Nat → Bytes → Option (Clk × Device)) : Clk × Device :=
  if !d.pilotRuns then (c, d)
  else
    let d : Device := d.drainErrors d.mgmt.requests
    match d.mgmt.requests with
    | [] => (c, d)
    | (port, f) :: rest =>
      if bOpcode f ≠ op then (c, d)
      else
        let d : Device := d.setMgmt { d.mgmt with requests := rest }
        if bOverrun f = true ∨ bCount f = 0 ∨ formed f = false then (c, d.sendError port f 3)
        else if 2 ≤ bOrig f ∧ op ≠ opRead then (c, d.sendError port f 4)
        else
          let again := match mapGet? d.mgmt.kept (bOrig f) with
            | some (seq, r) => if seq = bSequence f then some r else none
            | none => none
          match again with
          | some r => (c, (d.answerOn port (overwrite r 0 (natBe 6 (bSource f)))).responded)
          | none =>
            match run c d port f with
            | some r => r
            | none => (c, d.sendError port f 3)

/-! ### READ and WRITE (R28) -/

/-- READ items executed in order. -/
def Device.readItems (d : Device) (c : Clk) (orig : Nat) (bad : List Nat) : List ObjItem → Bytes × Device
  | [] => ([], d)
  | it :: rest =>
    let x := d.readItem c orig bad it
    let r := Device.readItems x.2 c orig bad rest
    (x.1 ++ r.1, r.2)

/-- A READ request run; one whose response would be too long executes no item (Table 2.13). -/
def runRead (bad : List Nat) (c : Clk) (d : Device) (port : Nat) (f : Bytes) : Option (Clk × Device) :=
  match parseItems (bCount f) (bPayload f) with
  | none => none
  | some its =>
    let r := (d.executing c port f).readItems c (bOrig f) bad its
    if 9000 < responseBytes r.1.length then none else some (c, r.2.respond port f r.1)

/-- The READ request at the head of the queue; `badWords` are the elements of MEM.Data whose words fail their check (R178). -/
def execBdpRead (badWords : List Nat) (s : State) : Host.Outcome State Fault Refusal :=
  onClk (Instr.bdpRead badWords).wf (fun c d => d.runRequest c opRead itemsFormed (runRead badWords)) s

/-- The time clock's next tick, where an item sets device time after another of the frame did: they apply at two ticks (R298). -/
def timeApart (c : Clk) (d : Device) (apart : Bool) (it : ObjItem) : Clk × Device :=
  if apart && setsTime it.object then tickClock c d else (c, d)

/-- WRITE items executed in order; `apart` says that one before them set device time. -/
def writeItems (c : Clk) (d : Device) (orig : Nat) (apart : Bool) : List ObjItem → Bytes × Clk × Device
  | [] => ([], c, d)
  | it :: rest =>
    let t := timeApart c d apart it
    let x := writeItem t.1 t.2 orig it
    let r := writeItems x.2.1 x.2.2 orig (apart || setsTime it.object) rest
    (x.1 ++ r.1, r.2)

/-- A WRITE request run. -/
def runWrite (c : Clk) (d : Device) (port : Nat) (f : Bytes) : Option (Clk × Device) :=
  match parseItems (bCount f) (bPayload f) with
  | none => none
  | some its =>
    if 9000 < responseBytes (12 * its.length) then none
    else
      let r := writeItems c (d.executing c port f) (bOrig f) false its
      some (r.2.1, r.2.2.respond port f r.1)

/-- The WRITE request at the head of the queue. -/
def execBdpWrite (s : State) : Host.Outcome State Fault Refusal :=
  onClk Instr.bdpWrite.wf (fun c d => d.runRequest c opWrite itemsFormed runWrite) s

/-! ### The Helm (R38) -/

/-- Helm items executed in order. -/
def Device.helmItems (d : Device) (c : Clk) (take : Bool) (orig : Nat) : List ObjItem → Bytes × Device
  | [] => ([], d)
  | it :: rest =>
    let x := d.helmItem c take orig it
    let r := Device.helmItems x.2 c take orig rest
    (x.1 ++ r.1, r.2)

/-- A Helm request run. -/
def runHelm (take : Bool) (c : Clk) (d : Device) (port : Nat) (f : Bytes) : Option (Clk × Device) :=
  match parseItems (bCount f) (bPayload f) with
  | none => none
  | some its =>
    let r := (d.executing c port f).helmItems c take (bOrig f) its
    if 9000 < responseBytes r.1.length then none else some (c, r.2.respond port f r.1)

/-- The HELM_TAKE and the HELM_GIVE request at the head of the queue. -/
def execHelmTake (s : State) : Host.Outcome State Fault Refusal :=
  onClk Instr.helmTake.wf (fun c d => d.runRequest c opHelmTake itemsFormed (runHelm true)) s
def execHelmGive (s : State) : Host.Outcome State Fault Refusal :=
  onClk Instr.helmGive.wf (fun c d => d.runRequest c opHelmGive itemsFormed (runHelm false)) s

/-! ### Bulk transfers (R26, R29, Table 2.10) -/

/-- Bytes of a bulk region. -/
def bulkSize (region : Nat) : Nat :=
  if region = 1 ∨ region = 3 then queueStoreSize else if region = 2 then 2 ^ 28 else if region = 4 then 2 ^ 30 else 0

/-- The table-region block at an offset of region 0x02 or 0x04. -/
def bulkBlock (region off : Nat) : Nat × Nat := if region = 2 then queueBlock off else dumpBlock off

/-- The table-region blocks that a bulk item lies in. -/
def bulkBlocks (it : BulkItem) : List (Nat × Nat) :=
  if it.region = 2 ∨ it.region = 4 then
    (List.range (ceilDiv (it.offset % 64 + it.length) 64)).map fun i => bulkBlock it.region (it.offset + 64 * i)
  else []

/-- The fabric crossings of a bulk item: those of every stack that serves a block it reads, or that takes a block it writes (R251, R338,
log 34). -/
def Device.bulkCrossings (d : Device) (write : Bool) (it : BulkItem) : List Nat :=
  if write then d.writeCrossings (bulkBlocks it) else d.blockCrossings (bulkBlocks it)

/-- HBM training has completed since the last reset (Table 2.10, R367): DEV.State has reached OPTICS_UP, or every stack's training has
ended where SAFE was entered from TRAINING. -/
def Device.hbmServed (d : Device) : Bool :=
  decide (St.opticsUp ≤ d.way) || (d.state == St.safe && d.way == St.training && d.pwr.trained.length == 4)

/-- The checks of a bulk item: 0 where it passes them. -/
def Device.bulkCheck (d : Device) (write : Bool) (it : BulkItem) : Nat :=
  if it.region = 0 ∨ 4 < it.region ∨ bulkSize it.region < it.offset + it.length then 1
  else if write = true ∧ 3 ≤ it.region then stAccess
  else if it.length < 4 ∨ 8192 < it.length ∨ it.length % 4 ≠ 0 ∨ it.offset % 4 ≠ 0 then stType
  else if (it.region = 2 ∨ it.region = 4) ∧ d.hbmServed = false then stBusy
  else 0

/-- One byte of a region; a byte of a block that is poisoned or that no copy serves is free (R251, R267, log 2). -/
def Device.bulkByte (d : Device) (region off i : Nat) : Byte :=
  if (region = 2 ∨ region = 4) ∧ d.blockBad (bulkBlock region (off + i)) = true then BitVec.ofNat 8 (Config.freeValue (d.free + i))
  else if region = 1 then memByte d.queueStore (off + i)
  else if region = 2 then memByte d.hbm.queueRegion (off + i)
  else if region = 3 then memByte d.look.dumpStore (off + i)
  else memByte d.hbm.dump (off + i)

/-- A bulk item executed: the bytes of its response item; `found` is what the blocks that a read reads show (R265). -/
def Device.bulkItem (d : Device) (c : Clk) (found : List BlockFound) (write : Bool) (it : BulkItem) : Bytes × Device :=
  let st := d.bulkCheck write it
  if st ≠ 0 then (it.answer st [], d)
  else match d.firstBlocked (d.bulkCrossings write it) with
    | some x => (it.answer stTimeout [], d.accessRefused x 0)
    | none =>
      let d := d.accessesDone (d.bulkCrossings write it)
      if write then (it.answer 0 [], d.regionWrite it.region it.offset it.data)
      else
        let d := d.readFound c (bulkBlocks it).contains found
        (it.answer 0 ((List.range it.length).map (d.bulkByte it.region it.offset)), { d with free := d.free + it.length })

/-- Bulk items executed in order. -/
def Device.bulkItems (d : Device) (c : Clk) (found : List BlockFound) (write : Bool) : List BulkItem → Bytes × Device
  | [] => ([], d)
  | it :: rest =>
    let x := d.bulkItem c found write it
    let r := Device.bulkItems x.2 c found write rest
    (x.1 ++ r.1, r.2)

/-- A bulk request run. -/
def runBulk (write : Bool) (found : List BlockFound) (c : Clk) (d : Device) (port : Nat) (f : Bytes) : Option (Clk × Device) :=
  match parseBulk write (bCount f) (bPayload f) with
  | none => none
  | some its =>
    let r := (d.executing c port f).bulkItems c found write its
    if 9000 < responseBytes r.1.length then none else some (c, r.2.respond port f r.1)

/-- The READ_BULK and the WRITE_BULK request at the head of the queue. -/
def execReadBulk (found : List BlockFound) (s : State) : Host.Outcome State Fault Refusal :=
  onClk (Instr.readBulk found).wf (fun c d => d.runRequest c opReadBulk (bulkFormed false) (runBulk false found)) s
def execWriteBulk (s : State) : Host.Outcome State Fault Refusal :=
  onClk Instr.writeBulk.wf (fun c d => d.runRequest c opWriteBulk (bulkFormed true) (runBulk true [])) s

/-! ### Injects (R41) -/

/-- The first accepted INJECT frame of a mode leaves its buffer: its port, its bytes, and the device. -/
def Device.takeInject (d : Device) (mode : Nat) : Option (Nat × Bytes × Device) :=
  match d.mgmt.injects with
  | (p, f) :: rest => if iMode f = mode then some (p, f, d.setMgmt { d.mgmt with injects := rest }) else none
  | [] => none

/-- The record of a mode-0 packet (R41). -/
def injectRecord (queue arrival : Nat) : Nat := at_ 447 416 arrival + at_ 319 302 queue + at_ 301 301 1

/-- A mode-0 INJECT offers its packet to admission for the queue it names. `aboveRate` says that the injects of both ports exceed 20 Gb/s: R41
gives no window by which the rate is measured (DESIGN CHOICE, log 10). The packet takes no place in the inject FIFO and passes those that
wait there (DESIGN CHOICE, log 80). -/
def execInjectToQueue (aboveRate : Bool) (s : State) : Host.Outcome State Fault Refusal :=
  onDev (Instr.injectToQueue aboveRate).wf
    (fun c d =>
      match d.takeInject 0 with
      | none => d
      | some (p, f, d) =>
        if aboveRate || !d.injectOk f then d.bdpTally p 10
        else (d.takeOffer c { queue := iQueue f, pool := iPool f, port := none, copy := false, punt := false, inject := true
                              record := injectRecord (iQueue f) c.short, packet := iPacket f }).1) s

/-- A mode-1 INJECT places its packet in the 64 KiB inject FIFO, of which the packets' bytes count and no others (R41, Table 16.7; DESIGN
CHOICE, log 80); `aboveRate` is as in the mode-0 command (log 10). -/
def execInjectToPipeline (aboveRate : Bool) (s : State) : Host.Outcome State Fault Refusal :=
  onDev (Instr.injectToPipeline aboveRate).wf
    (fun _ d =>
      match d.takeInject 1 with
      | none => d
      | some (p, f, d) =>
        let used := (d.mgmt.pipeline.map fun x => x.packet.length).sum
        if aboveRate || !d.injectOk f || decide (65536 < used + (iPacket f).length) then d.bdpTally p 10
        else d.setMgmt { d.mgmt with pipeline := d.mgmt.pipeline ++ [{ port := iPort f, pool := iPool f, packet := iPacket f }] }) s

/-! ### Punts -/

/-- The oldest punt leaves as a PUNT frame (R40, R418), where it is the turn of the device's own frames at its port; while it is not, it stays
on the punt path, and its port's next forwarded frame or a later PUNT_FRAME_SEND comes before it. -/
def execPuntFrameSend (s : State) : Host.Outcome State Fault Refusal :=
  onDev Instr.puntFrameSend.wf
    (fun c d =>
      match d.waitingPunt with
      | some e => if (match d.puntPort with | some port => d.ownTurn port | none => true) then d.releasePunt c e else d
      | none => d) s

end Sys2Proof.Machine
end

