-- ==== Sys2Proof/Machine/Dispatch.lean ====
section
/-! DEFINITION. One arm per command: the meaning that gives it its effect. -/

namespace Sys2Proof.Machine

/-- The effect of a command on everything but the queue. -/
def exec (i : Instr) (s : State) : Host.Outcome State Fault Refusal :=
  match i with
  | .bdpFrameReceive port frame fcsOk => Sys2Proof.Machine.execBdpFrameReceive port frame fcsOk s
  | .chainForwardTransmit port => Sys2Proof.Machine.execChainForwardTransmit port s
  | .managementLinkChange port up => Sys2Proof.Machine.execManagementLinkChange port up s
  | .bdpRead badWords => Sys2Proof.Machine.execBdpRead badWords s
  | .bdpWrite => Sys2Proof.Machine.execBdpWrite s
  | .readBulk found => Sys2Proof.Machine.execReadBulk found s
  | .writeBulk => Sys2Proof.Machine.execWriteBulk s
  | .helmTake => Sys2Proof.Machine.execHelmTake s
  | .helmGive => Sys2Proof.Machine.execHelmGive s
  | .injectToQueue aboveRate => Sys2Proof.Machine.execInjectToQueue aboveRate s
  | .injectToPipeline aboveRate => Sys2Proof.Machine.execInjectToPipeline aboveRate s
  | .puntFrameSend => Sys2Proof.Machine.execPuntFrameSend s
  | .descriptorFetch queue found blocks => Sys2Proof.Machine.execDescriptorFetch queue found blocks s
  | .tableNop queue count => Sys2Proof.Machine.execTableNop queue count s
  | .tableInsert queue count found => Sys2Proof.Machine.execTableInsert queue count found s
  | .tableUpdate queue count found => Sys2Proof.Machine.execTableUpdate queue count found s
  | .tableDelete queue count found => Sys2Proof.Machine.execTableDelete queue count found s
  | .tableSearch queue count found => Sys2Proof.Machine.execTableSearch queue count found s
  | .tableNext queue count found => Sys2Proof.Machine.execTableNext queue count found s
  | .flushByPort queue count => Sys2Proof.Machine.execFlushByPort queue count s
  | .bulkWrite queue count => Sys2Proof.Machine.execBulkWrite queue count s
  | .chainRecordExecute queue count found blocks => Sys2Proof.Machine.execChainRecordExecute queue count found blocks s
  | .fence queue count => Sys2Proof.Machine.execFence queue count s
  | .fenceComplete queue count => Sys2Proof.Machine.execFenceComplete queue count s
  | .flexRead queue count found => Sys2Proof.Machine.execFlexRead queue count found s
  | .tcamInsertControl queue count found => Sys2Proof.Machine.execTcamInsertControl queue count found s
  | .tcamUpdateControl queue count found => Sys2Proof.Machine.execTcamUpdateControl queue count found s
  | .tcamDeleteControl queue count => Sys2Proof.Machine.execTcamDeleteControl queue count s
  | .tcamUpdateKey queue count found => Sys2Proof.Machine.execTcamUpdateKey queue count found s
  | .tcamSearchControl queue count => Sys2Proof.Machine.execTcamSearchControl queue count s
  | .tcamSearchKey queue count => Sys2Proof.Machine.execTcamSearchKey queue count s
  | .tcamSearchLookup queue count winner found => Sys2Proof.Machine.execTcamSearchLookup queue count winner found s
  | .completionPost queue count => Sys2Proof.Machine.execCompletionPost queue count s
  | .heldCompletionMove ring => Sys2Proof.Machine.execHeldCompletionMove ring s
  | .laneLockChange lane rxState => Sys2Proof.Machine.execLaneLockChange lane rxState s
  | .linkUp port => Sys2Proof.Machine.execLinkUp port s
  | .linkDown port why => Sys2Proof.Machine.execLinkDown port why s
  | .macFrameReceive port frame fcsOk bufferBad => Sys2Proof.Machine.execMacFrameReceive port frame fcsOk bufferBad s
  | .pauseFrameReceive port frame => Sys2Proof.Machine.execPauseFrameReceive port frame s
  | .pauseExpiry port cls => Sys2Proof.Machine.execPauseExpiry port cls s
  | .pfcXoffTransmit port => Sys2Proof.Machine.execPfcXoffTransmit port s
  | .pauseRepeat port => Sys2Proof.Machine.execPauseRepeat port s
  | .pauseResumeTransmit port cls => Sys2Proof.Machine.execPauseResumeTransmit port cls s
  | .biasRatioReached oe source => Sys2Proof.Machine.execBiasRatioReached oe source s
  | .laserSwapSettled oe => Sys2Proof.Machine.execLaserSwapSettled oe s
  | .laserSwapFullShare oe => Sys2Proof.Machine.execLaserSwapFullShare oe s
  | .laserSwapComplete oe => Sys2Proof.Machine.execLaserSwapComplete oe s
  | .laserSourceFailed oe source => Sys2Proof.Machine.execLaserSourceFailed oe source s
  | .spareFullPower oe source => Sys2Proof.Machine.execSpareFullPower oe source s
  | .biasRatioLimit oe source held => Sys2Proof.Machine.execBiasRatioLimit oe source held s
  | .parsePass slice src winners => Sys2Proof.Machine.execParsePass slice src winners s
  | .learnWrite slice => Sys2Proof.Machine.execLearnWrite slice s
  | .l2NotifyFlush slice => Sys2Proof.Machine.execL2NotifyFlush slice s
  | .l2SweepVisit slice index => Sys2Proof.Machine.execL2SweepVisit slice index s
  | .barrierRelease slice bucket => Sys2Proof.Machine.execBarrierRelease slice bucket s
  | .barrierTimeout slice bucket => Sys2Proof.Machine.execBarrierTimeout slice bucket s
  | .contextDispatch cluster found => Sys2Proof.Machine.execContextDispatch cluster found s
  | .microwordExecute engine badCopies => Sys2Proof.Machine.execMicrowordExecute engine badCopies s
  | .memoryAccessPerform accesses ecc => Sys2Proof.Machine.execMemoryAccessPerform accesses ecc s
  | .loadResult context access => Sys2Proof.Machine.execLoadResult context access s
  | .lookupResultArrive context slot winner found => Sys2Proof.Machine.execLookupResultArrive context slot winner found s
  | .policeResult contexts => Sys2Proof.Machine.execPoliceResult contexts s
  | .cstoreCopyRewrite cluster address => Sys2Proof.Machine.execCstoreCopyRewrite cluster address s
  | .watchdogExpiry context => Sys2Proof.Machine.execWatchdogExpiry context s
  | .packetRelease cluster bucket => Sys2Proof.Machine.execPacketRelease cluster bucket s
  | .clusterIdle cluster => Sys2Proof.Machine.execClusterIdle cluster s
  | .clusterWakeDone cluster => Sys2Proof.Machine.execClusterWakeDone cluster s
  | .clusterHang cluster => Sys2Proof.Machine.execClusterHang cluster s
  | .stageVerifyDone slot => Sys2Proof.Machine.execStageVerifyDone slot s
  | .imageLoadStart => Sys2Proof.Machine.execImageLoadStart s
  | .imageLoadDone firstBad secondBad => Sys2Proof.Machine.execImageLoadDone firstBad secondBad s
  | .pilotRestart => Sys2Proof.Machine.execPilotRestart s
  | .pilotRevert => Sys2Proof.Machine.execPilotRevert s
  | .separatorEvaluate queue => Sys2Proof.Machine.execSeparatorEvaluate queue s
  | .stackClosed stack => Sys2Proof.Machine.execStackClosed stack s
  | .bufferSegmentRetired segment => Sys2Proof.Machine.execBufferSegmentRetired segment s
  | .hbmTrainingComplete stack sweep => Sys2Proof.Machine.execHbmTrainingComplete stack sweep s
  | .driftTrack stack trims => Sys2Proof.Machine.execDriftTrack stack trims s
  | .marginCheck stack => Sys2Proof.Machine.execMarginCheck stack s
  | .refreshInterval pc requestsWaiting => Sys2Proof.Machine.execRefreshInterval pc requestsWaiting s
  | .hbmTempSample stack tenths => Sys2Proof.Machine.execHbmTempSample stack tenths s
  | .drainTimeout stack => Sys2Proof.Machine.execDrainTimeout stack s
  | .parkPrepare stack => Sys2Proof.Machine.execParkPrepare stack s
  | .parkCommit stack => Sys2Proof.Machine.execParkCommit stack s
  | .retrainSweepDone stack sweep => Sys2Proof.Machine.execRetrainSweepDone stack sweep s
  | .wakeRelock stack => Sys2Proof.Machine.execWakeRelock stack s
  | .replayComplete stack => Sys2Proof.Machine.execReplayComplete stack s
  | .hbmScrubVisit found => Sys2Proof.Machine.execHbmScrubVisit found s
  | .pcRetired pc => Sys2Proof.Machine.execPcRetired pc s
  | .hbmResponseTimeout stack request => Sys2Proof.Machine.execHbmResponseTimeout stack request s
  | .schedulerSelect inst => Sys2Proof.Machine.execSchedulerSelect inst s
  | .shaperRefill => Sys2Proof.Machine.execShaperRefill s
  | .flushComplete => Sys2Proof.Machine.execFlushComplete s
  | .tasChangeTime port => Sys2Proof.Machine.execTasChangeTime port s
  | .gateEntryStart port => Sys2Proof.Machine.execGateEntryStart port s
  | .frameTransmitStart port found => Sys2Proof.Machine.execFrameTransmitStart port found s
  | .frameTransmitEnd port => Sys2Proof.Machine.execFrameTransmitEnd port s
  | .ppsOutRise => Sys2Proof.Machine.execPpsOutRise s
  | .ppsOutFall => Sys2Proof.Machine.execPpsOutFall s
  | .ppsCapture => Sys2Proof.Machine.execPpsCapture s
  | .lookoutEventAccept => Sys2Proof.Machine.execLookoutEventAccept s
  | .reactionShadowEnd target => Sys2Proof.Machine.execReactionShadowEnd target s
  | .copyMismatch => Sys2Proof.Machine.execCopyMismatch s
  | .lookoutParity => Sys2Proof.Machine.execLookoutParity s
  | .dumpStart => Sys2Proof.Machine.execDumpStart s
  | .onChipDumpDone => Sys2Proof.Machine.execOnChipDumpDone s
  | .hbmDumpDone => Sys2Proof.Machine.execHbmDumpDone s
  | .tcamScrubVisit slice row component found => Sys2Proof.Machine.execTcamScrubVisit slice row component found s
  | .crossingAccessTimeout crossing object => Sys2Proof.Machine.execCrossingAccessTimeout crossing object s
  | .lateAcknowledge crossing => Sys2Proof.Machine.execLateAcknowledge crossing s
  | .crossingPulse crossing signal acknowledged arrived => Sys2Proof.Machine.execCrossingPulse crossing signal acknowledged arrived s
  | .reference present => Sys2Proof.Machine.execReference present s
  | .pilotLockstep => Sys2Proof.Machine.execPilotLockstep s
  | .pilotMemory => Sys2Proof.Machine.execPilotMemory s
  | .pilotWatchdog => Sys2Proof.Machine.execPilotWatchdog s
  | .pllUnlock domain => Sys2Proof.Machine.execPllUnlock domain s
  | .pllRelock domain => Sys2Proof.Machine.execPllRelock domain s
  | .loglineCycle => Sys2Proof.Machine.execLoglineCycle s
  | .snapshotTake => Sys2Proof.Machine.execSnapshotTake s
  | .snapshotDone => Sys2Proof.Machine.execSnapshotDone s
  | .flexWriteback slice counter found => Sys2Proof.Machine.execFlexWriteback slice counter found s
  | .powerGood => Sys2Proof.Machine.execPowerGood s
  | .powerFailReset => Sys2Proof.Machine.execPowerFailReset s
  | .vauxLoss => Sys2Proof.Machine.execVauxLoss s
  | .resetReleaseBoot straps => Sys2Proof.Machine.execResetReleaseBoot straps s
  | .pilotSelfTestDone => Sys2Proof.Machine.execPilotSelfTestDone s
  | .trainingEnd => Sys2Proof.Machine.execTrainingEnd s
  | .opticsSettled => Sys2Proof.Machine.execOpticsSettled s
  | .deviceRestartBegin => Sys2Proof.Machine.execDeviceRestartBegin s
  | .restartResetEntry => Sys2Proof.Machine.execRestartResetEntry s
  | .restartResetRelease straps => Sys2Proof.Machine.execRestartResetRelease straps s
  | .resetNAssert lowNs => Sys2Proof.Machine.execResetNAssert lowNs s
  | .resetNRelease straps => Sys2Proof.Machine.execResetNRelease straps s
  | .regulatorPhaseFail rail => Sys2Proof.Machine.execRegulatorPhaseFail rail s
  | .supply code present => Sys2Proof.Machine.execSupply code present s
  | .coreTrimUpdate die needed => Sys2Proof.Machine.execCoreTrimUpdate die needed s
  | .thermalSample die0 die1 optics => Sys2Proof.Machine.execThermalSample die0 die1 optics s
  | .thermalTrip => Sys2Proof.Machine.execThermalTrip s
  | .tapReset byPin => Sys2Proof.Machine.execTapReset byPin s
  | .tapIdcode => Sys2Proof.Machine.execTapIdcode s
  | .tapBypass code => Sys2Proof.Machine.execTapBypass code s
  | .sxNop op fields => Sys2Proof.Machine.execSxNop op fields s
  | .sxHalt fields => Sys2Proof.Machine.execSxHalt fields s
  | .sxResume fields => Sys2Proof.Machine.execSxResume fields s
  | .sxStep fields => Sys2Proof.Machine.execSxStep fields s
  | .sxRead fields ecc blocks => Sys2Proof.Machine.execSxRead fields ecc blocks s
  | .sxWrite fields => Sys2Proof.Machine.execSxWrite fields s
  | .sxBlockRead fields => Sys2Proof.Machine.execSxBlockRead fields s
  | .sxBlockWrite fields => Sys2Proof.Machine.execSxBlockWrite fields s
  | .sxSetPoint fields => Sys2Proof.Machine.execSxSetPoint fields s
  | .sxClearPoint fields => Sys2Proof.Machine.execSxClearPoint fields s
  | .sxStart fields => Sys2Proof.Machine.execSxStart fields s
  | .sxHaltAll fields => Sys2Proof.Machine.execSxHaltAll fields s
  | .sxResumeAll fields => Sys2Proof.Machine.execSxResumeAll fields s
  | .sxCommandComplete words blocks => Sys2Proof.Machine.execSxCommandComplete words blocks s
  | .sxResultCapture => Sys2Proof.Machine.execSxResultCapture s
  | .sxStreamWrite word => Sys2Proof.Machine.execSxStreamWrite word s
  | .sxStreamRead => Sys2Proof.Machine.execSxStreamRead s
  | .debugClockAbsent => Sys2Proof.Machine.execDebugClockAbsent s
  | .timeTick => Sys2Proof.Machine.execTimeTick s
  | .cachePrefetch queue blocks => Sys2Proof.Machine.execCachePrefetch queue blocks s
  | .countPerformed context found => Sys2Proof.Machine.execCountPerformed context found s
  | .replayBlockCopy stack found => Sys2Proof.Machine.execReplayBlockCopy stack found s
  | .pilotRestartEnd => Sys2Proof.Machine.execPilotRestartEnd s
  | .vauxPresent => Sys2Proof.Machine.execVauxPresent s
  | .instructionSelect code => Sys2Proof.Machine.execInstructionSelect code s

end Sys2Proof.Machine
end

