-- ==== Sys2Proof/Safety.lean ====
section
/-! DEFINITION. What the statements say of states and runs: which values of device time are legal, what a change of the Chart leaves
alone, when a request at the head of the queue is ready to execute, and when two states may differ. A command that stops the machine
(a fault or a refusal) is not a run; every statement about a next state says when there is one. -/

namespace Sys2Proof.Machine

/-- Device time holds legal values (R296): 48 bits of seconds, nanoseconds below one second, 32 bits of fraction. -/
def Clk.Legal (c : Clk) : Prop := c.sec < 2 ^ 48 ∧ c.ns < 1000000000 ∧ c.frac < 2 ^ 32

/-- Device time and fraction together, in units of 2^-32 ns. -/
def Clk.total (c : Clk) : Nat := (c.sec * 1000000000 + c.ns) * 2 ^ 32 + c.frac

/-- Elements of the Chart outside the listed objects read the same in two devices. -/
def ChartSame (objs : List Nat) (d d' : Device) : Prop := ∀ o e, e < 65536 → o ∉ objs → d'.get o e = d.get o e

/-- Elements of the Chart other than one read the same in two devices. -/
def ElementSame (o e : Nat) (d d' : Device) : Prop := ∀ o' e', chartKey o e ≠ chartKey o' e' → d'.get o' e' = d.get o' e'

/-- The canonical form of every byte memory of the device (State.lean's `Mem`). -/
def Device.MemsWf (d : Device) : Prop :=
  memWf d.queueStore = true ∧ memWf d.hbm.queueRegion = true ∧ memWf d.hbm.dump = true ∧ memWf d.look.dumpStore = true
    ∧ memWf d.eng.scratch = true ∧ memWf d.eng.common = true ∧ memWf d.sx.buffer = true

/-- A request at the head of the queue that passes the checks of R18 and R31 and is therefore executed: it arrived on `port` as `f`,
its opcode is `op`, its items are well formed, its originator may send it, and it repeats no kept request. -/
structure Device.Ready (d : Device) (op : Nat) (formed : Bytes → Bool) (port : Nat) (f : Bytes) (rest : List (Nat × Bytes)) : Prop where
  runs : d.pilotRuns = true
  head : d.mgmt.requests = (port, f) :: rest
  version : unexecutable f = 0
  opcode : bOpcode f = op
  whole : bOverrun f = false
  items : bCount f ≠ 0
  wellFormed : formed f = true
  role : bOrig f < 2 ∨ op = opRead
  fresh : ∀ r, mapGet? d.mgmt.kept (bOrig f) ≠ some (bSequence f, r)

/-- The device as a request finds it when it starts to execute: off the queue, and recorded (R37, R38). -/
def Device.begun (d : Device) (c : Clk) (port : Nat) (f : Bytes) (rest : List (Nat × Bytes)) : Device :=
  (d.setMgmt { d.mgmt with requests := rest }).executing c port f

/-- The first response does not move DEV.State (R371): the device does not wait for an image's firmware. -/
def Device.Settled (d : Device) : Prop := d.state ≠ St.awaitImage ∨ d.running = 0

/-- A descriptor that may start and whose operand lets it run, once the code has seen what it reads (R265): it is neither held back (R51) nor
ended with FENCED, MALFORMED or TIMEOUT before its table is looked at (R267, R116, R341). -/
structure Device.Starts (d : Device) (c : Clk) (q n : Nat) (x : Fetched) (found : List BlockFound) : Prop where
  startable : d.startable q n = some x
  reached : d.firstBlocked (d.operandCrossings x.raw) = none
  blocks : ∀ b ∈ found, b.wf = true
  readable : (d.seen c x found).operandRead x.raw = true
  inRange : operandFits (d.seen c x found) x.raw = true

/-- A descriptor of a queue has ended with a status and a result (R52, R57): it waits for its completion to be posted, or has left the
queue where it suppresses an OK. -/
def Device.Ends (d d' : Device) (q : Nat) (x : Fetched) (status result : Nat) : Prop :=
  d'.wqFetched q = if status = csOk ∧ dSuppress x.raw = true then (d.wqFetched q).erase x
    else (d.wqFetched q).replace x { x with stage := .finished status result }

/-- A descriptor is the only fetched one of its count in a queue. -/
def Device.Sole (d : Device) (q n : Nat) (x : Fetched) : Prop :=
  x ∈ d.wqFetched q ∧ x.count = n ∧ ∀ y ∈ d.wqFetched q, y.count = n → y = x

/-- An event of a source against a target waits for the Lookout (R313). -/
def Device.Reported (d : Device) (src tgt : Nat) : Prop := ∃ r ∈ d.look.waiting, r.source = src ∧ r.target = tgt

/-- A Sextant command that passes the checks of R400 and R404 and is issued to a fabric that answers: power is good, SX_CMD is selected,
no command runs, crossing 8 can carry the command to the Pilot, and the crossing to what the command accesses can carry its access (R341). -/
structure Device.Issues (d : Device) (op : Nat) (f : SxFields) : Prop where
  power : d.pwr.good = true
  selected : d.sx.ir = 0x10
  idle : d.sx.running = none
  answers : d.sxBlocked = false
  reaches : d.firstBlocked (d.sxCrossings op f) = none
  allowed : d.sxRefused op f = none
  formed : f.wf = true

/-- A command has been issued in a step (R404, R405): it runs under the next sequence number, with a result or none yet. -/
def Device.Issued (d d' : Device) (op : Nat) (f : SxFields) (result : Option (Nat × Option Nat)) : Prop :=
  d'.sx.running = some (op, f) ∧ d'.sx.sequence = (d.sx.sequence + 1) % 65536 ∧ d'.sx.status = 1 ∧ d'.sx.staged = result

end Sys2Proof.Machine
end

