-- ==== Sys2Proof/Certificates/Slice0/Obligations.lean ====
section
/-! DEFINITION. The statements about the model, for the provers. A statement that rests on a choice of the model and not of the spec
says so and names the log entry. -/

open Sys2Proof Sys2Proof.Machine

/-! ### The block as a whole -/

/-- A step takes the command at the front of the queue and runs exec on the state with the queue's rest; a block with an empty queue idles
(the idling is the model's choice, log 3). -/
def Obligations.StepRunsFrontCommand : Prop :=
  (∀ (c : Instr) (rest : List Instr) (s : State), s.pending = c :: rest → step s = exec c { s with pending := rest })
    ∧ ∀ s : State, s.pending = [] → step s = .next s

/-- Every command that names units the device has answers a next state with the same queue, in every state; one that names a unit the device
does not have stops with the fault noSuchUnit (the stop is the model's choice, log 3). -/
def Obligations.EveryCommandAnswers : Prop :=
  ∀ (i : Instr) (s : State),
    (i.wf = true → ∃ t, exec i s = .next t ∧ t.pending = s.pending) ∧ (i.wf = false → exec i s = .fault .noSuchUnit)

/-- Device time stays legal in every step (R296): below 2^48 seconds, 10^9 nanoseconds and a whole nanosecond of fraction. -/
def Obligations.DeviceTimeStaysLegal : Prop :=
  ∀ s t : State, s.clk.Legal → step s = .next t → t.clk.Legal

/-- Reset leaves device time at 0, every memory in canonical form, and DEV.State RESET with VIN12 absent (Table 18.2 begins there; the
choice of this state as the reset state is the model's, log 15). Every step keeps the canonical form of every byte memory, in every state
that has it: addresses strictly rising, and no byte listed that reads as an unlisted one does (the form is the model's, log 79). -/
def Obligations.ResetStateAndMemories : Prop :=
  (
    State.reset.clk.Legal ∧ State.reset.clk.total = 0 ∧ State.reset.dev.MemsWf ∧ State.reset.dev.state = St.reset
      ∧ State.reset.dev.pwr.vaux = false ∧ State.reset.pending = [])
  ∧ (
    ∀ s t : State, s.dev.MemsWf → step s = .next t → t.dev.MemsWf)

/-- Only a tick, a WRITE request and a reset release change device time: every other command leaves all of it as it is (R296, R299,
R300). -/
def Obligations.WhatChangesDeviceTime : Prop :=
  ∀ (i : Instr) (s t : State), exec i s = .next t →
    (match i with
      | .timeTick | .bdpWrite | .resetReleaseBoot _ | .restartResetRelease _ | .resetNRelease _ => True
      | _ => t.clk = s.clk)

/-- A microword's fields and its 192 bits say the same (Table 9.1): no field is dropped, moved or overlapped, either way. -/
def Obligations.MicrowordEncoding : Prop :=
  (∀ m : Microword, decodeWord (encodeWord m) = m) ∧ ∀ w : BitVec 192, encodeWord (decodeWord w) = w

/-! ### Management plane (chapter 02) -/

/-- Management frames find their way (R34, R35, R37): a request to this device joins the request queue, or is counted as code 6 where it
is full, a frame for another device is forwarded with Hop less 1, and one for every device does both. A forwarded frame leaves its buffer
alternately with the device's own, the oldest punt being sent where no other own frame waits (the model's choice, log 90), and a link that
falls loses what waits for it: a forwarded frame is code 5, a NOTIFY code 9 (R40), and an answer is lost without a count, which is the
model's reading (log 36). Where R34, R35 and R37 discard a frame, one counter of BDP.Count advances and nothing else changes: code 1 a bad
FCS or length, 2 another EtherType, 3 a spent Hop on a ring or a frame that no ring takes further, 7 a port that a supervisor may not use,
8 an own frame come back, 11 a reserved Target. A frame for every device that is counted as code 7 goes on along a ring all the same
(R34). The order of the checks is the model's reading (log 7). -/
def Obligations.ChainForwarding : Prop :=
  (
    (∀ (s : State) (p : Nat) (f : Bytes),
      p < 2 → s.dev.mgmtOn = true → setHas s.dev.mgmt.linkUp p = true → 64 ≤ frameBytes f → frameBytes f ≤ 9000 → beAt f 12 2 = 0x88B5 →
      let ring := bit (s.dev.get Obj.devStraps 0) 7
      (bHop f ≠ 0 ∨ ring = false) → bDir f = 0 → (bTarget f = s.dev.devnum ∨ bTarget f = 0xFF ∧ ring = false) →
      s.dev.state ≠ St.reset →
      (bOrig f < 2 → bit (s.dev.get Obj.bdpSupervisorPort (bOrig f)) p = true) → bOpcode f ≠ opInject →
      (unexecutable f = 0 → (∀ x ∈ s.dev.mgmt.requests, unexecutable x.2 = 0) → s.dev.mgmt.requests.length < 32 →
        exec (.bdpFrameReceive p f true) s
          = .next { s with dev := s.dev.setMgmt { s.dev.mgmt with requests := s.dev.mgmt.requests ++ [(p, f)] } })
      ∧ (32 ≤ s.dev.mgmt.requests.length →
        exec (.bdpFrameReceive p f true) s = .next { s with dev := s.dev.tally Obj.bdpCount (p * 16 + 6) 1 }))
    ∧ (∀ (s : State) (p : Nat) (f : Bytes),
      p < 2 → s.dev.mgmtOn = true → setHas s.dev.mgmt.linkUp p = true → 64 ≤ frameBytes f → frameBytes f ≤ 9000 → beAt f 12 2 = 0x88B5 →
      1 < bHop f → bit (s.dev.get Obj.devStraps 0) 7 = true → bDir f = 0 → bTarget f = 0xFF → s.dev.devnum ≠ 0xFF →
      s.dev.state ≠ St.reset →
      (bOrig f < 2 → bit (s.dev.get Obj.bdpSupervisorPort (bOrig f)) p = true) → bOpcode f ≠ opInject → unexecutable f = 0 →
      (∀ x ∈ s.dev.mgmt.requests, unexecutable x.2 = 0) → s.dev.mgmt.requests.length < 32 → setHas s.dev.mgmt.linkUp (1 - p) = true →
      ((s.dev.mgmt.forward.filter fun x => x.1 == 1 - p).map fun x => frameBytes x.2).sum + frameBytes f ≤ 65536 →
      exec (.bdpFrameReceive p f true) s
        = .next { s with dev := s.dev.setMgmt { s.dev.mgmt with
            requests := s.dev.mgmt.requests ++ [(p, f)]
            forward := s.dev.mgmt.forward ++ [(1 - p, overwrite f 18 (natBe 1 (bHop f - 1)))] } })
    ∧ (∀ (s : State) (p : Nat) (f : Bytes),
      p < 2 → s.dev.mgmtOn = true → setHas s.dev.mgmt.linkUp p = true → 64 ≤ frameBytes f → frameBytes f ≤ 9000 → beAt f 12 2 = 0x88B5 →
      1 < bHop f → bit (s.dev.get Obj.devStraps 0) 7 = true →
      (bDir f = 1 ∧ bResponder f ≠ s.dev.devnum ∨ bDir f = 0 ∧ bTarget f < 0x40 ∧ bTarget f ≠ s.dev.devnum) →
      let used := ((s.dev.mgmt.forward.filter fun x => x.1 == 1 - p).map fun x => frameBytes x.2).sum
      (setHas s.dev.mgmt.linkUp (1 - p) = true → used + frameBytes f ≤ 65536 →
        exec (.bdpFrameReceive p f true) s
          = .next { s with dev := s.dev.setMgmt { s.dev.mgmt with
              forward := s.dev.mgmt.forward ++ [(1 - p, overwrite f 18 (natBe 1 (bHop f - 1)))] } })
      ∧ (setHas s.dev.mgmt.linkUp (1 - p) = true → 65536 < used + frameBytes f →
        exec (.bdpFrameReceive p f true) s = .next { s with dev := s.dev.tally Obj.bdpCount ((1 - p) * 16 + 4) 1 })
      ∧ (setHas s.dev.mgmt.linkUp (1 - p) = false →
        exec (.bdpFrameReceive p f true) s = .next { s with dev := s.dev.tally Obj.bdpCount ((1 - p) * 16 + 5) 1 }))
    ∧ (∀ (s : State) (p : Nat) (f own : Bytes) (rest rest' : List (Nat × Bytes)),
      p < 2 → s.dev.mgmtOn = true → takeFirst p s.dev.mgmt.forward = some (f, rest) → takeFirst p s.dev.mgmt.own = some (own, rest') →
      (setHas s.dev.mgmt.lastForwarded p = true → (rest.any fun x => x.1 == p) = true →
        exec (.chainForwardTransmit p) s
          = .next { s with dev := s.dev.setMgmt { s.dev.mgmt with
              forward := rest, own := rest', sent := s.dev.mgmt.sent ++ [(p, own), (p, f)]
              lastForwarded := setAdd (setDel s.dev.mgmt.lastForwarded p) p } })
      ∧ (setHas s.dev.mgmt.lastForwarded p = false → (rest.any fun x => x.1 == p) = true →
        exec (.chainForwardTransmit p) s
          = .next { s with dev := s.dev.setMgmt { s.dev.mgmt with
              forward := rest, sent := s.dev.mgmt.sent ++ [(p, f)], lastForwarded := setAdd s.dev.mgmt.lastForwarded p } })
      ∧ (setHas s.dev.mgmt.lastForwarded p = false → (rest.any fun x => x.1 == p) = false →
        exec (.chainForwardTransmit p) s
          = .next { s with dev := s.dev.setMgmt { s.dev.mgmt with
              forward := rest, own := s.dev.mgmt.own.filter fun x => x.1 != p
              sent := s.dev.mgmt.sent ++ (p, f) :: s.dev.mgmt.own.filter fun x => x.1 == p
              lastForwarded := setAdd s.dev.mgmt.lastForwarded p } }))
    ∧ (∀ (s : State) (p : Nat) (f : Bytes) (rest : List (Nat × Bytes)),
      p < 2 → s.dev.mgmtOn = true → takeFirst p s.dev.mgmt.forward = some (f, rest) → s.dev.mgmt.own = [] →
      ((s.dev.waitingPunt = none ∨ setHas s.dev.mgmt.lastForwarded p = false ∨ s.dev.puntPort ≠ some p) →
        exec (.chainForwardTransmit p) s
          = .next { s with dev := s.dev.setMgmt { s.dev.mgmt with
              forward := rest, sent := s.dev.mgmt.sent ++ [(p, f)], lastForwarded := setAdd s.dev.mgmt.lastForwarded p } })
      ∧ ∀ (e : QEntry) (es : List QEntry) (mac : Nat),
        s.dev.forwarding = true → s.dev.queue puntPath = e :: es → setHas s.dev.mgmt.lastForwarded p = true →
        s.dev.reachable (s.dev.get Obj.bdpPuntTarget 0) = some (p, mac) →
        let body := natBe 16 (puntMeta e) ++ e.packet.take 8950
        ∃ t, exec (.chainForwardTransmit p) s = .next t ∧ t.dev.queue puntPath = es ∧ t.dev.mgmt.forward = rest
          ∧ t.dev.mgmt.sent = s.dev.mgmt.sent
              ++ [(p, s.dev.frame mac (s.dev.get Obj.bdpPuntTarget 0) 0x11 s.dev.mgmt.puntSeq 0 0 body.length body), (p, f)])
    ∧ (∀ (s : State) (p : Nat),
      p < 2 → s.dev.mgmtOn = true →
      exec (.managementLinkChange p true) s
        = .next { s with dev := s.dev.setMgmt { s.dev.mgmt with linkUp := setAdd s.dev.mgmt.linkUp p } })
    ∧ ∀ (s : State) (p : Nat),
      p < 2 → s.dev.mgmtOn = true →
      ∃ t, exec (.managementLinkChange p false) s = .next t ∧ setHas t.dev.mgmt.linkUp p = false
        ∧ t.dev.mgmt.forward = s.dev.mgmt.forward.filter (fun x => x.1 != p) ∧ t.dev.mgmt.own = s.dev.mgmt.own.filter (fun x => x.1 != p)
        ∧ t.dev.get Obj.bdpCount (p * 16 + 5)
            = (s.dev.get Obj.bdpCount (p * 16 + 5) + (s.dev.mgmt.forward.filter fun x => x.1 == p).length) % 2 ^ 64
        ∧ t.dev.get Obj.bdpCount (p * 16 + 9)
            = (s.dev.get Obj.bdpCount (p * 16 + 9)
                + (s.dev.mgmt.own.filter fun x => x.1 == p && bOpcode x.2 == 0x10).length) % 2 ^ 64
        ∧ ∀ o e, chartKey o e ≠ chartKey Obj.bdpCount (p * 16 + 5) → chartKey o e ≠ chartKey Obj.bdpCount (p * 16 + 9) →
            t.dev.get o e = s.dev.get o e)
  ∧ (
    (∀ (s : State) (p : Nat) (f : Bytes) (fcs : Bool) (code : Nat),
      let ring := bit (s.dev.get Obj.devStraps 0) 7
      p < 2 → s.dev.mgmtOn = true → setHas s.dev.mgmt.linkUp p = true →
      (code = 1 ∧ (fcs = false ∨ frameBytes f < 64 ∨ 9000 < frameBytes f)
        ∨ fcs = true ∧ 64 ≤ frameBytes f ∧ frameBytes f ≤ 9000 ∧
          (code = 2 ∧ beAt f 12 2 ≠ 0x88B5
            ∨ beAt f 12 2 = 0x88B5 ∧
              (code = 3 ∧ ring = true ∧ bHop f = 0
                ∨ code = 3 ∧ ring = true ∧ bHop f = 1 ∧ bDir f = 1 ∧ bResponder f ≠ s.dev.devnum
                ∨ code = 3 ∧ ring = true ∧ bHop f = 1 ∧ bDir f = 0 ∧ bTarget f < 0x40 ∧ bTarget f ≠ s.dev.devnum
                ∨ code = 3 ∧ ring = false ∧ bDir f = 1
                ∨ code = 3 ∧ ring = false ∧ bDir f = 0 ∧ bTarget f < 0x40 ∧ bTarget f ≠ s.dev.devnum
                ∨ code = 8 ∧ ring = true ∧ bHop f ≠ 0 ∧ bDir f = 1 ∧ bResponder f = s.dev.devnum
                ∨ code = 11 ∧ (ring = false ∨ bHop f ≠ 0) ∧ bDir f = 0 ∧ 0x40 ≤ bTarget f ∧ bTarget f ≤ 0xFE
                ∨ code = 7 ∧ (ring = false ∨ bHop f ≠ 0) ∧ bDir f = 0 ∧ (bTarget f = s.dev.devnum ∨ ring = false ∧ bTarget f = 0xFF)
                    ∧ s.dev.state ≠ St.reset ∧ bOrig f < 2
                    ∧ bit (s.dev.get Obj.bdpSupervisorPort (bOrig f)) p = false))) →
      exec (.bdpFrameReceive p f fcs) s = .next { s with dev := s.dev.tally Obj.bdpCount (p * 16 + code) 1 })
    ∧ ∀ (s : State) (p : Nat) (f : Bytes),
      p < 2 → s.dev.mgmtOn = true → setHas s.dev.mgmt.linkUp p = true → 64 ≤ frameBytes f → frameBytes f ≤ 9000 → beAt f 12 2 = 0x88B5 →
      bit (s.dev.get Obj.devStraps 0) 7 = true → bDir f = 0 → bTarget f = 0xFF → s.dev.devnum ≠ 0xFF → s.dev.state ≠ St.reset →
      bOrig f < 2 → bit (s.dev.get Obj.bdpSupervisorPort (bOrig f)) p = false →
      let d := s.dev.tally Obj.bdpCount (p * 16 + 7) 1
      let used := ((s.dev.mgmt.forward.filter fun x => x.1 == 1 - p).map fun x => frameBytes x.2).sum
      (bHop f = 1 → exec (.bdpFrameReceive p f true) s = .next { s with dev := d.tally Obj.bdpCount (p * 16 + 3) 1 })
      ∧ (1 < bHop f → setHas s.dev.mgmt.linkUp (1 - p) = true → used + frameBytes f ≤ 65536 →
        exec (.bdpFrameReceive p f true) s
          = .next { s with dev := d.setMgmt { s.dev.mgmt with
              forward := s.dev.mgmt.forward ++ [(1 - p, overwrite f 18 (natBe 1 (bHop f - 1)))] } }))

/-- A READ request of one element executes (R28, R30, R31): its response item carries the element's value and is kept for a retry, and the
request leaves the queue. A word of MEM.Data whose check fails answers BUSY, and the error is reported (R178). What counts as executed,
and that a refused item echoes its TypeCode with no value, is the model's reading (logs 9, 35). A READ item that a check of R28 refuses
transfers nothing, and the first check that fails gives its status: existence and range, role and access, type and length, then
availability. -/
def Obligations.ReadRequest : Prop :=
  (
    ∀ (s : State) (p : Nat) (f : Bytes) (rest : List (Nat × Bytes)) (bad : List Nat) (it : ObjItem) (r : ObjInfo) (v : Nat) (d1 : Device),
      let d0 := s.dev.begun s.clk p f rest
      let d2 := d1.accessed it.object it.element
      (∀ e ∈ bad, e < 512) → s.dev.Ready opRead itemsFormed p f rest → s.dev.Settled →
      parseItems (bCount f) (bPayload f) = some [it] → it.count = 1 →
      objInfo? it.object = some r → responseBytes (12 + roundUp 4 r.size) ≤ 9000 → d0.readCheck s.clk (bOrig f) it = 0 →
      d0.stalled it.object it.element = none → d0.readElement s.clk it.object it.element = .ok (v, d1) →
      (it.object ≠ Obj.memData ∨ it.element ∉ bad →
        ∃ t, exec (.bdpRead bad) s = .next t ∧ t.clk = s.clk ∧ t.dev.mgmt.requests = rest
          ∧ mapGet? t.dev.mgmt.kept (bOrig f) = some (bSequence f,
              let item := it.answer 0 1 r.ty (natBe r.size v)
              d2.frame (bSource f) (bOrig f) opRead (bSequence f) (bCount f) 0 item.length item)
          ∧ t.dev.chart = d2.chart ∧ t.dev.queueStore = s.dev.queueStore)
      ∧ (it.object = Obj.memData → it.element ∈ bad → s.dev.state ≠ St.reset →
        ∃ t, exec (.bdpRead bad) s = .next t ∧ t.clk = s.clk ∧ t.dev.mgmt.requests = rest ∧ t.dev.chart = d0.chart
          ∧ t.dev.Reported 0x04 (wordTarget (d0.memPlace it.element)).1
          ∧ mapGet? t.dev.mgmt.kept (bOrig f) = some (bSequence f,
              let item := it.answer stBusy 0 it.ty []
              d0.frame (bSource f) (bOrig f) opRead (bSequence f) (bCount f) 0 item.length item)))
  ∧ (
    ∀ (s : State) (p : Nat) (f : Bytes) (rest : List (Nat × Bytes)) (bad : List Nat) (it : ObjItem),
      let d0 := s.dev.begun s.clk p f rest
      let answers (st : Nat) : Prop := exec (.bdpRead bad) s = .next { s with dev := d0.respond p f (it.answer st 0 it.ty []) }
      (∀ e ∈ bad, e < 512) → s.dev.Ready opRead itemsFormed p f rest → parseItems (bCount f) (bPayload f) = some [it] →
      (objInfo? it.object = none → answers 1)
      ∧ ∀ r, objInfo? it.object = some r →
        (r.count < it.element + max it.count 1 → answers 1)
        ∧ (it.element + max it.count 1 ≤ r.count →
          ((2 ≤ bOrig f ∧ r.obs = false ∨ r.access = .wo) → answers stAccess)
          ∧ ((bOrig f < 2 ∨ r.obs = true) → r.access ≠ .wo →
            ((it.count = 0 ∨ it.ty ≠ 0 ∨ it.length ≠ 0) → answers stType)
            ∧ (it.count ≠ 0 → it.ty = 0 → it.length = 0 →
              (d0.served (it.object / 4096) false = false → answers stBusy)
              ∧ ∀ i st, i < it.count → d0.readElement s.clk it.object (it.element + i) = .error st → answers stBusy))))

/-- A WRITE request of one element that its checks pass executes (R28, R29, R31): what the element's write does is done before the
response, which carries status OK and the count 1, or the write's own status and the count 0, and no value. The order of the checks, what
counts as executed, and that the item echoes its TypeCode with no value, are the model's reading (logs 9, 12, 35). A WRITE item that a
check of R28 refuses writes nothing, and the first check that fails gives its status: existence and range, access, the area's lock, the
guarding token, type and length, then availability; of an item refused with TYPE and with BUSY, TYPE. A refused set or step of device time
is counted all the same where R299 counts it. -/
def Obligations.WriteRequest : Prop :=
  (
    ∀ (s : State) (p : Nat) (f : Bytes) (rest : List (Nat × Bytes)) (it : ObjItem) (r : ObjInfo),
      let d0 := s.dev.begun s.clk p f rest
      let w := writeElement s.clk d0 (bOrig f) r it.element (beAt it.value 0 r.size)
      s.dev.Ready opWrite itemsFormed p f rest → parseItems (bCount f) (bPayload f) = some [it] → it.count = 1 →
      objInfo? it.object = some r → d0.writeCheck s.clk (bOrig f) it = 0 → d0.stalled it.object it.element = none → r.number = it.object →
      let item := it.answer w.1 (if w.1 = 0 then 1 else 0) it.ty []
      exec .bdpWrite s = .next { s with clk := w.2.1, dev := (w.2.2.accessed it.object it.element).respond p f item })
  ∧ (
    ∀ (s : State) (p : Nat) (f : Bytes) (rest : List (Nat × Bytes)) (it : ObjItem),
      let d0 := s.dev.begun s.clk p f rest
      let answers (d : Device) (st : Nat) : Prop := exec .bdpWrite s = .next { s with dev := d.respond p f (it.answer st 0 it.ty []) }
      let typed := writeRefused s.clk d0 (bOrig f) it stType
      s.dev.Ready opWrite itemsFormed p f rest → parseItems (bCount f) (bPayload f) = some [it] →
      (objInfo? it.object = none → answers d0 1)
      ∧ ∀ r, objInfo? it.object = some r →
        let barred := foreign (bOrig f) it.object it.element (max it.count 1) = true
          ∨ ∃ i < max it.count 1, d0.writeBarred it.object (it.element + i) (beAt it.value (r.size * i) r.size) = true
        let refused := d0.rehearse s.clk (bOrig f) r it
        (r.count < it.element + max it.count 1 → answers d0 1)
        ∧ (it.element + max it.count 1 ≤ r.count →
          ((r.access = .ro ∨ barred) → answers d0 stAccess)
          ∧ (r.access ≠ .ro → ¬barred →
            (d0.locked it.object = true → answers d0 4)
            ∧ (d0.locked it.object = false →
              (d0.unheld (bOrig f) r = true → answers d0 stHelm)
              ∧ (d0.unheld (bOrig f) r = false →
                ((it.count = 0 ∨ it.ty ≠ r.ty ∨ it.length ≠ it.count * r.size) → answers typed stType)
                ∧ (it.count ≠ 0 → it.ty = r.ty → it.length = it.count * r.size →
                  (d0.served (it.object / 4096) true = false ∨ stBusy ∈ refused) →
                  (stType ∈ refused → answers typed stType) ∧ (stType ∉ refused → answers d0 stBusy)))))))

/-- Helm tokens (R38): a take of a free token, of an own one, and of one whose holder has been silent for HELM.Timeout makes the taker its
holder; a take from a live holder and a give by anyone else are refused with HELM and change nothing; a give by the holder frees the
token. A HELM_TAKE and a HELM_GIVE request of one token execute (R30, R38): the response item is of type U8 and carries the former holder.
That a refused item carries Count 1 and the holder is the model's reading (log 11). -/
def Obligations.HelmTokens : Prop :=
  (
    (∀ (d : Device) (c : Clk) (o e : Nat),
      (d.holder e = 0xFF ∨ d.holder e = o ∨ d.get Obj.helmTimeout 0 ≤ d.lastHeard c (d.holder e)) →
      (d.helmTake c o e).1 = 0 ∧ (d.helmTake c o e).2.holder e = o ∧ ElementSame Obj.helmToken e d (d.helmTake c o e).2)
    ∧ (∀ (d : Device) (c : Clk) (o e : Nat),
      d.holder e ≠ 0xFF → d.holder e ≠ o → d.lastHeard c (d.holder e) < d.get Obj.helmTimeout 0 → d.helmTake c o e = (stHelm, d))
    ∧ (∀ (d : Device) (o e : Nat),
      (d.holder e = o → (d.helmGive o e).1 = 0 ∧ (d.helmGive o e).2.holder e = 0xFF ∧ ElementSame Obj.helmToken e d (d.helmGive o e).2)
        ∧ (d.holder e ≠ o → d.helmGive o e = (stHelm, d))))
  ∧ (
    ∀ (s : State) (p : Nat) (f : Bytes) (rest : List (Nat × Bytes)) (it : ObjItem),
      let d0 := s.dev.begun s.clk p f rest
      let old := natBe 1 (d0.holder it.element)
      parseItems (bCount f) (bPayload f) = some [it] → it.object = Obj.helmToken → it.element < 16 → it.count = 1 → it.ty = 0 →
      it.length = 0 →
      (s.dev.Ready opHelmTake itemsFormed p f rest →
        let r := d0.helmTake s.clk (bOrig f) it.element
        exec .helmTake s = .next { s with dev := r.2.respond p f (itemBytes Obj.helmToken it.element 1 r.1 2 old) })
      ∧ (s.dev.Ready opHelmGive itemsFormed p f rest →
        let r := d0.helmGive (bOrig f) it.element
        exec .helmGive s = .next { s with dev := r.2.respond p f (itemBytes Obj.helmToken it.element 1 r.1 2 old) }))

/-- Bulk transfers of one item execute (R29, Table 2.9): a WRITE_BULK into the queue store or the HBM queue region stores its bytes at their
offset and leaves every other byte of both, and a READ_BULK of any region answers its bytes as they stand once the code has seen what it
reads (R265). One that lies in a block whose stack its crossing cannot reach answers TIMEOUT, and nothing is stored (R341, Table 2.12). -/
def Obligations.BulkRequests : Prop :=
  ∀ (s : State) (p : Nat) (f : Bytes) (rest : List (Nat × Bytes)) (it : BulkItem) (found : List BlockFound),
    let d0 := s.dev.begun s.clk p f rest
    let timedOut (k : Nat) : State := { s with dev := (d0.accessRefused k 0).respond p f (it.answer stTimeout []) }
    s.dev.Settled →
    (∀ k, s.dev.Ready opWriteBulk (bulkFormed true) p f rest → parseBulk true (bCount f) (bPayload f) = some [it] →
      d0.bulkCheck true it = 0 → d0.firstBlocked (d0.bulkCrossings true it) = some k → exec .writeBulk s = .next (timedOut k))
    ∧ (∀ k, s.dev.Ready opReadBulk (bulkFormed false) p f rest → parseBulk false (bCount f) (bPayload f) = some [it] →
      d0.bulkCheck false it = 0 → (∀ b ∈ found, b.wf = true) → d0.firstBlocked (d0.bulkCrossings false it) = some k →
      exec (.readBulk found) s = .next (timedOut k))
    ∧ (s.dev.Ready opWriteBulk (bulkFormed true) p f rest → parseBulk true (bCount f) (bPayload f) = some [it] →
      d0.bulkCheck true it = 0 → it.data.length = it.length → d0.firstBlocked (d0.bulkCrossings true it) = none →
      ∃ t, exec .writeBulk s = .next t ∧ t.clk = s.clk
        ∧ (it.region = 1 → memRead t.dev.queueStore it.offset it.length = it.data ∧ t.dev.hbm = s.dev.hbm ∧ t.dev.chart = d0.chart)
        ∧ (it.region = 2 → memRead t.dev.hbm.queueRegion it.offset it.length = it.data ∧ t.dev.queueStore = s.dev.queueStore)
        ∧ ∀ a, a < it.offset ∨ it.offset + it.length ≤ a →
            memByte t.dev.queueStore a = memByte s.dev.queueStore a
              ∧ memByte t.dev.hbm.queueRegion a = memByte s.dev.hbm.queueRegion a)
    ∧ (s.dev.Ready opReadBulk (bulkFormed false) p f rest → parseBulk false (bCount f) (bPayload f) = some [it] →
      d0.bulkCheck false it = 0 → (∀ b ∈ found, b.wf = true) → d0.firstBlocked (d0.bulkCrossings false it) = none →
      let d1 := (d0.accessesDone (d0.bulkCrossings false it)).readFound s.clk (bulkBlocks it).contains found
      ∃ t, exec (.readBulk found) s = .next t ∧ t.clk = s.clk ∧ t.dev.queueStore = s.dev.queueStore
        ∧ t.dev.hbm.queueRegion = s.dev.hbm.queueRegion ∧ t.dev.chart = d1.chart
        ∧ mapGet? t.dev.mgmt.kept (bOrig f) = some (bSequence f,
            let item := it.answer 0 ((List.range it.length).map (d1.bulkByte it.region it.offset))
            d1.frame (bSource f) (bOrig f) opReadBulk (bSequence f) (bCount f) 0 item.length item))

/-- A request of any opcode that repeats the latest executed one of its originator is not executed: the kept response is sent again, to
the port and address the repetition came from (R31). A defective request is answered with an ERROR frame in place of a response and
executes no item (Table 2.13): reason 1 for its Version and 2 for its opcode, as it is received, and 3 for lengths that disagree, no item,
or a READ's response beyond 9,000 bytes, and 4 for an observer's request of a supervisor's opcode, as it is executed. That the reasons are
tried in this order is the model's reading (log 9). -/
def Obligations.UnexecutedRequests : Prop :=
  (
    ∀ (s : State) (p : Nat) (f r : Bytes) (rest : List (Nat × Bytes)) (bad : List Nat) (found : List BlockFound),
      (∀ e ∈ bad, e < 512) → (∀ b ∈ found, b.wf = true) →
      ∀ x ∈ ([(.bdpRead bad, opRead, itemsFormed), (.bdpWrite, opWrite, itemsFormed), (.readBulk found, opReadBulk, bulkFormed false),
          (.writeBulk, opWriteBulk, bulkFormed true), (.helmTake, opHelmTake, itemsFormed), (.helmGive, opHelmGive, itemsFormed)] :
          List (Instr × Nat × (Bytes → Bool))),
      s.dev.pilotRuns = true → s.dev.mgmt.requests = (p, f) :: rest → unexecutable f = 0 → bOpcode f = x.2.1 → bOverrun f = false →
      bCount f ≠ 0 → x.2.2 f = true → (bOrig f < 2 ∨ x.2.1 = opRead) → mapGet? s.dev.mgmt.kept (bOrig f) = some (bSequence f, r) →
      s.dev.Settled → setHas s.dev.mgmt.linkUp p = true → s.dev.mgmt.forward = [] →
      exec x.1 s = .next { s with dev := s.dev.setMgmt { s.dev.mgmt with
        requests := rest, sent := s.dev.mgmt.sent ++ [(p, overwrite r 0 (natBe 6 (bSource f)))] } })
  ∧ (
    (∀ (s : State) (p : Nat) (f : Bytes),
      p < 2 → s.dev.mgmtOn = true → setHas s.dev.mgmt.linkUp p = true → 64 ≤ frameBytes f → frameBytes f ≤ 9000 → beAt f 12 2 = 0x88B5 →
      (bHop f ≠ 0 ∨ bit (s.dev.get Obj.devStraps 0) 7 = false) → bDir f = 0 → bTarget f = s.dev.devnum → s.dev.state ≠ St.reset →
      (bOrig f < 2 → bit (s.dev.get Obj.bdpSupervisorPort (bOrig f)) p = true) → bOpcode f ≠ opInject → s.dev.pilotRuns = true →
      s.dev.mgmt.requests = [] → s.dev.mgmt.forward = [] → s.dev.Settled → bTarget f < 0x40 →
      ∀ reason, (reason = 1 ∧ bVersion f ≠ 1 ∨ reason = 2 ∧ bVersion f = 1 ∧ (bOpcode f = 0 ∨ 6 < bOpcode f)) →
      exec (.bdpFrameReceive p f true) s = .next { s with dev := s.dev.setMgmt { s.dev.mgmt with
        requests := []
        sent := s.dev.mgmt.sent ++ [(p, s.dev.frame (bSource f) (bOrig f) 0x1F (bSequence f) 0 reason 0 [])] } })
    ∧ ∀ (s : State) (p : Nat) (f : Bytes) (rest : List (Nat × Bytes)) (bad : List Nat) (found : List BlockFound),
      (∀ e ∈ bad, e < 512) → (∀ b ∈ found, b.wf = true) →
      ∀ x ∈ ([(.bdpRead bad, opRead, itemsFormed), (.bdpWrite, opWrite, itemsFormed), (.readBulk found, opReadBulk, bulkFormed false),
          (.writeBulk, opWriteBulk, bulkFormed true), (.helmTake, opHelmTake, itemsFormed), (.helmGive, opHelmGive, itemsFormed)] :
          List (Instr × Nat × (Bytes → Bool))),
      let error (reason : Nat) : Prop := exec x.1 s = .next { s with dev := s.dev.setMgmt { s.dev.mgmt with
        requests := rest
        sent := s.dev.mgmt.sent ++ [(p, s.dev.frame (bSource f) (bOrig f) 0x1F (bSequence f) 0 reason 0 [])] } }
      s.dev.pilotRuns = true → s.dev.mgmt.requests = (p, f) :: rest → unexecutable f = 0 → bOpcode f = x.2.1 → s.dev.Settled →
      setHas s.dev.mgmt.linkUp p = true → s.dev.mgmt.forward = [] →
      ((bOverrun f = true ∨ bCount f = 0 ∨ x.2.2 f = false) → error 3)
      ∧ (bOverrun f = false → bCount f ≠ 0 → x.2.2 f = true → 2 ≤ bOrig f → x.2.1 ≠ opRead → error 4)
      ∧ (x.2.1 = opRead → s.dev.Ready opRead itemsFormed p f rest →
        ∀ its, parseItems (bCount f) (bPayload f) = some its →
          9000 < responseBytes (((s.dev.begun s.clk p f rest).readItems s.clk (bOrig f) bad its).1.length) → error 3))

/-- INJECT and PUNT (R40, R41): a mode-1 packet joins the inject FIFO, a mode-0 packet is offered to admission for the queue it names with
the record R41 gives it, an inject of either mode that is refused, the full inject FIFO's among them, is counted as code 10, and the
oldest punt leaves its queue as its frame is sent, and stays in it while a forwarded frame goes first (R35, R418; log 90). When an INJECT
is checked, and what says that injects exceed 20 Gb/s, is the model's reading (log 10); that the packets' bytes fill the inject FIFO and a
mode-0 packet takes no place there is its choice (log 80). -/
def Obligations.InjectAndPunt : Prop :=
  (∀ (s : State) (p : Nat) (f : Bytes) (rest : List (Nat × Bytes)),
    s.dev.mgmt.injects = (p, f) :: rest → iMode f = 1 → s.dev.injectOk f = true →
    (s.dev.mgmt.pipeline.map fun x => x.packet.length).sum + (iPacket f).length ≤ 65536 →
    exec (.injectToPipeline false) s = .next { s with dev := s.dev.setMgmt { s.dev.mgmt with
      injects := rest, pipeline := s.dev.mgmt.pipeline ++ [{ port := iPort f, pool := iPool f, packet := iPacket f }] } })
  ∧ (∀ (s : State) (p : Nat) (f : Bytes) (rest : List (Nat × Bytes)) (above : Bool),
    s.dev.mgmt.injects = (p, f) :: rest →
    let refused : Host.Outcome State Fault Refusal :=
      .next { s with dev := (s.dev.setMgmt { s.dev.mgmt with injects := rest }).tally Obj.bdpCount (p * 16 + 10) 1 }
    (iMode f = 1 →
      (above = true ∨ s.dev.injectOk f = false
        ∨ 65536 < (s.dev.mgmt.pipeline.map fun x => x.packet.length).sum + (iPacket f).length) →
      exec (.injectToPipeline above) s = refused)
    ∧ (iMode f = 0 → (above = true ∨ s.dev.injectOk f = false) → exec (.injectToQueue above) s = refused))
  ∧ (∀ (s : State) (p : Nat) (f : Bytes) (rest : List (Nat × Bytes)),
    s.dev.mgmt.injects = (p, f) :: rest → iMode f = 0 → s.dev.injectOk f = true →
    let packet : Offer := { queue := iQueue f, pool := iPool f, port := none, copy := false, punt := false, inject := true
                            record := at_ 447 416 s.clk.short + at_ 319 302 (iQueue f) + at_ 301 301 1, packet := iPacket f }
    exec (.injectToQueue false) s
      = .next { s with dev := ((s.dev.setMgmt { s.dev.mgmt with injects := rest }).takeOffer s.clk packet).1 })
  ∧ ∀ (s : State) (e : QEntry) (rest : List QEntry) (port mac : Nat),
    s.dev.forwarding = true → s.dev.queue puntPath = e :: rest → s.dev.reachable (s.dev.get Obj.bdpPuntTarget 0) = some (port, mac) →
    ((s.dev.mgmt.forward = [] ∨ setHas s.dev.mgmt.lastForwarded port = true ∧ s.dev.mgmt.own = []) →
      ∃ t, exec .puntFrameSend s = .next t ∧ t.dev.mgmt.puntSeq = (s.dev.mgmt.puntSeq + 1) % 65536
        ∧ t.dev.mgmt.sent = s.dev.mgmt.sent ++ [(port,
            let body := natBe 16 (puntMeta e) ++ e.packet.take 8950
            s.dev.frame mac (s.dev.get Obj.bdpPuntTarget 0) 0x11 s.dev.mgmt.puntSeq 0 0 body.length body)]
        ∧ t.dev.queue puntPath = rest)
    ∧ ((∃ f, (port, f) ∈ s.dev.mgmt.forward) → setHas s.dev.mgmt.lastForwarded port = false → exec .puntFrameSend s = .next s)

/-! ### Work queues and tables (chapters 03, 06, 07) -/

/-- A queue fetches its next entry (R51): WQ.Head advances, and the descriptor read from the queue's memory, or from its cache, joins the
fetched ones, finished with MALFORMED where R50 refuses it. In HBM it is read over its stacks' crossings, as the code finds its blocks
(R265, R267, R338). One that cannot be read is not fetched, and is reported (the model's choice, log 32), the timeout of a crossing among
them, which that crossing records (R341). A cached queue reads the next entry ahead (R62), one entry a command (log 19), also while its
ring is stalled (the model's choice, log 86); one that cannot be read is reported and not cached. A FENCE or FENCE_BEFORE entry starts
only when none of its queue is left before it, and any other once all before it have started and no earlier chain addresses its entry
(R51); a command for one that may not start changes nothing. NOP ends with OK and result 0; a FENCE waits for the packets then in the
slices and ends when none of them is left; a BULK_WRITE starts at its head record (R51, R53, Table 3.7). Nothing but the queue's
descriptors changes. -/
def Obligations.DescriptorFetch : Prop :=
  (
    (∀ (s : State) (q v : Nat) (found : FetchEnd) (blocks : List BlockFound),
      q < 32 → (∀ b ∈ blocks, b.wf = true) → s.dev.mayFetch q = true → s.dev.cached q (s.dev.get Obj.wqHead q) = some v →
      let n := s.dev.get Obj.wqHead q
      ∃ t, exec (.descriptorFetch q found blocks) s = .next t ∧ t.dev.get Obj.wqHead q = (n + 1) % 2 ^ 32
        ∧ t.dev.wqFetched q = s.dev.wqFetched q
            ++ [{ count := n, raw := v, stage := if s.dev.descOk v = true then .waiting else .finished csMalformed 0 }]
        ∧ ChartSame [Obj.wqHead, Obj.wqMalformed] s.dev t.dev ∧ t.dev.queueStore = s.dev.queueStore ∧ t.dev.tbl = s.dev.tbl)
    ∧ (∀ (s : State) (q : Nat) (found : FetchEnd) (blocks : List BlockFound),
      q < 32 → (∀ b ∈ blocks, b.wf = true) → s.dev.mayFetch q = true → s.dev.cached q (s.dev.get Obj.wqHead q) = none →
      let n := s.dev.get Obj.wqHead q
      let off := s.dev.entryAt q n
      let xs := s.dev.entryCrossings q off
      (∀ k, s.dev.firstBlocked xs = some k →
        exec (.descriptorFetch q found blocks) s
          = .next { s with dev := (s.dev.accessRefused k 0).fetchFails q (n % s.dev.wqEntries q) })
      ∧ (s.dev.firstBlocked xs = none →
        let e := (if found = .timeout then xs.foldl (fun d k => d.accessTimeout k 0) s.dev else s.dev.accessesDone xs).entrySeen s.clk q off blocks
        let v := beNat (e.regionRead (e.wqRegion q) off 64)
        (e.entryFails q found = false → e.regionOk (e.wqRegion q) off 64 = true →
          ∃ t, exec (.descriptorFetch q found blocks) s = .next t ∧ t.dev.get Obj.wqHead q = (n + 1) % 2 ^ 32
            ∧ t.dev.wqFetched q = e.wqFetched q
                ++ [{ count := n, raw := v, stage := if e.descOk v = true then .waiting else .finished csMalformed 0 }]
            ∧ ChartSame [Obj.wqHead, Obj.wqMalformed] e t.dev ∧ t.dev.queueStore = e.queueStore ∧ t.dev.tbl = e.tbl)
        ∧ (e.entryFails q found = true ∨ e.regionOk (e.wqRegion q) off 64 = false →
          ∃ t, exec (.descriptorFetch q found blocks) s = .next t ∧ t.dev.Reported 0x20 (0xB00 + q)
            ∧ t.dev.get Obj.wqHead q = e.get Obj.wqHead q ∧ t.dev.wq = e.wq ∧ t.dev.queueStore = e.queueStore))
      ∧ (s.dev.wqRegion q = 1 → xs = [] ∧ s.dev.entrySeen s.clk q off blocks = s.dev))
    ∧ ∀ (s : State) (q n : Nat) (blocks : List BlockFound), q < 32 → (∀ b ∈ blocks, b.wf = true) →
      s.dev.pilotRuns = true → s.dev.get Obj.wqEnable q = 1 → s.dev.wqCached q = true → s.dev.state ≠ St.safe →
      s.dev.nextPrefetch q = some n →
      let off := s.dev.entryAt q n
      let xs := s.dev.entryCrossings q off
      let e := (s.dev.accessesDone xs).entrySeen s.clk q off blocks
      let filled := e.setCache q (mapGet e.wq.cache q [] ++ [(n, beNat (e.regionRead (e.wqRegion q) off 64))])
      (s.dev.firstBlocked xs = none →
        exec (.cachePrefetch q blocks) s
          = .next { s with dev := if e.regionOk (e.wqRegion q) off 64 = true then filled else e.fetchFails q (n % e.wqEntries q) })
      ∧ ∀ k, s.dev.firstBlocked xs = some k →
        exec (.cachePrefetch q blocks) s = .next { s with dev := (s.dev.accessRefused k 0).fetchFails q (n % s.dev.wqEntries q) })
  ∧ (
    (∀ (s : State) (q n : Nat) (x : Fetched), q < 32 → n < 2 ^ 32 → s.dev.startable q n = some x → dOp x.raw = 0 →
      ∃ t, exec (.tableNop q n) s = .next t ∧ s.dev.Ends t.dev q x csOk 0 ∧ t = { s with dev := { s.dev with wq := t.dev.wq } })
    ∧ (∀ (s : State) (q n : Nat) (x : Fetched), q < 32 → n < 2 ^ 32 → s.dev.startable q n = some x → dOp x.raw = 8 →
      ∃ t, exec (.fence q n) s = .next t
        ∧ { x with stage := .fencing ((s.dev.sl.flights.filter fun f => !f.lost).map Flight.id) } ∈ t.dev.wqFetched q
        ∧ t = { s with dev := { s.dev with wq := t.dev.wq } })
    ∧ (∀ (s : State) (q n : Nat) (x : Fetched) (ids : List Nat), q < 32 → n < 2 ^ 32 → s.dev.Sole q n x → x.stage = .fencing ids →
      (∀ f ∈ s.dev.sl.flights, f.id ∈ ids → f.lost = true) →
      ∃ t, exec (.fenceComplete q n) s = .next t ∧ s.dev.Ends t.dev q x csOk 0 ∧ t = { s with dev := { s.dev with wq := t.dev.wq } })
    ∧ (∀ (s : State) (q n : Nat) (x : Fetched), q < 32 → n < 2 ^ 32 → s.dev.startable q n = some x → dOp x.raw = 7 →
      ∃ t, exec (.bulkWrite q n) s = .next t ∧ { x with stage := .running (dDataOffset x.raw) 0 0 } ∈ t.dev.wqFetched q
        ∧ t = { s with dev := { s.dev with wq := t.dev.wq } })
    ∧ (∀ (d : Device) (q n : Nat) (x : Fetched) (earlier later : List Fetched), d.wqFetched q = earlier ++ x :: later → x.count = n →
      x.stage = .waiting → (∀ y ∈ earlier, y.count = n → y.stage ≠ .waiting) →
      let alone := dOp x.raw = 8 ∨ dFence x.raw = true
      let held := ∃ y ∈ earlier, y.stage = .waiting ∨ ∃ off k f t,
        y.stage = .running off k f ∧ d.descTarget x.raw = some t ∧ d.chainAddresses t 131072 off = true
      (alone → earlier = [] → d.startable q n = some x) ∧ (alone → earlier ≠ [] → d.startable q n = none)
      ∧ (¬ alone → held → d.startable q n = none) ∧ (¬ alone → ¬ held → d.startable q n = some x))
    ∧ ∀ (s : State) (q n : Nat) (found : List BlockFound) (check : WinnerCheck), q < 32 → n < 2 ^ 32 → (∀ b ∈ found, b.wf = true) →
      s.dev.startable q n = none →
      ∀ i ∈ [Instr.tableNop q n, .fence q n, .bulkWrite q n, .tableInsert q n found, .tableUpdate q n found, .tableDelete q n found,
          .tableSearch q n found, .tableNext q n found, .flexRead q n found, .flushByPort q n, .tcamInsertControl q n found,
          .tcamUpdateControl q n found, .tcamUpdateKey q n found, .tcamDeleteControl q n, .tcamSearchControl q n, .tcamSearchKey q n,
          .tcamSearchLookup q n check found],
        exec i s = .next s)

/-- A record of a running chain executes (R51, R54): its command's status is written into the record's Status byte, and the chain follows
the record's link word with the counts of records executed and failed. It waits for an earlier chain with a linked record on the same entry
(log 19), and while a Pilot restart holds a crossing it needs in reset (R13, log 48). A record that cannot be read is reported, and a
timeout ends the descriptor (log 32); that an uncorrectable one is read again, and
that a malformed one counts among the executed, is the model's choice (log 81). -/
def Obligations.ChainRecord : Prop :=
  ∀ (s : State) (q n off k f : Nat) (x : Fetched) (earlier later : List Fetched) (blocks : List BlockFound), q < 32 → n < 2 ^ 32 →
    s.dev.wqFetched q = earlier ++ x :: later → (∀ y ∈ earlier, y.count ≠ n) → x.count = n → x.stage = .running off k f →
    (∀ b ∈ blocks, b.wf = true) →
    let e := s.dev.recordSeen s.clk off blocks
    let waits := s.dev.recordWaits earlier off
    let awaits := e.awaitsReset (e.recordCrossings s.clk (s.dev.record off))
    let r := e.runRecord s.clk (s.dev.record off)
    let d := { r.1 with queueStore := memWrite r.1.queueStore (off + 11) (BitVec.ofNat 8 r.2) }
    let f' := if r.2 = csOk then f else f + 1
    let failed := e.fetchFails q (n % e.wqEntries q)
    (∀ found, waits = true → exec (.chainRecordExecute q n found blocks) s = .next s)
    ∧ (awaits = true → exec (.chainRecordExecute q n .ok blocks) s = .next s)
    ∧ (waits = false →
      (awaits = false → exec (.chainRecordExecute q n .ok blocks) s = .next { s with dev := d.follow q x off (k + 1) f' })
      ∧ exec (.chainRecordExecute q n .uncorrectable blocks) s = .next { s with dev := failed }
      ∧ exec (.chainRecordExecute q n .timeout blocks) s = .next { s with dev := failed.finish q x csTimeout (k * 2 ^ 32 + f) })
    ∧ ((rEnd (d.record off) = false → rNext (d.record off) % 64 = 0 →
          { x with stage := .running (rNext (d.record off)) (k + 1) f' } ∈ (d.follow q x off (k + 1) f').wqFetched q)
        ∧ (rEnd (d.record off) = true → rLast (d.record off) = true →
          s.dev.Ends (d.follow q x off (k + 1) f') q x (if f' = 0 then csOk else csPartial) ((k + 1) * 2 ^ 32 + f'))
        ∧ (rEnd (d.record off) = true → rLast (d.record off) = false → d.get Obj.wqEnable q = 1 →
          { x with stage := .parked off (k + 1) f' } ∈ (d.follow q x off (k + 1) f').wqFetched q))

/-- Every entry command that starts does what its table does, ends with the status and result its table gives, and counts the requests of
the crossings of the accesses it makes (R132, R149, R361, Table 3.7, R339). Of a LOOKUP whose winner fails its check the row is
invalidated (R154); its status is the model's (log 41). One whose operand's crossing cannot carry it ends with TIMEOUT, one whose operand
cannot be read with FENCED, one whose key or data is out of range with MALFORMED, and one another of whose accesses its crossing cannot
carry with TIMEOUT, in the model's order; where a Pilot restart holds that crossing in reset the command waits (log 48). -/
def Obligations.EntryCommands : Prop :=
  ∀ (s : State) (q n : Nat) (x : Fetched) (found : List BlockFound), q < 32 → n < 2 ^ 32 →
    let v := x.raw
    let d := s.dev.seen s.clk x found
    let e := s.dev
    let ended (d' : Device) (st : Nat) : State := { s with dev := d'.finish q x st 0 }
    let cut (d' : Device) (k : Nat) : State := if d'.crossState k = 3 then s else ended (d'.accessRefused k 0) csTimeout
    let does (i : Instr) (d' : Device) (r : Sys2Proof.Machine.Outcome) : Prop :=
      let xs := d'.cmdCrossings v r.2.1 r.2.2
      (d'.firstBlocked xs = none → exec i s = .next { s with dev := (r.1.accessesDone xs).finish q x r.2.1 r.2.2 })
      ∧ ∀ k, d'.firstBlocked xs = some k → exec i s = .next (cut d' k)
    (s.dev.Starts s.clk q n x found →
      (isTable 1 v = true →
        does (.tableInsert q n found) d (d.tblInsert s.clk (dTable v) (dScope v) (dIndex v) (d.keyOf v) (d.dataOf v)))
      ∧ (isTable 2 v = true →
        does (.tableUpdate q n found) d (d.tblUpdate s.clk (dTable v) (dScope v) (dIndex v) (d.keyOf v) (d.dataOf v)))
      ∧ (isTable 3 v = true → does (.tableDelete q n found) d (d.tblDelete (dTable v) (dScope v) (dIndex v) (d.keyOf v)))
      ∧ (∀ i bs, isTable 4 v = true → d.tblSearch (dTable v) (dScope v) (dIndex v) (d.keyOf v) = .ok i →
        d.imageAt (dTable v) (dScope v) i = some bs →
        does (.tableSearch q n found) d (d.regionWrite (dResultRegion v) (dResultOffset v) bs, csOk, i))
      ∧ (∀ st, isTable 4 v = true → d.tblSearch (dTable v) (dScope v) (dIndex v) (d.keyOf v) = .error st →
        does (.tableSearch q n found) d (d, st, 0))
      ∧ (dOp v = 5 → does (.tableNext q n found) d (d.nextCmd v))
      ∧ (dOp v = 0x10 → (∀ i, i < dCount v → d.blockBad (flexBlock (dIndex v + i)) = false) →
        let r := d.flexRead (dIndex v) (bit (dInline v) 255) (dCount v)
        does (.flexRead q n found) d (r.2.regionWrite (dResultRegion v) (dResultOffset v) r.1, csOk, dCount v))
      ∧ (∀ i, dOp v = 0x10 → i < dCount v → d.blockBad (flexBlock (dIndex v + i)) = true →
        does (.flexRead q n found) d (d, csFenced, 0))
      ∧ (isPart 1 0 v = true → does (.tcamInsertControl q n found) d (d.tcInsert s.clk (dScope v) (dRow v) (beAt (d.operand v) 0 16)))
      ∧ (isPart 2 0 v = true → does (.tcamUpdateControl q n found) d (d.tcUpdate s.clk (dScope v) (dRow v) (beAt (d.operand v) 0 16)))
      ∧ (isPart 2 1 v = true →
        does (.tcamUpdateKey q n found) d (d.tcKey s.clk (dScope v) (dRow v) (tcComp (dIndex v)) (beAt (d.operand v) 0 40)))
      ∧ (∀ check, isPart 4 3 v = true → d.fenceBlocks (dScope v) (dTcam v) = true →
        does (.tcamSearchLookup q n check found) d (d, csFenced, 0))
      ∧ (∀ check, isPart 4 3 v = true → d.fenceBlocks (dScope v) (dTcam v) = false →
        d.winner (dScope v) (dTcam v) (beAt (d.operand v) 0 (20 * tcWidth (d.tcamTable (dScope v) (dTcam v)))) = none →
        does (.tcamSearchLookup q n check found) d (d, csNotFound, 0))
      ∧ (∀ (w : Nat × TcamRow) (check : WinnerCheck), isPart 4 3 v = true → d.fenceBlocks (dScope v) (dTcam v) = false →
        bit (d.tcamTable (dScope v) (dTcam v)) 63 = true →
        d.winner (dScope v) (dTcam v) (beAt (d.operand v) 0 (20 * tcWidth (d.tcamTable (dScope v) (dTcam v)))) = some w →
        (check = .good → does (.tcamSearchLookup q n check found) d
          (d.regionWrite (dResultRegion v) (dResultOffset v) (controlImage w.2 w.1), csOk, w.1))
        ∧ (∀ cause bank, winnerFault (tcWidth (d.tcamTable (dScope v) (dTcam v))) w.1 check = some (cause, bank) →
          ∃ st, (st = csNotFound ∨ st = csBusy ∨ st = csFenced)
            ∧ does (.tcamSearchLookup q n check found) d (d.spend.rowError s.clk cause (dScope v) w.1 bank, st, 0))))
    ∧ (s.dev.Starts s.clk q n x [] →
      (dOp v = 6 → does (.flushByPort q n) e ((e.flushPort (dScope v) (dIndex v) (bit (dInline v) 255)).1, csOk,
          (e.flushPort (dScope v) (dIndex v) (bit (dInline v) 255)).2))
      ∧ (isPart 3 0 v = true → does (.tcamDeleteControl q n) e (e.tcDelete s.clk (dScope v) (dRow v)))
      ∧ (∀ bs, e.tcRead (dScope v) (dIndex v) = .ok bs →
        let r := (e.regionWrite (dResultRegion v) (dResultOffset v) bs, csOk, dRow v)
        (isPart 4 0 v = true → does (.tcamSearchControl q n) e r) ∧ (isPart 4 1 v = true → does (.tcamSearchKey q n) e r))
      ∧ (∀ st, e.tcRead (dScope v) (dIndex v) = .error st →
        (isPart 4 0 v = true → does (.tcamSearchControl q n) e (e, st, 0))
        ∧ (isPart 4 1 v = true → does (.tcamSearchKey q n) e (e, st, 0))))
    ∧ (s.dev.startable q n = some x → (∀ b ∈ found, b.wf = true) →
      ∀ i : Instr, (i = .tableInsert q n found ∧ isTable 1 v = true ∨ i = .tableUpdate q n found ∧ isTable 2 v = true
          ∨ i = .tableDelete q n found ∧ isTable 3 v = true ∨ i = .tableSearch q n found ∧ isTable 4 v = true
          ∨ i = .tableNext q n found ∧ dOp v = 5 ∨ i = .flexRead q n found ∧ dOp v = 0x10
          ∨ i = .tcamInsertControl q n found ∧ isPart 1 0 v = true ∨ i = .tcamUpdateControl q n found ∧ isPart 2 0 v = true
          ∨ i = .tcamUpdateKey q n found ∧ isPart 2 1 v = true
          ∨ (∃ check, i = .tcamSearchLookup q n check found) ∧ isPart 4 3 v = true) →
        (∀ k, e.firstBlocked (e.operandCrossings v) = some k → exec i s = .next (cut e k))
        ∧ (e.firstBlocked (e.operandCrossings v) = none →
          (d.operandRead v = false → exec i s = .next (ended d csFenced))
          ∧ (d.operandRead v = true → operandFits d v = false → exec i s = .next (ended d csMalformed))))

/-- Direct-indexed tables (R126, R132): INSERT of a free index stores the entry and leaves every other index, UPDATE replaces a held one,
DELETE frees it; INSERT of a held index ends with EXISTS, and UPDATE or DELETE of a free one with NOT_FOUND, with nothing changed. -/
def Obligations.DirectTables : Prop :=
  ∀ (d : Device) (c : Clk) (table i data : Nat), i < directSize table →
    let e : Entry := { key := 0, data := data, changed := c.time80 }
    (d.direct table i = none →
      (d.directInsert c table i data).2 = (csOk, i) ∧ (d.directInsert c table i data).1.direct table i = some e
        ∧ (∀ t j, j < 2 ^ 24 → (t, j) ≠ (table, i) → (d.directInsert c table i data).1.direct t j = d.direct t j)
        ∧ d.directUpdate c table i data = (d, csNotFound, 0) ∧ d.directDelete table i = (d, csNotFound, 0))
    ∧ (∀ old, d.direct table i = some old →
      d.directInsert c table i data = (d, csExists, i)
        ∧ (d.directUpdate c table i data).2 = (csOk, i) ∧ (d.directUpdate c table i data).1.direct table i = some e
        ∧ (d.directDelete table i).2 = (csOk, i) ∧ (d.directDelete table i).1.direct table i = none
        ∧ (∀ t j, j < 2 ^ 24 → (t, j) ≠ (table, i) →
            (d.directUpdate c table i data).1.direct t j = d.direct t j ∧ (d.directDelete table i).1.direct t j = d.direct t j))

/-- Layer-2 entries (R118, R123, R132, Tables 6.3, 6.13): INSERT takes a free way of its key's set, or ends with EXISTS or FULL; UPDATE,
DELETE and SEARCH address the key's way, or end with NOT_FOUND; no other entry moves, and Scope 0xFF does the same in every slice. Which
free way is taken is free (log 8). LPM prefixes (R124): matched by VRF, prefix and length, the bits beyond it cleared; INSERT takes one
free unit, or two for IPv6, and ends with FULL only where they would exceed 2,097,152; UPDATE keeps its unit, DELETE frees it. Which free
units are taken is free (log 8). NEXT (R133): an invalid cursor ends it with CURSOR; a valid one returns the entries in rising order, at
most Count within 65,536 positions, and the next cursor, 0 at the table's end; a flow slot on the way that cannot be read ends it with
FENCED. FLUSH_BY_PORT (R134) removes in the slices of its Scope every entry of its port that is not STATIC, and with Inline bit 255 the
static ones too, counts them, and advances those slices' generations. FLEX_READ (R361) gives whole values, in increasing order, and with
Inline bit 255 zeroes them. -/
def Obligations.TableCommands : Prop :=
  (
    ∀ (d : Device) (c : Clk) (sl key data idx : Nat), sl < 4 →
      let way (w : Nat) : Nat := crc32c (natBe 8 key) % 65536 * 4 + w
      let held (w : Nat) : Option L2Entry := mapGet? d.tbl.l2 (sl * 262144 + way w)
      let e : L2Entry := { key := key, data := cleanEntry 1 data, hit := true, strikes := 0, learned := false, changed := c.time80 }
      let insert := d.tblInsert c 1 sl idx key data
      let update := d.tblUpdate c 1 sl idx key data
      let delete := d.tblDelete 1 sl idx key
      let stands (r : Sys2Proof.Machine.Outcome) (w : Nat) (x : Option L2Entry) : Prop :=
        r.2 = (csOk, way w) ∧ mapGet? r.1.tbl.l2 (sl * 262144 + way w) = x
          ∧ ∀ j, j ≠ sl * 262144 + way w → mapGet? r.1.tbl.l2 j = mapGet? d.tbl.l2 j
      ((∀ w x, w < 4 → held w = some x → x.key ≠ key) →
        update = (d, csNotFound, 0) ∧ delete = (d, csNotFound, 0) ∧ d.tblSearch 1 sl idx key = .error csNotFound
        ∧ ((∀ w, w < 4 → held w ≠ none) → insert = (d, csFull, 0))
        ∧ ((∃ w, w < 4 ∧ held w = none) → ∃ w, w < 4 ∧ held w = none ∧ stands insert w (some e)
            ∧ insert.1.rd Obj.tblCounters sl 639 576 = (d.rd Obj.tblCounters sl 639 576 + 1) % 2 ^ 64))
      ∧ (∀ w x, w < 4 → held w = some x → x.key = key → (∀ w' y, w' < w → held w' = some y → y.key ≠ key) →
        insert = (d, csExists, way w) ∧ stands update w (some e) ∧ stands delete w none
        ∧ delete.1.rd Obj.tblCounters sl 639 576 = (d.rd Obj.tblCounters sl 639 576 + (2 ^ 64 - 1)) % 2 ^ 64
        ∧ d.tblSearch 1 sl idx key = .ok (way w)
        ∧ d.imageAt 1 sl (way w) = some (natBe 8 key ++ natBe 8 x.data ++ List.replicate 32 0
            ++ natBe 16 (at_ 127 96 (way w) + at_ 95 95 1 + at_ 93 93 (b2n x.hit) + at_ 92 92 (b2n x.learned) + at_ 91 90 x.strikes
              + at_ 89 88 sl + x.changed)))
      ∧ ∀ f ∈ [(fun (d : Device) (k : Nat) => d.tblInsert c 1 k idx key data), (fun d k => d.tblUpdate c 1 k idx key data),
          (fun d k => d.tblDelete 1 k idx key)],
        let r0 := f d 0
        let r1 := f r0.1 1
        let r2 := f r1.1 2
        let r3 := f r2.1 3
        f d 0xFF = (r3.1, (([r0, r1, r2, r3].map fun r => r.2.1).find? (· != csOk)).getD csOk, r0.2.2))
  ∧ (
    ∀ (d : Device) (c : Clk) (v6 : Bool) (key data scope idx : Nat),
      let table := if v6 = true then 3 else 2
      let len := fld key 15 8
      let vrf := if v6 = true then fld key 95 80 else fld key 63 48
      let bits := if v6 = true then 64 else 32
      let pfx := (if v6 = true then fld key 79 16 else fld key 47 16) / 2 ^ (bits - len) * 2 ^ (bits - len)
      let ours (e : LpmEntry) : Prop := e.v6 = v6 ∧ e.vrf = vrf ∧ e.pfx = pfx ∧ e.len = len
      let units := if v6 = true then 2 else 1
      let insert := d.tblInsert c table scope idx key data
      let update := d.tblUpdate c table scope idx key data
      let delete := d.tblDelete table scope idx key
      let stands (r : Sys2Proof.Machine.Outcome) (u : Nat) (x : Option LpmEntry) : Prop :=
        r.2 = (csOk, u) ∧ mapGet? r.1.tbl.lpm u = x ∧ ∀ j, j ≠ u → mapGet? r.1.tbl.lpm j = mapGet? d.tbl.lpm j
      len ≤ bits →
      ((∀ kv ∈ d.tbl.lpm, ¬ ours kv.2) →
        update = (d, csNotFound, 0) ∧ delete = (d, csNotFound, 0) ∧ d.tblSearch table scope idx key = .error csNotFound
        ∧ (2097152 < d.lpmInUse + units → insert = (d, csFull, 0))
        ∧ (d.lpmInUse + units ≤ 2097152 → (∃ u, u < 2097152 ∧ d.lpmUsed u = false) →
          ∃ u e, u < 2097152 ∧ d.lpmUsed u = false ∧ stands insert u (some e) ∧ ours e ∧ e.data = cleanEntry table data
            ∧ e.changed = c.time80 ∧ (v6 = false → e.second = none)
            ∧ (∀ x, e.second = some x → x < 2097152 ∧ x ≠ u ∧ d.lpmUsed x = false)
            ∧ (v6 = true → (∃ x, x < 2097152 ∧ x ≠ u ∧ d.lpmUsed x = false) → e.second ≠ none)
            ∧ insert.1.rd Obj.tblShared 0 255 192 = (d.rd Obj.tblShared 0 255 192 + units) % 2 ^ 64))
      ∧ ∀ u x, d.tbl.lpm.find? (fun kv => kv.2.v6 == v6 && kv.2.vrf == vrf && kv.2.pfx == pfx && kv.2.len == len) = some (u, x) →
        insert = (d, csExists, u) ∧ stands update u (some { x with data := cleanEntry table data, changed := c.time80 })
        ∧ stands delete u none ∧ delete.1.rd Obj.tblShared 0 255 192 = (d.rd Obj.tblShared 0 255 192 + (2 ^ 64 - units)) % 2 ^ 64
        ∧ d.tblSearch table scope idx key = .ok u
        ∧ (mapGet? d.tbl.lpm u = some x → d.imageAt table scope u
            = some ((if v6 = true then natBe 12 (at_ 95 80 vrf + at_ 79 16 pfx + at_ 15 8 len) ++ natBe 8 x.data ++ List.replicate 28 0
                else natBe 8 (at_ 63 48 vrf + at_ 47 16 pfx + at_ 15 8 len) ++ natBe 8 x.data ++ List.replicate 32 0)
              ++ natBe 16 (at_ 127 96 u + at_ 95 95 1 + at_ 87 80 units + x.changed))))
  ∧ (
    (∀ (d : Device) (v : Nat), 1 ≤ dCount v →
      let t := dTable v
      let sl := dScope v
      let cursor := dInline v / 2 ^ 208
      let size := nextSize t
      let gen := if t = 1 then d.get Obj.l2Generation sl else 0
      let valid := cursor = 0 ∨ fld cursor 47 40 = gen ∧ fld cursor 39 0 ≠ 0 ∧ fld cursor 39 0 ≤ size
      let start := if cursor = 0 then 0 else fld cursor 39 0 - 1
      let held := d.nextHeld t sl start
      (¬ valid → d.nextCmd v = (d, csCursor, 0))
      ∧ (valid → held.Pairwise (· < ·) →
        ∃ (ps : List Nat) (next : Nat), next ≤ min (start + 65536) size ∧ ps.length ≤ dCount v
          ∧ (next < min (start + 65536) size → ps.length = dCount v) ∧ ps.Pairwise (· < ·) ∧ (∀ p, p ∈ ps ↔ p ∈ held ∧ p < next)
          ∧ ((t = 9 ∧ ∃ i, start ≤ i ∧ i < next ∧ d.slotBad i = true) → d.nextCmd v = (d, csFenced, 0))
          ∧ ((t ≠ 9 ∨ ∀ i, start ≤ i → i < next → d.slotBad i = false) →
            d.nextCmd v = (d.regionWrite (dResultRegion v) (dResultOffset v) ((ps.map (d.nextImage t sl)).flatten), csOk,
              ps.length * 2 ^ 48 + if size ≤ next then 0 else at_ 47 40 gen + (next + 1)))))
    ∧ ∀ (d : Device) (t sl start p : Nat), 1 ≤ t → t ≤ 9 → p < tableSize t → (d.tbl.lpm.map Prod.fst).Nodup →
      (p ∈ d.nextHeld t sl start ↔ start ≤ p ∧ (d.imageAt t sl p).isSome = true) ∧ d.nextImage t sl p = (d.imageAt t sl p).getD [])
  ∧ (
    (∀ (d : Device) (scope port : Nat) (statics : Bool), (scope < 4 ∨ scope = 0xFF) → (d.tbl.l2.map Prod.fst).Nodup →
      let r := d.flushPort scope port statics
      let covers (sl : Nat) : Bool := scope == sl || scope == 0xFF
      let goes (sl : Nat) (e : L2Entry) : Bool := covers sl && fld e.data 47 40 == port && (statics || !bit e.data 55)
      (∀ sl i, sl < 4 → i < 262144 →
        mapGet? r.1.tbl.l2 (sl * 262144 + i) = (mapGet? d.tbl.l2 (sl * 262144 + i)).filter fun e => !goes sl e)
      ∧ r.2 = (d.tbl.l2.filter fun kv => decide (kv.1 / 262144 < 4) && goes (kv.1 / 262144) kv.2).length
      ∧ ∀ sl, sl < 4 → r.1.get Obj.l2Generation sl
          = if covers sl = true then (d.get Obj.l2Generation sl + 1) % 256 else d.get Obj.l2Generation sl)
    ∧ ∀ (d : Device) (n k : Nat) (clear : Bool), n + k ≤ 67108864 →
      let r := d.flexRead n clear k
      r.1 = ((List.range k).map fun i => natBe 8 (d.flexValue (n + i)).1 ++ natBe 8 (d.flexValue (n + i)).2).flatten
      ∧ (clear = false → r.2 = d)
      ∧ (clear = true → ∀ m, m < 67108864 → r.2.flexValue m = if n ≤ m ∧ m < n + k then (0, 0) else d.flexValue m))

/-- Flow table (R128 to R130, R132, R267): a flow that neither candidate slot holds, inserted while one of them is free, takes a free one
and moves no other; where neither is free but a path of at most 16 moves leads to a free slot, each flow on the path stands afterwards in
its other candidate, the next slot, and the new one where the path begins. One already held ends with EXISTS, one with neither free slot
nor path with FULL, counted, and one with an unreadable slot with FENCED, the table as it was. UPDATE and DELETE write and free the slot
that holds the flow, in all four caches too, and SEARCH finds it; they end with FENCED where a slot they address cannot be read, and
NOT_FOUND where none holds it; no other slot moves. Which slots these address, and that a poisoned slot holds no flow, is written as a
free one is, and is rewritten by an UPDATE of the flow it held, is the model's reading (log 26). -/
def Obligations.FlowInsert : Prop :=
  ∀ (d : Device) (c : Clk) (scope idx key data : Nat),
    let a := (flowSlots key).1
    let b := (flowSlots key).2
    let e : Entry := { key := key, data := cleanEntry 9 data, changed := c.time80 }
    let r := d.tblInsert c 9 scope idx key data
    let update := d.tblUpdate c 9 scope idx key data
    let delete := d.tblDelete 9 scope idx key
    let search := d.tblSearch 9 scope idx key
    let holds (i : Nat) : Bool := d.slotHas i key && !d.poisoned (flowBlock i)
    let taken (i : Nat) : Nat := if (mapGet? d.tbl.flow i).isSome = true then 0 else 1
    let entries (d : Device) : Nat := d.rd Obj.tblShared 0 191 128
    let finds (ok : Nat → Bool) (done fails : Nat → Prop) : Prop :=
      (ok a = false → fails csFenced) ∧ (ok a = true → d.slotHas a key = true → done a)
      ∧ (ok a = true → d.slotHas a key = false →
        (ok b = false → fails csFenced) ∧ (ok b = true → d.slotHas b key = true → done b)
        ∧ (ok b = true → d.slotHas b key = false → fails csNotFound))
    let stands (r : Sys2Proof.Machine.Outcome) (i : Nat) (x : Option Entry) : Prop :=
      r.2 = (csOk, i) ∧ mapGet? r.1.tbl.flow i = x ∧ r.1.poisoned (flowBlock i) = false
        ∧ ∀ y, y ≠ i → mapGet? r.1.tbl.flow y = mapGet? d.tbl.flow y
    let reads (i : Nat) : Bool := !d.slotBad i
    (d.slotFenced a = true ∨ d.slotFenced b = true → r = (d, csFenced, 0))
    ∧ (d.slotFenced a = false → d.slotFenced b = false →
      (holds a = true → r = (d, csExists, a))
      ∧ (holds a = false → holds b = true → r = (d, csExists, b))
      ∧ (holds a = false → holds b = false → (d.slotFree a = true ∨ d.slotFree b = true) →
        ∃ i j, (i = a ∧ j = b ∨ i = b ∧ j = a) ∧ d.slotFree i = true ∧ r.2 = (csOk, i) ∧ mapGet? r.1.tbl.flow i = some e
          ∧ r.1.poisoned (flowBlock i) = false
          ∧ (∀ y, y ≠ i → mapGet? r.1.tbl.flow y = if y = j ∧ d.slotHas j key = true then none else mapGet? d.tbl.flow y)
          ∧ (d.slotHas j key = false → entries r.1 = (entries d + taken i) % 2 ^ 64)
          ∧ (d.slotHas j key = true → entries r.1 = (entries d + taken i + (2 ^ 64 - 1)) % 2 ^ 64))
      ∧ (holds a = false → holds b = false → d.slotFree a = false → d.slotFree b = false →
        (d.flowPath 16 a ≠ none ∨ d.flowPath 16 b ≠ none) →
        ∃ (i : Nat) (rest : List Nat), (i = a ∨ i = b) ∧ d.flowPath 16 i = some (i :: rest) ∧ 1 ≤ rest.length ∧ rest.length ≤ 16
          ∧ r.2 = (csOk, i) ∧ mapGet? r.1.tbl.flow i = some e
          ∧ (∀ (j x y : Nat), (i :: rest)[j]? = some x → rest[j]? = some y → ∃ e, mapGet? d.tbl.flow x = some e ∧ y = otherSlot e x
              ∧ mapGet? r.1.tbl.flow y = some { e with changed := c.time80 })
          ∧ (∀ y, y ∉ i :: rest → mapGet? r.1.tbl.flow y = mapGet? d.tbl.flow y)
          ∧ r.1.rd Obj.tblShared 0 127 64 = (d.rd Obj.tblShared 0 127 64 + rest.length) % 2 ^ 64
          ∧ ∀ l, rest.getLast? = some l → d.slotFree l = true ∧ entries r.1 = (entries d + taken l) % 2 ^ 64)
      ∧ (holds a = false → holds b = false → d.flowPath 16 a = none → d.flowPath 16 b = none →
        r.2 = (csFull, 0) ∧ r.1.tbl = d.tbl ∧ r.1.rd Obj.tblShared 0 63 0 = (d.rd Obj.tblShared 0 63 0 + 1) % 2 ^ 64))
    ∧ finds (fun i => reads i || !d.slotFenced i && d.slotHas i key)
        (fun i => stands update i (some e) ∧ entries update.1 = entries d
          ∧ ∀ s, s < 4 → mapGet update.1.tbl.flowCache (cacheKey s key) []
              = (mapGet d.tbl.flowCache (cacheKey s key) []).map fun w => if w.1 = key then (key, e) else w)
        (fun st => update = (d, st, 0))
    ∧ finds reads
        (fun i => stands delete i none ∧ entries delete.1 = (entries d + (2 ^ 64 - 1)) % 2 ^ 64
          ∧ ∀ s, s < 4 → mapGet delete.1.tbl.flowCache (cacheKey s key) []
              = (mapGet d.tbl.flowCache (cacheKey s key) []).filter fun w => w.1 != key)
        (fun st => delete = (d, st, 0))
    ∧ finds reads
        (fun i => search = .ok i ∧ ∀ x, mapGet? d.tbl.flow i = some x → d.imageAt 9 scope i
          = some (natBe 40 x.key ++ natBe 8 x.data ++ natBe 16 (at_ 127 96 i + at_ 95 95 1 + x.changed)))
        (fun st => search = .error st)

/-- TCAM rows (R148, R149, R150): a key component is stored under its mask while the row is not valid; INSERT makes a row with a complete
key valid with its priority and data; DELETE makes it invalid and keeps its key; every other row of the TCAM is left by each command. In a
group with a fenced bank each ends with FENCED and changes nothing (R156). The TCAM scrub (R152, R153): a row whose check fails in an
ACTIVE bank is cleared in every component of its group and counted in RowsInvalidated, every other row of the TCAM left; a single wrong
data bit and a clean row change nothing; a group with a fenced bank is not visited. -/
def Obligations.TcamRows : Prop :=
  (
    ∀ (d : Device) (c : Clk) (slice row comp control key : Nat), slice < 4 → row < 24576 → row / 2048 + comp < 12 →
      let f := row / 2048
      let r := row % 2048
      let old := d.tcamRow slice f r
      let keeps (d' : Device) (b : Nat) : Prop :=
        ∀ sl bank r', sl < 4 → bank < 12 → r' < 2048 → (sl, bank, r') ≠ (slice, f, r) → (sl, bank, r') ≠ (slice, b, r) →
          d'.tcamRow sl bank r' = d.tcamRow sl bank r'
      (d.groupFenced slice f = true →
        d.tcKey c slice row comp key = (d, csFenced, 0) ∧ d.tcInsert c slice row control = (d, csFenced, 0)
        ∧ d.tcUpdate c slice row control = (d, csFenced, 0) ∧ d.tcDelete c slice row = (d, csFenced, 0))
      ∧ (d.groupFenced slice f = false → old.valid = false →
        (d.tcKey c slice row comp key).2 = (csOk, row)
        ∧ (∀ y, y = (d.tcKey c slice row comp key).1.tcamRow slice (f + comp) r →
            y.value = fld key 319 160 &&& fld key 159 0 ∧ y.mask = fld key 159 0 ∧ y.written = true)
        ∧ keeps (d.tcKey c slice row comp key).1 (f + comp)
        ∧ (d.keyComplete slice f r = true →
            (d.tcInsert c slice row control).2 = (csOk, row)
            ∧ (d.tcInsert c slice row control).1.tcamRow slice f r
                = { old with valid := true, priority := fld control 127 112, data := fld control 63 0, changed := c.time80 }
            ∧ keeps (d.tcInsert c slice row control).1 f)
        ∧ (d.keyComplete slice f r = false → d.tcInsert c slice row control = (d, csBusy, 0))
        ∧ d.tcDelete c slice row = (d, csNotFound, 0) ∧ d.tcUpdate c slice row control = (d, csNotFound, 0))
      ∧ (d.groupFenced slice f = false → old.valid = true →
        d.tcKey c slice row comp key = (d, csBusy, 0) ∧ d.tcInsert c slice row control = (d, csExists, row)
        ∧ (d.tcUpdate c slice row control).2 = (csOk, row)
        ∧ (d.tcUpdate c slice row control).1.tcamRow slice f r
            = { old with priority := fld control 127 112, data := fld control 63 0, changed := c.time80 }
        ∧ keeps (d.tcUpdate c slice row control).1 f
        ∧ (d.tcDelete c slice row).2 = (csOk, row)
        ∧ (d.tcDelete c slice row).1.tcamRow slice f r = { old with valid := false, changed := c.time80 }
        ∧ keeps (d.tcDelete c slice row).1 f))
  ∧ (
    ∀ (s : State) (sl row k : Nat) (finding : RowFinding), sl < 4 → row < 24576 → k < 4 →
      let f := row / 2048
      let w := s.dev.bankWidth sl f
      (s.dev.groupFenced sl f = true → exec (.tcamScrubVisit sl row k finding) s = .next s)
      ∧ (s.dev.bankTable sl f ≠ none → f % w = 0 → k < w → s.dev.groupFenced sl f = false → f + w ≤ 12 →
        exec (.tcamScrubVisit sl row k .clean) s = .next s ∧ exec (.tcamScrubVisit sl row k .dataSingle) s = .next s
        ∧ (finding = .parity ∨ finding = .dataDouble → ∃ t, exec (.tcamScrubVisit sl row k finding) s = .next t
          ∧ (∀ b, f ≤ b → b < f + w → t.dev.tcamRow sl b (row % 2048) = TcamRow.empty)
          ∧ (∀ sl' b r, sl' < 4 → b < 12 → r < 2048 → (sl' ≠ sl ∨ b < f ∨ f + w ≤ b ∨ r ≠ row % 2048) →
              t.dev.tcamRow sl' b r = s.dev.tcamRow sl' b r)
          ∧ t.dev.rd Obj.tcamCounters sl 191 128 = (s.dev.rd Obj.tcamCounters sl 191 128 + 1) % 2 ^ 64)))

/-- Completions (R57, R58, R60): a finished descriptor leaves its queue, and its completion stands in its ring at the producer's place with
the PHASE of that pass, the producer advancing by 1; where the ring is full or its holding buffer is not empty it is held behind the others,
and CQ.Stall is set; the held ones move into a ring with room, in their order and as many as it takes. A ring that was reconfigured while
completions were held takes none (the model's choice, log 73). -/
def Obligations.Completions : Prop :=
  (∀ (s : State) (q n st res : Nat) (x : Fetched), q < 32 → n < 2 ^ 32 → s.dev.pilotRuns = true → s.dev.Sole q n x →
    x.stage = .finished st res →
    let r := s.dev.wqRing q
    let v := s.dev.completion q x st res
    let p := s.dev.get Obj.cqProducer r
    let m := s.dev.cqEntries r
    (s.dev.viewHeld r = 0 → s.dev.cqUsed r < m →
      ∃ t, exec (.completionPost q n) s = .next t ∧ t.dev.wqFetched q = (s.dev.wqFetched q).erase x
        ∧ memRead t.dev.queueStore (s.dev.cqBase r + 16 * (p % m)) 16 = natBe 16 (v + at_ 99 99 (if p / m % 2 = 0 then 1 else 0))
        ∧ (∀ a, a < s.dev.cqBase r + 16 * (p % m) ∨ s.dev.cqBase r + 16 * (p % m) + 16 ≤ a →
            memByte t.dev.queueStore a = memByte s.dev.queueStore a)
        ∧ t.dev.get Obj.cqProducer r = (p + 1) % 2 ^ 32)
    ∧ (s.dev.viewHeld r ≠ 0 ∨ m ≤ s.dev.cqUsed r →
      ∃ t, exec (.completionPost q n) s = .next t ∧ t.dev.wqFetched q = (s.dev.wqFetched q).erase x
        ∧ t.dev.queueStore = s.dev.queueStore ∧ mapGet t.dev.wq.held r [] = mapGet s.dev.wq.held r [] ++ [v]
        ∧ t.dev.get Obj.cqProducer r = p ∧ t.dev.get Obj.cqStall r ≠ 0
        ∧ (s.dev.get Obj.cqStall r = 0 → t.dev.get Obj.cqStallCount r = (s.dev.get Obj.cqStallCount r + 1) % 2 ^ 64)))
  ∧ (∀ (s : State) (r : Nat), r < 16 → s.dev.pilotRuns = true → setHas s.dev.wq.stale r = false →
    (mapGet s.dev.wq.held r []).length ≤ 256 → s.dev.cqEntries r ≤ 65536 → s.dev.get Obj.cqProducer r < 2 ^ 32 →
    let vs := mapGet s.dev.wq.held r []
    let p := s.dev.get Obj.cqProducer r
    let m := s.dev.cqEntries r
    let k := min vs.length (m - s.dev.cqUsed r)
    ∃ t, exec (.heldCompletionMove r) s = .next t ∧ mapGet t.dev.wq.held r [] = vs.drop k
      ∧ t.dev.get Obj.cqProducer r = (p + k) % 2 ^ 32 ∧ t.dev.get Obj.cqStall r = s.dev.get Obj.cqStall r
      ∧ (∀ j v, j < k → vs[j]? = some v →
          let at' := (p + j) % 2 ^ 32
          memRead t.dev.queueStore (s.dev.cqBase r + 16 * (at' % m)) 16 = natBe 16 (v + at_ 99 99 (if at' / m % 2 = 0 then 1 else 0)))
      ∧ ∀ a, a < s.dev.cqBase r ∨ s.dev.cqBase r + 16 * m ≤ a → memByte t.dev.queueStore a = memByte s.dev.queueStore a)
  ∧ ∀ (s : State) (r : Nat), r < 16 → setHas s.dev.wq.stale r = true → exec (.heldCompletionMove r) s = .next s

/-- Learning and aging (R120 to R122): a learned address of no entry gets one with the port it came from where its set has room; an entry
that is not static takes the port its address came from, and one that agrees is marked hit, its change dated as the model reads it (log 26);
the sweeper clears a hit, counts a strike, and removes an entry at its second strike; it never touches a static one. Waiting events leave 64
at a time. -/
def Obligations.LearningAndAging : Prop :=
  (∀ (s : State) (sl i : Nat) (l : Learn) (rest : List Learn), sl < 4 → mapGet s.dev.sl.learn sl [] = l :: rest →
    s.dev.l2Find sl l.key = none → s.dev.l2Free sl l.key = some i →
    let e : L2Entry := { key := l.key, data := at_ 63 56 l.action + at_ 47 40 l.port, hit := true, strikes := 0, learned := true
                         changed := s.clk.time80 }
    ∃ t, exec (.learnWrite sl) s = .next t ∧ mapGet t.dev.sl.learn sl [] = rest ∧ mapGet? t.dev.tbl.l2 (sl * 262144 + i) = some e
      ∧ ∀ j, j ≠ sl * 262144 + i → mapGet? t.dev.tbl.l2 j = mapGet? s.dev.tbl.l2 j)
  ∧ (∀ (s : State) (sl i : Nat) (l : Learn) (rest : List Learn) (e : L2Entry), sl < 4 → mapGet s.dev.sl.learn sl [] = l :: rest →
    s.dev.l2Find sl l.key = some (i, e) →
    ∃ t, exec (.learnWrite sl) s = .next t ∧ mapGet t.dev.sl.learn sl [] = rest
      ∧ (l2Static e.data = true → t.dev.tbl = s.dev.tbl)
      ∧ (l2Static e.data = false → mapGet? t.dev.tbl.l2 (sl * 262144 + i) = some (if l2Port e.data = l.port then
            { e with hit := true, strikes := 0, changed := s.clk.time80 }
          else { e with data := putFld e.data 47 40 l.port, hit := true, strikes := 0, learned := true, changed := s.clk.time80 }))
      ∧ ∀ j, j ≠ sl * 262144 + i → mapGet? t.dev.tbl.l2 j = mapGet? s.dev.tbl.l2 j)
  ∧ (∀ (s : State) (sl i : Nat) (e : L2Entry), sl < 4 → i < 262144 → s.dev.forwarding = true → s.dev.get Obj.l2AgePeriod sl ≠ 0 →
    mapGet? s.dev.tbl.l2 (sl * 262144 + i) = some e →
    ∃ t, exec (.l2SweepVisit sl i) s = .next t
      ∧ mapGet? t.dev.tbl.l2 (sl * 262144 + i)
          = (if l2Static e.data then some e
             else if e.hit then some { e with hit := false, strikes := 0, changed := s.clk.time80 }
             else if e.strikes + 1 < 2 then some { e with strikes := e.strikes + 1, changed := s.clk.time80 } else none)
      ∧ ∀ j, j ≠ sl * 262144 + i → mapGet? t.dev.tbl.l2 j = mapGet? s.dev.tbl.l2 j)
  ∧ ∀ (s : State) (sl v : Nat) (rest : List Nat), sl < 4 → mapGet s.dev.sl.events sl [] = v :: rest →
    ∃ t, exec (.l2NotifyFlush sl) s = .next t ∧ mapGet t.dev.sl.events sl [] = (v :: rest).drop 64 ∧ t.dev.tbl = s.dev.tbl
      ∧ ChartSame [Obj.bdpCount] s.dev t.dev

/-! ### Ports and lasers (chapter 04) -/

/-- Link state (R73 to R75, R85, Table 4.4): a lane's lock shows in its RxState and in its port's FEC_LOCK and PCS_LOCK, and a link falls
with its lock; a port whose lanes are locked and lit, which receives no fault and which is enabled and not fenced comes up, and a loss takes
a link down, with Changes counted and LastChange dated; a fault shows as the one received until it ends, a fault bit falling as the other
fault arrives or the fault ends (the model's reading, log 22). Nothing but lane and port status, the event and frames to supervisors
changes. -/
def Obligations.LinkState : Prop :=
  (∀ (s : State) (lane rx : Nat), lane < 256 → rx < 3 → s.dev.opticsOn = true → s.dev.laneFenced lane = false →
    ∃ t, exec (.laneLockChange lane rx) s = .next t ∧ t.dev.rxState lane = rx
      ∧ (∀ l, l < 256 → l ≠ lane → t.dev.rxState l = s.dev.rxState l)
      ∧ (∀ p, s.dev.portOf lane = some p → bit (t.dev.get Obj.portStatus p) 123 = t.dev.groupLocked p
          ∧ bit (t.dev.get Obj.portStatus p) 124 = t.dev.groupLocked p
          ∧ t.dev.link p = (s.dev.link p && t.dev.groupLocked p))
      ∧ ChartSame [Obj.laneStatus, Obj.portStatus, Obj.portEvent, Obj.bdpCount] s.dev t.dev)
  ∧ (∀ (s : State) (p : Nat), p < 256 → s.dev.groupLocked p = true → s.dev.get Obj.portEnable p = 1 → s.dev.portFenced p = false →
    (∀ l ∈ s.dev.group p, s.dev.laneDark l = false) → s.dev.state ≠ St.safe → s.dev.pwr.hold = .none → s.dev.link p = false →
    bit (s.dev.get Obj.portStatus p) 124 = true → bit (s.dev.get Obj.portStatus p) 123 = true →
    bit (s.dev.get Obj.portStatus p) 126 = false → bit (s.dev.get Obj.portStatus p) 125 = false →
    ∃ t, exec (.linkUp p) s = .next t ∧ t.dev.link p = true
      ∧ t.dev.rd Obj.portStatus p 126 123 = s.dev.rd Obj.portStatus p 126 123
      ∧ t.dev.rd Obj.portStatus p 95 64 = (s.dev.rd Obj.portStatus p 95 64 + 1) % 2 ^ 32
      ∧ t.dev.rd Obj.portStatus p 63 32 = s.clk.sec % 2 ^ 32 ∧ t.dev.rd Obj.portStatus p 31 0 = s.clk.ns % 2 ^ 32
      ∧ ChartSame [Obj.portStatus, Obj.portEvent, Obj.bdpCount] s.dev t.dev)
  ∧ (∀ (s : State) (p : Nat) (why : LinkLoss), p < 256 → s.dev.link p = true → why ≠ .faultEnds →
    ∃ t, exec (.linkDown p why) s = .next t ∧ t.dev.link p = false
      ∧ bit (t.dev.get Obj.portStatus p) 126 = (why == .localFault) ∧ bit (t.dev.get Obj.portStatus p) 125 = (why == .remoteFault)
      ∧ (why = .pcsLock → bit (t.dev.get Obj.portStatus p) 123 = false)
      ∧ t.dev.rd Obj.portStatus p 95 64 = (s.dev.rd Obj.portStatus p 95 64 + 1) % 2 ^ 32
      ∧ t.dev.rd Obj.portStatus p 63 32 = s.clk.sec % 2 ^ 32 ∧ t.dev.rd Obj.portStatus p 31 0 = s.clk.ns % 2 ^ 32
      ∧ ChartSame [Obj.portStatus, Obj.portEvent, Obj.bdpCount] s.dev t.dev)
  ∧ ∀ (s : State) (p : Nat) (why : LinkLoss), p < 256 → s.dev.groupLocked p = true → bit (s.dev.get Obj.portStatus p) 123 = true →
    (s.dev.link p = false ∨ why = .faultEnds) →
    ∃ t, exec (.linkDown p why) s = .next t ∧ t.dev.link p = s.dev.link p
      ∧ bit (t.dev.get Obj.portStatus p) 126 = (why == .localFault) ∧ bit (t.dev.get Obj.portStatus p) 125 = (why == .remoteFault)
      ∧ ChartSame [Obj.portStatus] s.dev t.dev

/-- Reception (R76 to R78): a frame that passes the MAC's checks joins the receive FIFO with a time-stamp at most 2 ns late and is
counted; one that fails them only counts as its reason says; a PFC frame pauses the classes it names, a pause frame all of them, and a
pause that runs out ends. The order of the checks, and that a frame found bad in the MAC buffer is discarded without a count, are the
model's reading (log 23). Sending pause (R79): a class that has closed makes one XOFF for every class closed at that moment, repeated
while one stays closed, and a class that reopens after its XOFF is due to be resumed, and may be told closed anew; it is resumed with
pause time 0, in link pause once no class is closed; each frame sent is counted in TxPause, and by the model's choice in neither TxFrames
nor TxBytes (log 23). -/
def Obligations.ReceptionAndPause : Prop :=
  (
    (∀ (s : State) (p : Nat) (f : Bytes), p < 256 → s.dev.portUp p = true → 64 ≤ f.length + 4 →
      f.length + 4 ≤ s.dev.rd Obj.portConfig p 79 64 → beAt f 12 2 ≠ 0x8808 → s.dev.fifoFull p f = false →
      ∃ t k, exec (.macFrameReceive p f true false) s = .next t ∧ k < 3
        ∧ mapGet t.dev.ports.fifo p []
            = mapGet s.dev.ports.fifo p [] ++ [({ frame := f, stamp := (s.clk.nsTotal + k) % 2 ^ 32 } : RxFrame)]
        ∧ (∀ q, q ≠ p → mapGet t.dev.ports.fifo q [] = mapGet s.dev.ports.fifo q [])
        ∧ t.dev.chart = ((s.dev.portCount p 0 1).portCount p 1 (f.length + 4)).chart)
    ∧ (∀ (s : State) (p : Nat) (f : Bytes) (fcs : Bool), p < 256 → s.dev.portUp p = true →
      (fcs = false → exec (.macFrameReceive p f fcs false) s = .next { s with dev := s.dev.portCount p 4 1 })
      ∧ (fcs = true → f.length + 4 < 64 → exec (.macFrameReceive p f fcs false) s = .next { s with dev := s.dev.portCount p 5 1 })
      ∧ (fcs = true → 64 ≤ f.length + 4 → s.dev.rd Obj.portConfig p 79 64 < f.length + 4 →
          exec (.macFrameReceive p f fcs false) s = .next { s with dev := s.dev.portCount p 6 1 })
      ∧ (fcs = true → 64 ≤ f.length + 4 → f.length + 4 ≤ s.dev.rd Obj.portConfig p 79 64 → beAt f 12 2 ≠ 0x8808 →
          s.dev.fifoFull p f = true → exec (.macFrameReceive p f fcs false) s = .next { s with dev := s.dev.portCount p 7 1 })
      ∧ exec (.macFrameReceive p f fcs true) s = .next { s with dev := s.dev.raise 0x1C (0xA00 + p) 0 })
    ∧ (∀ (s : State) (p c : Nat) (f : Bytes), p < 256 → c < 8 → s.dev.portUp p = true → beAt f 12 2 = 0x8808 →
      ∃ t, exec (.pauseFrameReceive p f) s = .next t ∧ t.dev.chart = (s.dev.portCount p 8 1).chart
        ∧ (s.dev.rd Obj.portConfig p 111 104 = 2 → beAt f 14 2 = 0x0101 →
            mapGet t.dev.ports.paused (p * 8 + c) 0
              = if bit (beAt f 16 2) c then beAt f (18 + 2 * c) 2 else mapGet s.dev.ports.paused (p * 8 + c) 0)
        ∧ (s.dev.rd Obj.portConfig p 111 104 = 1 → beAt f 14 2 = 0x0001 → mapGet t.dev.ports.paused (p * 8 + c) 0 = beAt f 16 2)
        ∧ ∀ q, q / 8 ≠ p → mapGet t.dev.ports.paused q 0 = mapGet s.dev.ports.paused q 0)
    ∧ ∀ (s : State) (p c : Nat), p < 256 → c < 8 →
      ∃ t, exec (.pauseExpiry p c) s = .next t ∧ mapGet t.dev.ports.paused (p * 8 + c) 0 = 0
        ∧ (∀ q, q ≠ p * 8 + c → mapGet t.dev.ports.paused q 0 = mapGet s.dev.ports.paused q 0) ∧ t.dev.chart = s.dev.chart)
  ∧ (
    ∀ (s : State) (p c : Nat), p < 256 → c < 8 → s.dev.mayPause p = true →
      let quanta := s.dev.rd Obj.portConfig p 95 80
      let xoff : Bytes := if s.dev.rd Obj.portConfig p 111 104 = 1 then s.dev.pauseFrame (natBe 2 1 ++ natBe 2 quanta)
        else s.dev.pfcFrame (s.dev.closedClasses p) quanta
      let sent (f : Bytes) : List TxFrame := s.dev.ports.sent ++ [{ port := p, frame := f, fcsGood := true }]
      (c ∈ s.dev.closedClasses p → setHas s.dev.ports.xoff (p * 8 + c) = false →
        ∃ t, exec (.pfcXoffTransmit p) s = .next t ∧ t.dev.ports.sent = sent xoff
          ∧ (∀ c', c' ∈ s.dev.closedClasses p →
              setHas t.dev.ports.xoff (p * 8 + c') = true ∧ setHas t.dev.ports.reopened (p * 8 + c') = false)
          ∧ t.dev.chart = (s.dev.portCount p 9 1).chart)
      ∧ (c ∈ s.dev.closedClasses p → setHas s.dev.ports.xoff (p * 8 + c) = true →
        ∃ t, exec (.pauseRepeat p) s = .next t ∧ t.dev.ports.sent = sent xoff
          ∧ (∀ c', c' ∈ s.dev.closedClasses p →
              setHas t.dev.ports.xoff (p * 8 + c') = true ∧ setHas t.dev.ports.reopened (p * 8 + c') = false)
          ∧ t.dev.chart = (s.dev.portCount p 9 1).chart)
      ∧ (setHas s.dev.ports.reopened (p * 8 + c) = true → s.dev.pauses p c = false →
        ∃ t, exec (.pauseResumeTransmit p c) s = .next t ∧ t.dev.ports.xoff = s.dev.ports.xoff
          ∧ (s.dev.rd Obj.portConfig p 111 104 ≠ 1 → setHas t.dev.ports.reopened (p * 8 + c) = false
              ∧ t.dev.ports.sent = sent (s.dev.pfcFrame [c] 0) ∧ t.dev.chart = (s.dev.portCount p 9 1).chart)
          ∧ (s.dev.rd Obj.portConfig p 111 104 = 1 → s.dev.closedClasses p = [] →
              (∀ c', c' < 8 → setHas t.dev.ports.reopened (p * 8 + c') = false)
              ∧ t.dev.ports.sent = sent (s.dev.pauseFrame (natBe 2 1 ++ natBe 2 0)) ∧ t.dev.chart = (s.dev.portCount p 9 1).chart)
          ∧ (s.dev.rd Obj.portConfig p 111 104 = 1 → s.dev.closedClasses p ≠ [] → t = s))
      ∧ (setHas s.dev.ports.xoff (p * 8 + c) = true →
          setHas (s.dev.pairReopened (p * 8 + c)).ports.xoff (p * 8 + c) = false
            ∧ setHas (s.dev.pairReopened (p * 8 + c)).ports.reopened (p * 8 + c) = true))

/-- A laser swap (R82, R84, Table 4.10): at ratio 1.500 the unused spare enters SWAP_IN and the old source SWAP_OUT; the swap goes on
through settled and full share, where the lanes show the spare; complete, the old source is RETIRED for life, the spare ACTIVE, and
SparesLeft has fallen by one. A laser source that fails (R85, R86): it is FAILED for life; its group goes dark, the links on it fall, and
it moves to the unused spare, which lights it again at full power; with no spare left the group is dark for good and FEED_DARK is present.
That the spare shows SWAP_IN until then, and that SparesLeft falls as it reaches full power, is the model's choice (log 24). -/
def Obligations.LaserSources : Prop :=
  (
    (∀ (s : State) (oe i sp : Nat), oe < 8 → i < 10 →
      let e := oe * 10 + i
      let g := s.dev.laserGroup e
      s.dev.opticsOn = true → s.dev.laserState e = 0 → s.dev.sparesLeft oe ≠ 0 → mapGet? s.dev.ports.swap oe = none →
      s.dev.unusedSpare oe = some sp → s.dev.sourceOf oe g = some e →
      ∃ t, exec (.biasRatioReached oe i) s = .next t ∧ t.dev.laserState sp = 2 ∧ t.dev.laserGroup sp = g ∧ t.dev.laserState e = 3
        ∧ t.dev.biasRatio e = 1500 ∧ mapGet? t.dev.ports.swap oe = some { group := g, old := e, spare := sp, stage := .started })
    ∧ (∀ (s : State) (oe : Nat) (w : Swap), oe < 8 → w.group < 8 → mapGet? s.dev.ports.swap oe = some w →
      (w.stage = .started → exec (.laserSwapSettled oe) s = .next { s with dev := s.dev.setSwap oe (some { w with stage := .settled }) })
      ∧ (w.stage = .settled → ∃ t, exec (.laserSwapFullShare oe) s = .next t
          ∧ mapGet? t.dev.ports.swap oe = some { w with stage := .fullShare }
          ∧ (∀ k, k < 4 → t.dev.rd Obj.laneStatus (oe * 32 + w.group * 4 + k) 15 12 = w.spare % 10)
          ∧ ChartSame [Obj.laneStatus] s.dev t.dev)
      ∧ (w.stage = .fullShare → w.old < 80 → w.spare < 80 → w.old ≠ w.spare → mapGet s.dev.ports.swapWait oe [] = [] →
          ∃ t, exec (.laserSwapComplete oe) s = .next t ∧ t.dev.laserState w.old = 4 ∧ t.dev.laserState w.spare = 0
            ∧ t.dev.laserGroup w.spare = w.group ∧ t.dev.sparesLeft oe = s.dev.sparesLeft oe - 1
            ∧ mapGet? t.dev.ports.swap oe = none ∧ mapGet? t.dev.ports.fuses w.old = some (4, w.group)
            ∧ ChartSame [Obj.laserStatus, Obj.laserSparesLeft, Obj.portEvent, Obj.bdpCount] s.dev t.dev)))
  ∧ (
    (∀ (s : State) (oe i : Nat), oe < 8 → i < 10 →
      let e := oe * 10 + i
      let g := s.dev.laserGroup e
      s.dev.opticsOn = true → s.dev.laserState e = 0 →
      ∃ t, exec (.laserSourceFailed oe i) s = .next t ∧ t.dev.laserState e = 5 ∧ mapGet? t.dev.ports.fuses e = some (5, g)
        ∧ (∀ p ∈ s.dev.feedPorts (oe * 8 + g), t.dev.link p = false)
        ∧ (∀ sp, s.dev.unusedSpare oe = some sp → t.dev.laserState sp = 2
            ∧ mapGet? t.dev.ports.swap (16 + sp) = some { group := g, old := e, spare := sp, stage := .failed }
            ∧ setHas t.dev.ports.feedDark (oe * 8 + g) = true)
        ∧ (s.dev.unusedSpare oe = none → setHas t.dev.ports.feedDead (oe * 8 + g) = true
            ∧ t.dev.condition 0x1B (feedTarget oe g) = true))
    ∧ (∀ (s : State) (oe i k : Nat) (w : Swap), oe < 8 → i < 10 → w.group < 8 → s.dev.swapInOf (oe * 10 + i) = some (k, w) →
      w.stage = .failed → mapGet s.dev.ports.swapWait oe [] = [] →
      ∃ t, exec (.spareFullPower oe i) s = .next t ∧ t.dev.laserState (oe * 10 + i) = 0
        ∧ t.dev.sparesLeft oe = s.dev.sparesLeft oe - 1 ∧ setHas t.dev.ports.feedDark (oe * 8 + w.group) = false
        ∧ mapGet? t.dev.ports.swap k = none)
    ∧ ∀ (s : State) (oe i : Nat) (held : Bool), oe < 8 → i < 10 →
      let e := oe * 10 + i
      s.dev.opticsOn = true → s.dev.laserState e = 0 → s.dev.sparesLeft oe = 0 →
      ∃ t, exec (.biasRatioLimit oe i held) s = .next t ∧ t.dev.biasRatio e = (if held then 1800 else s.dev.biasRatio e)
        ∧ setHas t.dev.ports.feedDead (oe * 8 + s.dev.laserGroup e) = true
        ∧ (held = true → t.dev.condition 0x1A (feedTarget oe (s.dev.laserGroup e)) = true)
        ∧ t.dev.condition 0x1B (feedTarget oe (s.dev.laserGroup e)) = true)

/-! ### Slices and engines (chapters 05, 08, 09) -/

/-- A parser pass (R96, R105, R106, R112): the packet leaves the FIFO it waited in; a first pass takes the next sequence number of the
bucket its steering hash names and enters that bucket's cluster, and an extra pass keeps its bucket and number. A recirculated packet whose
bandwidth is free goes ahead of the others (R113), the bandwidth being 160 bytes a tick (the model's reading, log 43). -/
def Obligations.ParsePass : Prop :=
  (∀ (s : State) (sl port : Nat) (bad : NMap WinnerCheck) (x : RxFrame) (rest : List RxFrame), sl < 4 → port / 64 = sl →
    s.dev.forwarding = true → s.dev.recircReady s.clk sl = false → mapGet s.dev.ports.fifo port [] = x :: rest →
    let d0 := { s.dev with ports := { s.dev.ports with fifo := mapSet s.dev.ports.fifo port rest [] } }
    (tailCells x.frame = 0 ∨ d0.ingressUsed sl + tailCells x.frame ≤ 32768) →
    let p := d0.pass s.clk sl (at_ 487 480 port + at_ 447 416 s.clk.short) x.frame false false bad
    let b := p.steer % 4096
    let d1 := p.looked.dev
    let seq := mapGet d1.sl.seqNext (sl * 4096 + b) 0
    ∃ t f, exec (.parsePass sl (.receive port) bad) s = .next t ∧ mapGet t.dev.ports.fifo port [] = rest
      ∧ f ∈ t.dev.sl.flights ∧ f.id = d1.sl.nextId ∧ f.slice = sl ∧ f.bucket = b ∧ f.seq = seq ∧ f.cluster = d1.bucketCluster sl b
      ∧ mapGet t.dev.sl.seqNext (sl * 4096 + b) 0 = (seq + 1) % 65536
      ∧ f.bytes = (if s.dev.get Obj.timeRxStamp port = 1 then stampFrame x.frame p.out.slots x.stamp else x.frame))
  ∧ (∀ (s : State) (sl : Nat) (bad : NMap WinnerCheck) (x : Inject) (rest : List Inject), sl < 4 → x.port / 64 = sl →
    s.dev.forwarding = true → s.dev.recircReady s.clk sl = false → s.dev.mgmt.pipeline = x :: rest →
    let d0 := { s.dev with mgmt := { s.dev.mgmt with pipeline := rest } }
    (tailCells x.packet = 0 ∨ d0.ingressUsed sl + tailCells x.packet ≤ 32768) →
    ∃ t f, exec (.parsePass sl .inject bad) s = .next t ∧ t.dev.mgmt.pipeline = rest
      ∧ f ∈ t.dev.sl.flights ∧ f.slice = sl ∧ f.pool = some x.pool)
  ∧ ∀ (s : State) (sl : Nat) (bad : NMap WinnerCheck) (f : Flight), sl < 4 → s.dev.forwarding = true → s.dev.recircHead sl = some f →
    mapGet s.dev.sl.recircFree sl 0 ≤ s.clk.ticks * 160 →
    (∃ t g, exec (.parsePass sl .recirculation bad) s = .next t ∧ g ∈ t.dev.sl.flights ∧ g.id = f.id ∧ g.bucket = f.bucket
      ∧ g.seq = f.seq ∧ g.place ≠ .recirc ∧ g.bytes = f.bytes)
    ∧ (∀ port, exec (.parsePass sl (.receive port) bad) s = .next s) ∧ exec (.parsePass sl .inject bad) s = .next s

/-- Remaps (R107, R108, Table 5.11): a write of STEER.Indirection to a cluster of the slice that is not fenced names the new cluster and
raises the bucket's barrier; one outside the slice is refused with TYPE, one to a fenced cluster or under a raised barrier with BUSY. The
barrier is lowered when nothing is waited for any more, or after its time, which is counted and reported. -/
def Obligations.RemapBarriers : Prop :=
  (∀ (d : Device) (e cl : Nat), e < 16384 → cl < 64 → d.bucketCluster (e / 4096) (e % 4096) < 64 →
    (cl / 16 ≠ e / 4096 → d.writeIndirection e cl = .error stType)
    ∧ (cl / 16 = e / 4096 → (d.clusterFenced cl = true ∨ d.get Obj.steerBarrierPending e = 1) → d.writeIndirection e cl = .error stBusy)
    ∧ (cl / 16 = e / 4096 → d.clusterFenced cl = false → d.get Obj.steerBarrierPending e ≠ 1 →
        d.bucketCluster (e / 4096) (e % 4096) ≠ cl →
        ∃ d', d.writeIndirection e cl = .ok d' ∧ d'.get Obj.steerIndirection e = cl ∧ d'.get Obj.steerBarrierPending e = 1
          ∧ d'.barrier? (e / 4096) (e % 4096) = some
            { slice := e / 4096
              bucket := e % 4096
              old := d.bucketCluster (e / 4096) (e % 4096)
              cluster := cl
              waitFor := d.bucketFlights (e / 4096) (e % 4096) (some (d.bucketCluster (e / 4096) (e % 4096))) }))
  ∧ ∀ (s : State) (sl b : Nat) (x : Barrier), sl < 4 → b < 4096 → s.dev.barrier? sl b = some x →
    (s.dev.stillWaits x = [] →
      ∃ t, exec (.barrierRelease sl b) s = .next t ∧ t.dev.barrier? sl b = none
        ∧ t.dev.get Obj.steerBarrierPending (sl * 4096 + b) = 0 ∧ t.dev.sl.flights = s.dev.sl.flights
        ∧ ChartSame [Obj.steerBarrierPending, Obj.steerBarrierCount] s.dev t.dev)
    ∧ (s.dev.stillWaits x ≠ [] → s.dev.state ≠ St.reset →
      ∃ t, exec (.barrierTimeout sl b) s = .next t ∧ t.dev.barrier? sl b = none
        ∧ t.dev.get Obj.steerBarrierPending (sl * 4096 + b) = 0 ∧ t.dev.Reported 0x05 (clusterTarget x.old)
        ∧ t.dev.rd Obj.parseCounters sl 127 64 = (s.dev.rd Obj.parseCounters sl 127 64 + 1) % 2 ^ 64)

/-- A packet is placed in a FREE context (R160, R161, R163): the context starts at the dispatch entry of the packet's class with empty
registers, no verdict, and the first 256 bytes of the packet as its window. An invalid entry discards the packet instead, and the trap is
logged, counted and reported (R182, R183). Which free context of the engine takes the packet is free (log 8); the order of dispatch is the
model's reading (log 43). -/
def Obligations.ContextDispatch : Prop :=
  ∀ (s : State) (cl : Nat) (f : Flight) (found : List BlockFound), cl < 64 → (∀ b ∈ found, b.wf = true) → s.dev.enginesRun = true →
    s.dev.clusterFenced cl = false → s.dev.clusterPower cl = 0 → s.dev.firstArrived cl = some f →
    let entry := s.dev.get Obj.clDispatch (cl * 256 + fld f.record 511 504)
    (∀ e, bit entry 15 = true → s.dev.chooseEngine cl = some e →
      ∃ t k x, exec (.contextDispatch cl found) s = .next t ∧ k ∈ s.dev.freeContexts e ∧ t.dev.ctx? k = some x ∧ x.flight = f.id
        ∧ x.pc = entry % 4096 ∧ x.regs = [] ∧ x.flags = 0 ∧ x.verdict = none ∧ x.window = f.bytes.take (min f.bytes.length 256)
        ∧ x.tail = f.bytes.drop (min f.bytes.length 256)
        ∧ ∀ j, j ≠ k → t.dev.ctx? j = s.dev.ctx? j)
    ∧ (bit entry 15 = false →
      let n := s.dev.get Obj.clTrapCount cl
      let e := cl * 16 + n % 16
      ∃ t g, exec (.contextDispatch cl found) s = .next t ∧ g ∈ t.dev.sl.flights ∧ g.id = f.id ∧ g.lost = true
        ∧ t.dev.eng.ctx = s.dev.eng.ctx
        ∧ t.dev.rd Obj.clTrapLog e 255 248 = 0x0E ∧ t.dev.rd Obj.clTrapLog e 247 228 = 0
        ∧ t.dev.rd Obj.clTrapLog e 223 216 = fld f.record 511 504 ∧ t.dev.rd Obj.clTrapLog e 199 184 = fld f.record 463 448
        ∧ t.dev.get Obj.clTrapCount cl = (n + 1) % 2 ^ 32
        ∧ t.dev.rd Obj.clCounters cl (64 * (12 - ccTrapped) - 1) (64 * (11 - ccTrapped))
            = (s.dev.rd Obj.clCounters cl (64 * (12 - ccTrapped) - 1) (64 * (11 - ccTrapped)) + 1) % 2 ^ 64
        ∧ t.dev.Reported 0x01 (clusterTarget cl))

/-- A microword executes (R159, R193, R182): a word that neither waits nor traps leaves its context as the word's operations make it,
halted where it touched a watchpoint (R413), and enters the memory access, the COUNT or the POLICE it issued in its unit's queue (R170,
R208, R210); a flow lookup it issued meets its slice's flow cache at once, and on a miss the budget: a hit is the slot's answer, a miss
within the budget waits for HBM, and one beyond it is answered NOT_RESOLVED (R130, R131). A word that ends its pass frees its context, and
the packet goes with its record, its window and its mirror requests to the retire unit, or back to the recirculation FIFO (R112, R179). A
word that traps, or whose four copies all fail (R185), frees its context and discards its packet. -/
def Obligations.MicrowordExecutes : Prop :=
  ∀ (s : State) (e k bad : Nat) (x : Ctx), e < 1024 → bad < 5 → s.dev.enginesRun = true → s.dev.chooseCtx s.clk e = some (k, x) →
    s.dev.atBreakpoint k x = false → x.halted = false → x.stepping = false → x.debug = false →
    let env := s.dev.wordEnv s.clk k x
    let m := s.dev.nextWord k x
    let x0 := { x with barrier := false, waitMask := 0 }
    let asks (o : WordOut) : Option Lookup := if m.lop = 1 ∧ m.ltab = 9 then mapGet? o.ctx.lookups m.lslot.toNat else none
    (∀ o, bad ≠ 4 → startTrap env m = none → runWord env x0 m = .ok o →
      let left (ls : NMap Lookup) : Ctx :=
        { o.ctx with passed := false, stepping := false, halted := decide (0 < s.dev.watchHits k o.touched), lookups := ls }
      ∃ t, exec (.microwordExecute e bad) s = .next t
        ∧ t.dev.eng.accesses = s.dev.eng.accesses ++ (o.issue.map fun i =>
            (⟨s.dev.eng.next, k, o.ctx.order, o.ctx.flight, i.op, i.addr, i.data, i.new, i.reg, i.done⟩ : Access)).toList
        ∧ t.dev.eng.counts = s.dev.eng.counts ++ (o.count.map fun p => (⟨k, o.ctx.flight, p.1, p.2, k / 2048⟩ : CountOp)).toList
        ∧ t.dev.eng.polices = s.dev.eng.polices ++ (o.police.map fun p =>
            (⟨k, o.ctx.order, o.ctx.flight, k / 2048 * 32768 + p.1, p.2.1, p.2.2.1, p.2.2.2⟩ : Police)).toList
        ∧ (o.ended = false →
          ChartSame [Obj.clCounters, Obj.tblCounters, Obj.dbgStatus] s.dev t.dev
          ∧ (asks o = none → t.dev.ctx? k = some (left o.ctx.lookups) ∧ t.dev.sl = s.dev.sl ∧ t.dev.tbl = s.dev.tbl)
          ∧ ∀ l, asks o = some l →
            let r := s.dev.flowStart s.clk (k / 2048) l.key
            t.dev.ctx? k = some (left (mapPut o.ctx.lookups m.lslot.toNat
                { l with answer := r.1, stack := if r.1.isNone = true then r.2.sentTo l.key else 0 }))
              ∧ t.dev.sl = r.2.sl ∧ t.dev.tbl = r.2.tbl ∧ ∀ i, i < 4 → t.dev.get Obj.tblCounters i = r.2.get Obj.tblCounters i)
        ∧ (∀ f v, o.ended = true → o.ctx.verdict = some v → s.dev.flight? o.ctx.flight = some f →
          t.dev.ctx? k = none
          ∧ ∃ g ∈ t.dev.sl.flights, g.id = f.id ∧ g.record = o.ctx.record ∧ g.bytes = v.2.2 ∧ g.mirrors = o.ctx.mirrors
            ∧ (v.1 ≠ 3 → g.place = .ended ∧ g.verdict = some (v.1, v.2.1))
            ∧ (v.1 = 3 → g.place = .recirc ∧ g.verdict = none ∨ g.place = .ended ∧ g.lost = true))
        ∧ (∀ j, j ≠ k → t.dev.ctx? j = s.dev.ctx? j)
        ∧ t.dev.eng.scratch = s.dev.eng.scratch ∧ t.dev.eng.common = s.dev.eng.common
        ∧ t.dev.eng.copyBad = if bad = 0 then s.dev.eng.copyBad else setAdd s.dev.eng.copyBad (k / 128 * 4096 + x.pc))
    ∧ (∀ tr, (bad = 4 ∧ tr.1 = 0x0C ∨ bad ≠ 4 ∧ startTrap env m = some tr
          ∨ bad ≠ 4 ∧ startTrap env m = none ∧ runWord env x0 m = .error tr) →
      ∃ t, exec (.microwordExecute e bad) s = .next t ∧ t.dev.ctx? k = none ∧ t.dev.Reported 0x01 (engineTarget (k / 8))
        ∧ t.dev.get Obj.clTrapCount (k / 128) = (s.dev.get Obj.clTrapCount (k / 128) + 1) % 2 ^ 32
        ∧ t.dev.rd Obj.clTrapLog (k / 128 * 16 + s.dev.get Obj.clTrapCount (k / 128) % 16) 255 248 = tr.1 % 256
        ∧ (∀ f, s.dev.flight? x.flight = some f → ∃ g ∈ t.dev.sl.flights, g.id = f.id ∧ g.lost = true)
        ∧ (∀ j, j ≠ k → t.dev.ctx? j = s.dev.ctx? j)
        ∧ t.dev.eng.scratch = s.dev.eng.scratch ∧ t.dev.eng.common = s.dev.eng.common)

/-- The ALUs' arithmetic (R205, Table 9.7): ADD and SUB work modulo 2^64; C is the carry or the borrow, V the signed overflow, Z a zero
result and N its top bit; CMP sets the flags of SUB and TST those of AND, and neither writes a register. Memory accesses (R173, R167): an
access performed leaves in its word what its operation leaves and every other byte of the scratchpads and the common store as it was; its
data arrives in the register it names, which is then no longer awaited. Accesses that reach one word in one memory cycle (R174): they take
effect in increasing engine number, each store, FADD and CAS on what the earlier ones left, and every load returns the word as it was
before the cycle. Of the words of one common-store bank, that which the lowest engine number reaches is served (R347, as the model reads
the cycle, log 75). -/
def Obligations.EngineOperations : Prop :=
  (
    ∀ a b d : Word,
      (aluResult 3 a b d).toNat = (a.toNat + b.toNat) % 2 ^ 64
      ∧ bit (aluFlags 3 a b (aluResult 3 a b d)) 2 = decide (2 ^ 64 ≤ a.toNat + b.toNat)
      ∧ bit (aluFlags 3 a b (aluResult 3 a b d)) 3 = decide ((aluResult 3 a b d).toInt ≠ a.toInt + b.toInt)
      ∧ (aluResult 4 a b d).toNat = (a.toNat + 2 ^ 64 - b.toNat) % 2 ^ 64
      ∧ bit (aluFlags 4 a b (aluResult 4 a b d)) 2 = decide (a.toNat < b.toNat)
      ∧ bit (aluFlags 4 a b (aluResult 4 a b d)) 3 = decide ((aluResult 4 a b d).toInt ≠ a.toInt - b.toInt)
      ∧ (∀ op, bit (aluFlags op a b (aluResult op a b d)) 0 = (aluResult op a b d == 0)
          ∧ bit (aluFlags op a b (aluResult op a b d)) 1 = (aluResult op a b d).msb)
      ∧ aluFlags 0x0E a b (aluResult 0x0E a b d) = aluFlags 4 a b (aluResult 4 a b d)
      ∧ aluFlags 0x0F a b (aluResult 0x0F a b d) = aluFlags 5 a b (aluResult 5 a b d)
      ∧ aluWrites 0x0E = false ∧ aluWrites 0x0F = false)
  ∧ (
    (∀ (s : State) (as : List (Nat × Nat)) (a : Access) (ecc : Ecc), s.dev.state ≠ St.safe →
      s.dev.reaching as = [a] → ecc ≠ .double → a.addr < 0x2F00000 →
      ∃ t, exec (.memoryAccessPerform as ecc) s = .next t ∧ t.dev.word a.addr = a.leaves (s.dev.word a.addr) % 2 ^ 64
        ∧ (∀ b, (b < a.addr ∨ a.addr + 8 ≤ b ∨ 0x2000000 ≤ a.addr) → memByte t.dev.eng.scratch b = memByte s.dev.eng.scratch b)
        ∧ (∀ b, (b + 0x2000000 < a.addr ∨ a.addr + 8 ≤ b + 0x2000000 ∨ a.addr < 0x2000000) →
            memByte t.dev.eng.common b = memByte s.dev.eng.common b)
        ∧ (a.op = .store → a ∉ t.dev.eng.accesses)
        ∧ (a.op ≠ .store → { a with done := some (s.dev.word a.addr) } ∈ t.dev.eng.accesses)
        ∧ t.dev.chart = s.dev.chart)
    ∧ ∀ (s : State) (k id v : Nat) (a : Access) (x : Ctx), k < 8192 → s.dev.state ≠ St.safe →
      (s.dev.eng.accesses.find? fun a => a.id == id && a.context == k) = some a → a.done = some v → s.dev.ctx? k = some x →
      x.order = a.pass →
      ∃ t, exec (.loadResult k id) s = .next t
        ∧ t.dev.ctx? k = some { setReg x a.reg (BitVec.ofNat 64 v) with pending := setDel x.pending a.reg }
        ∧ (∀ b ∈ t.dev.eng.accesses, b.id ≠ id) ∧ t.dev.eng.scratch = s.dev.eng.scratch)
  ∧ (
    ∀ (v : Nat) (as : List Access),
      List.Pairwise (fun a b => a.context / 8 ≤ b.context / 8) (sortAccesses as) ∧ (sortAccesses as).Perm as
      ∧ (cycle v v (sortAccesses as)).2 = (sortAccesses as).foldl (fun w a => a.leaves w) v
      ∧ (∀ a ∈ as, a.op = .load → (a.id, v) ∈ (cycle v v (sortAccesses as)).1)
      ∧ ∀ (a : Access) (w : Nat), (a.op = .store → a.leaves w = a.data) ∧ (a.op = .fadd → a.leaves w = (w + a.data) % 2 ^ 64)
          ∧ (a.op = .cas → a.leaves w = if w = a.data then a.new else w)
          ∧ leadAccess a as ∈ a :: as ∧ (leadAccess a as = a ∨ sameBank a.addr (leadAccess a as).addr = true)
          ∧ (leadAccess a as).context / 8 ≤ a.context / 8
          ∧ ∀ b ∈ as, sameBank a.addr b.addr = true → (leadAccess a as).context / 8 ≤ b.context / 8)

/-- Results (R166, R170, R210, R287, R360): a lookup's result arrives whole in its slot; a policer's colour in its register and in the
packet's record, the operations of one clock being applied one at a time in increasing engine number; a performed COUNT adds 1 and its
bytes to its counter's pending packets and bytes. A flow lookup whose request a block reset lost gets no result (the model's choice, log
31); one whose pass has ended still comes back, the oldest first (R130; log 67). In SAFE none changes anything (the model's reading, log
20). -/
def Obligations.UnitResults : Prop :=
  (∀ (s : State) (k slot : Nat) (check : WinnerCheck) (found : List BlockFound) (x : Ctx) (l : Lookup), k < 8192 → slot < 8 →
    (∀ b ∈ found, b.wf = true) → s.dev.state ≠ St.safe → s.dev.ctx? k = some x → mapGet? x.lookups slot = some l →
    (l.lost ≠ none → exec (.lookupResultArrive k slot check found) s = .next s)
    ∧ (l.lost = none → ∃ t x', exec (.lookupResultArrive k slot check found) s = .next t ∧ t.dev.ctx? k = some x'
      ∧ mapGet? x'.lookups slot = none
      ∧ (∀ v, l.answer = some v → mapGet? x'.slots slot = some v)
      ∧ (l.answer = none → l.table ≠ 9 → mapGet? x'.slots slot
          = some (s.dev.lookup s.clk (k / 2048) l.table l.key (fld x.parser 167 136) check).1)
      ∧ (l.answer = none → l.table = 9 → mapGet? x'.slots slot
          = some ((s.dev.flowFound s.clk l.key l.stack found).flowDone (k / 2048) l.key).1)
      ∧ (∀ j, j ≠ slot → mapGet? x'.slots j = mapGet? x.slots j) ∧ (l.engine = true → x'.record = x.record) ∧ x'.regs = x.regs))
  ∧ (∀ (s : State) (k slot : Nat) (check : WinnerCheck) (found : List BlockFound) (o : Orphan), k < 8192 → slot < 8 →
    (∀ b ∈ found, b.wf = true) → s.dev.state ≠ St.safe → (∀ x, s.dev.ctx? k = some x → mapGet? x.lookups slot = none) →
    let os := mapGet s.dev.sl.orphans (k / 2048) []
    (os.find? fun o => o.lost.isNone) = some o →
    ∃ t, exec (.lookupResultArrive k slot check found) s = .next t ∧ mapGet t.dev.sl.orphans (k / 2048) [] = os.erase o
      ∧ t.dev.eng.ctx = s.dev.eng.ctx ∧ t.dev.sl.flights = s.dev.sl.flights)
  ∧ (∀ (s : State) (k : Nat) (p : Police) (x : Ctx), k < 8192 → s.dev.state ≠ St.safe →
    (s.dev.eng.polices.find? fun p => p.context == k) = some p →
    s.dev.ctx? k = some x → x.order = p.pass →
    let r := ({ s.dev with eng := { s.dev.eng with polices := s.dev.eng.polices.erase p } } : Device).police p.policer p.bytes p.colour
    ∃ t x', exec (.policeResult [k]) s = .next t ∧ t.dev.ctx? k = some x' ∧ reg x' p.reg = BitVec.ofNat 64 r.1
      ∧ fld x'.record 299 298 = r.1 % 4 ∧ setHas x'.pending p.reg = false ∧ t.dev.tm = r.2.tm)
  ∧ (∀ (s : State) (ks : List Nat), (∀ k ∈ ks, k < 8192) → s.dev.state ≠ St.safe →
    let apply (d : Device) (k : Nat) : Device :=
      match d.eng.polices.find? fun p => p.context == k with
      | none => d
      | some p =>
        let r := ({ d with eng := { d.eng with polices := d.eng.polices.erase p } } : Device).police p.policer p.bytes p.colour
        r.2.colourPacket p r.1
    ∃ order : List Nat, order.Perm ks.eraseDups ∧ order.Pairwise (fun a b => a / 8 ≤ b / 8)
      ∧ exec (.policeResult ks) s = .next { s with dev := order.foldl apply s.dev })
  ∧ (∀ (s : State) (k slot id : Nat) (check : WinnerCheck) (as : List (Nat × Nat)) (ecc : Ecc), k < 8192 → slot < 8 →
    s.dev.state = St.safe → exec (.lookupResultArrive k slot check []) s = .next s ∧ exec (.policeResult [k]) s = .next s
      ∧ exec (.countPerformed k []) s = .next s ∧ exec (.loadResult k id) s = .next s ∧ exec (.memoryAccessPerform as ecc) s = .next s)
  ∧ ∀ (s : State) (k : Nat) (p : CountOp) (found : List BlockFound), k < 8192 → (∀ b ∈ found, b.wf = true) → s.dev.state ≠ St.safe →
    (s.dev.eng.counts.find? fun p => p.context == k) = some p →
    let d : Device := { s.dev with eng := { s.dev.eng with counts := s.dev.eng.counts.erase p } }
    let i := flexKey p.slice p.counter
    let e := d.flexAdd s.clk p.slice p.counter p.bytes found
    exec (.countPerformed k found) s = .next { s with dev := e }
    ∧ (∀ n b, mapGet? s.dev.eng.flexPending i = some (n, b) →
        mapGet? e.eng.flexPending i = some ((n + 1) % 2 ^ 64, (b + p.bytes) % 2 ^ 64)
        ∧ ∀ j, j ≠ i → mapGet? e.eng.flexPending j = mapGet? s.dev.eng.flexPending j)
    ∧ (mapGet? s.dev.eng.flexPending i = none → mapGet? e.eng.flexPending i = some (1, p.bytes % 2 ^ 64))

/-- What keeps engines going (R184, R185, R188, Table 15.4): a failing control-store copy is rewritten and reported; a pass at its watchdog
limit traps; an idle cluster saves power, a woken one is ACTIVE, and one that hangs is reported. Details of these are the model's reading
(log 44). -/
def Obligations.EngineUpkeep : Prop :=
  (∀ (s : State) (cl a : Nat), cl < 64 → a < 4096 → setHas s.dev.eng.copyBad (cl * 4096 + a) = true → s.dev.state ≠ St.reset →
    ∃ t, exec (.cstoreCopyRewrite cl a) s = .next t ∧ setHas t.dev.eng.copyBad (cl * 4096 + a) = false
      ∧ t.dev.Reported 0x02 (clusterTarget cl) ∧ t.dev.eng.control = s.dev.eng.control)
  ∧ (∀ (s : State) (k : Nat) (x : Ctx), k < 8192 → s.dev.ctx? k = some x → s.dev.enginesRun = true → x.halted = false →
    x.verdict = none → x.debug = false →
    ∃ t, exec (.watchdogExpiry k) s = .next t ∧ t.dev.ctx? k = none ∧ t.dev.Reported 0x01 (engineTarget (k / 8))
      ∧ ∀ f, s.dev.flight? x.flight = some f → ∃ g ∈ t.dev.sl.flights, g.id = f.id ∧ g.lost = true)
  ∧ (∀ (s : State) (cl : Nat), cl < 64 → s.dev.clusterFenced cl = false →
    (s.dev.clusterPower cl = 0 → s.dev.get Obj.steerClusterBuckets cl = 0 → (∀ f ∈ s.dev.sl.flights, f.cluster ≠ cl) →
      (∀ kv ∈ s.dev.eng.ctx, kv.1 / 128 ≠ cl) →
      ∃ t, exec (.clusterIdle cl) s = .next t
        ∧ t.dev.clusterPower cl = (if bit (s.dev.get Obj.thermStatus 0) 47 = true then 2 else 1)
        ∧ ∀ j, j ≠ cl → t.dev.clusterPower j = s.dev.clusterPower j)
    ∧ (s.dev.clusterPower cl = 3 →
      ∃ t, exec (.clusterWakeDone cl) s = .next t ∧ t.dev.clusterPower cl = 0
        ∧ ∀ j, j ≠ cl → t.dev.clusterPower j = s.dev.clusterPower j))
  ∧ ∀ (s : State) (cl : Nat) (f : Flight), cl < 64 → f ∈ s.dev.sl.flights → f.cluster = cl → s.dev.state ≠ St.reset →
    ∃ t, exec (.clusterHang cl) s = .next t ∧ t.dev.condition 0x06 (clusterTarget cl) = true
      ∧ (s.dev.condition 0x06 (clusterTarget cl) = false → t.dev.Reported 0x06 (clusterTarget cl))

/-- The retire unit releases a bucket's next packet (R175, R180, R181, Table 8.6): it leaves the slice and is counted; a discard verdict
is counted with its reason, a forward verdict offers the packet to admission for the queue of its record, a punt verdict offers it to the
punt path where its group's and the aggregate policer admit it and counts a drop where they do not, and a discarded packet offers nothing.
Then each mirror request offers a copy for its session's queue, cut at its length, and is counted as made or refused. A packet that finds
the cluster's verdict FIFO full is not released (the model's reading, log 31), and one of more than 12,284 bytes has no copy (the model's
choice, log 77). -/
def Obligations.PacketRelease : Prop :=
  ∀ (s : State) (cl b : Nat) (f : Flight), cl < 64 → b < 4096 → s.dev.forwarding = true → s.dev.releasable cl b = some f →
    let d0 := { s.dev with sl := { s.dev.sl with flights := s.dev.sl.flights.filter fun g => g.id != f.id } }
    let d1 := (d0.clCount f.cluster ccReleased 1).setCondition 0x06 (clusterTarget f.cluster) false
    let port := some (fld f.record 487 480)
    let copies (d : Device) : Device := f.mirrors.foldl (fun d session =>
      let v := d.get Obj.mirrorSession session
      if bit v 63 = false ∨ 12284 < f.bytes.length then d.clCount f.cluster ccMirrorRefused 1
      else
        let r := d.takeOffer s.clk
          { queue := fld v 62 45, pool := d.queuePool (fld v 62 45), port := port, copy := true, punt := false, inject := false
            record := putFld f.record 255 254 0, packet := if fld v 31 16 = 0 then f.bytes else f.bytes.take (fld v 31 16) }
        r.1.clCount f.cluster (if r.2 = true then ccMirrored else ccMirrorRefused) 1) d
    ((f.lost = false ∧ ∀ g ∈ s.dev.verdictFifo cl, g.id ≠ f.id) → exec (.packetRelease cl b) s = .next s)
    ∧ ((f.lost = true ∨ ∃ g ∈ s.dev.verdictFifo cl, g.id = f.id) →
      (f.lost = true → exec (.packetRelease cl b) s = .next { s with dev := copies d1 })
      ∧ (∀ reason, f.verdict = some (4, reason) → f.slice < 4 → reason < 256 →
        ∃ t, exec (.packetRelease cl b) s = .next t ∧ (∀ g ∈ t.dev.sl.flights, g.id ≠ f.id)
          ∧ t.dev.get Obj.engDiscardCount (f.slice * 256 + reason)
              = (s.dev.get Obj.engDiscardCount (f.slice * 256 + reason) + 1) % 2 ^ 64
          ∧ (f.mirrors = [] → t.dev.buf = s.dev.buf))
      ∧ (∀ reason, f.verdict = some (4, reason) → exec (.packetRelease cl b) s
          = .next { s with dev := copies ((d1.clCount f.cluster ccDiscarded 1).tally Obj.engDiscardCount (f.slice * 256 + reason) 1) })
      ∧ (∀ arg, f.verdict = some (1, arg) →
        exec (.packetRelease cl b) s = .next { s with dev := copies ((d1.clCount f.cluster ccForwarded 1).takeOffer s.clk
          { queue := fld f.record 319 302, pool := f.pool.getD (d1.queuePool (fld f.record 319 302)), port := port
            copy := false, punt := false, inject := f.pool.isSome, record := f.record, packet := f.bytes }).1 })
      ∧ ∀ arg, f.verdict = some (2, arg) →
        let d2 := d1.clCount f.cluster ccPunted 1
        let group := fld f.record 287 272 / 4096 % 16
        let size : Int := (min f.bytes.length 8950 + 70 : Nat) * 1000
        let admits := (d2.rates (recKey kPunt group)).1 ≠ 0 ∧ size ≤ (d2.tokens (recKey kPunt group)).1
          ∧ size ≤ (d2.tokens (recKey kAggregate 0)).1
        let d3 := (d2.debit (recKey kPunt group) size).debit (recKey kAggregate 0) size
        let offer : Offer := { queue := puntPath, pool := d1.get Obj.engPuntPool 0, port := port, copy := false, punt := true
                               inject := f.pool.isSome, record := f.record, packet := f.bytes }
        (admits → exec (.packetRelease cl b) s = .next { s with dev := copies (d3.takeOffer s.clk offer).1 })
        ∧ (¬admits → exec (.packetRelease cl b) s = .next { s with dev := copies (d2.tally Obj.tmPuntDrops group 1) }))

/-! ### Images and the Pilot (chapter 10) -/

/-- Verification ends while the Pilot runs (R216, R225): the slot or the Pilot bank is VALID with what the header says, or FAILED with the
reason of the first failing check; no other slot or bank changes. Cluster loads (R219 to R221): a load starts with the cluster's image
registers cleared; it ends with the whole control store and the dispatch table written, every other cluster's control store as it was, and
LOADED with the image's identity, or FAILED and reported where the read-back failed twice. -/
def Obligations.Images : Prop :=
  (
    (∀ (s : State) (n : Nat) (g : Staged), n < 4 → mapGet? s.dev.img.slots n = some g → s.dev.stageState n = 1 →
      s.dev.pwr.pilot = .running → s.dev.sx.pilotHalted = false →
      ∃ t, exec (.stageVerifyDone n) s = .next t ∧ ElementSame Obj.ucodeStageStatus n s.dev t.dev
        ∧ (s.dev.verify 1 g = 0 → t.dev.stageState n = 2 ∧ t.dev.rd Obj.ucodeStageStatus n 127 96 = fld g.header 415 384
            ∧ t.dev.rd Obj.ucodeStageStatus n 159 144 = fld g.header 447 432
            ∧ t.dev.rd Obj.ucodeStageStatus n 63 0 = g.digest / 2 ^ 320 % 2 ^ 64)
        ∧ (s.dev.verify 1 g ≠ 0 → t.dev.stageState n = 3 ∧ t.dev.rd Obj.ucodeStageStatus n 183 176 = s.dev.verify 1 g))
    ∧ ∀ (s : State) (b : Nat) (g : Staged), b < 2 → mapGet? s.dev.img.banks b = some g → s.dev.bankState b = 1 →
      s.dev.pwr.pilot = .running → s.dev.sx.pilotHalted = false →
      ∃ t, exec (.stageVerifyDone (4 + b)) s = .next t ∧ ElementSame Obj.pilotStatus 0 s.dev t.dev
        ∧ t.dev.bankState (1 - b) = s.dev.bankState (1 - b) ∧ t.dev.running = s.dev.running
        ∧ (s.dev.verify 2 g = 0 → t.dev.bankState b = 2 ∧ t.dev.rd Obj.pilotStatus 0 (63 - 32 * b) (32 - 32 * b) = fld g.header 415 384)
        ∧ (s.dev.verify 2 g ≠ 0 → t.dev.bankState b = 3 ∧ t.dev.rd Obj.pilotStatus 0 103 96 = s.dev.verify 2 g))
  ∧ (
    (∀ (s : State) (c : Nat) (rest : List Nat), s.dev.img.loads = c :: rest → c < 64 → s.dev.img.loading = false →
      ∃ t, exec .imageLoadStart s = .next t ∧ t.dev.img.loading = true ∧ t.dev.img.loads = c :: rest ∧ t.dev.loadState c = 2
        ∧ t.dev.get Obj.ucodeVersion c = 0 ∧ t.dev.get Obj.ucodeImageHash c = 0 ∧ t.dev.get Obj.ucodeCompatClass c = 0
        ∧ ∀ j, j < 64 → j ≠ c → t.dev.loadState j = s.dev.loadState j)
    ∧ ∀ (s : State) (c : Nat) (rest : List Nat) (g : Staged) (b1 b2 : Bool), s.dev.img.loads = c :: rest → c < 64 →
      s.dev.img.loading = true → mapGet? s.dev.img.slots (s.dev.rd Obj.ucodeLoadStatus c 55 48) = some g → g.words ≤ 4096 →
      ∃ t, exec (.imageLoadDone b1 b2) s = .next t ∧ t.dev.img.loads = rest ∧ t.dev.img.loading = false
        ∧ (∀ i, i < 4096 → t.dev.controlWord c i = if i < g.words then g.word i else 0)
        ∧ (∀ c' i, c' ≠ c → i < 4096 → t.dev.controlWord c' i = s.dev.controlWord c' i)
        ∧ (∀ i, i < 256 → t.dev.get Obj.clDispatch (c * 256 + i) = dispatchEntry (g.dispatch i))
        ∧ ((b1 && b2) = false → t.dev.loadState c = 3 ∧ t.dev.get Obj.ucodeVersion c = fld g.header 415 384
            ∧ t.dev.get Obj.ucodeCompatClass c = fld g.header 447 432)
        ∧ ((b1 && b2) = true → t.dev.loadState c = 4 ∧ t.dev.get Obj.ucodeVersion c = 0 ∧ t.dev.get Obj.ucodeImageHash c = 0
            ∧ t.dev.get Obj.ucodeCompatClass c = 0
            ∧ (s.dev.state ≠ St.reset → t.dev.Reported 3 (0x100 + c))))

/-- Pilot restarts (R33, R216, R220, R224, R226, R343): the Epoch advances, the kept responses and the stage slots are emptied and loads
aborted; a switch runs the other bank, UNCONFIRMED where firmware ran before; a reversion runs the former firmware and marks the bank
FAILED with reason NOT_CONFIRMED (code 8 of Table 10.6); the Pilot runs again at the end, and every surviving side of its crossings has its
peer-reset event. That the peer-reset events are counted as any other is the model's reading (log 63). -/
def Obligations.PilotRestarts : Prop :=
  (∀ (s : State), s.dev.pwr.pilot = .running → (s.dev.img.switch.isSome = true ∨ s.dev.pwr.requested = some 1) →
    ∃ t, exec .pilotRestart s = .next t ∧ t.dev.pwr.pilot = .restarting ∧ t.dev.mgmt.kept = [] ∧ t.dev.img.slots = []
      ∧ t.dev.img.loads = [] ∧ t.dev.img.switch = none
      ∧ t.dev.get Obj.bdpEpoch 0 = (s.dev.get Obj.bdpEpoch 0 + 1) % 256
      ∧ (∀ n, n < 4 → t.dev.get Obj.ucodeStageStatus n = 0)
      ∧ (∀ c ∈ s.dev.img.loads, c < 64 → t.dev.loadState c = 5)
      ∧ (s.dev.img.switch = none → t.dev.running = s.dev.running)
      ∧ ∀ b, s.dev.img.switch = some b → b < 3 → t.dev.running = b ∧ t.dev.img.previous = some s.dev.running
          ∧ t.dev.unconfirmed = decide (s.dev.running ≠ 0))
  ∧ (∀ (s : State) (old : Nat), s.dev.img.previous = some old → old < 3 → (s.dev.running = 1 ∨ s.dev.running = 2) →
    ∃ t, exec .pilotRevert s = .next t ∧ t.dev.running = old ∧ t.dev.bankState (s.dev.running - 1) = 3
      ∧ t.dev.rd Obj.pilotStatus 0 103 96 = 8 ∧ t.dev.unconfirmed = false ∧ t.dev.img.previous = none
      ∧ t.dev.pwr.pilot = .restarting ∧ t.dev.get Obj.bdpEpoch 0 = (s.dev.get Obj.bdpEpoch 0 + 1) % 256)
  ∧ ∀ (s : State), s.dev.pwr.pilot = .restarting →
    ∃ t, exec .pilotRestartEnd s = .next t ∧ t.dev.pwr = { s.dev.pwr with pilot := .running }
      ∧ ChartSame [Obj.crossStatus, Obj.crossCounters] s.dev t.dev
      ∧ ∀ x ∈ pilotCrossings, t.dev.crossState x = 0
          ∧ t.dev.rd Obj.crossCounters x 63 0 = (s.dev.rd Obj.crossCounters x 63 0 + 1) % 2 ^ 64

/-! ### The shared buffer and the HBM stacks (chapters 11, 12) -/

/-- Admission (R234, R236, R237): a packet of a lossless pair that meets a closed queue takes headroom cells, and is counted in
HeadroomExceeded and reported where they do not suffice; a lossy one that meets a closed queue or reaches its colour's threshold is
discarded for congestion; any other takes HBM cells where its queue is steered and they can be had, else on-chip cells where they suffice,
else, in a Pail pool, the on-chip cells that remain and HBM cells for the rest; a Ladle pool discards it as LadleEmpty, and a failed HBM
allocation is handled as headroom, for a lossless pair, or discarded for the spill budget or for congestion. A discard is counted at the
ingress port of a packet that is no copy and no punt, and as an inject's. While a restart is under way nothing is admitted. Which cells of
a kind are taken is free (log 8); the pool that a queue is counted in is the model's reading (log 38). -/
def Obligations.Admission : Prop :=
  (∀ (d : Device) (c : Clk) (o : Offer), d.pwr.hold ≠ .none → d.takeOffer c o = (d, false))
  ∧ ∀ (d : Device) (c : Clk) (o : Offer), d.pwr.hold = .none → o.pool < 16 → o.queue ≤ 262144 → (∀ p, o.port = some p → p < 256) →
    let d0 := (d.reclose o.pool).recloseOne o.pool o.queue
    let r := d.takeOffer c o
    let len := o.packet.length
    let cls := if o.queue = 262144 then 0 else o.queue % 8
    let counts (k : Nat) : Prop := r.1.rd Obj.bufPoolCounters o.pool (64 * (11 - k) - 1) (64 * (10 - k))
      = (d.rd Obj.bufPoolCounters o.pool (64 * (11 - k) - 1) (64 * (10 - k)) + 1) % 2 ^ 64
    let loss := (match o.port with | some p => !o.copy && !o.punt && !o.inject && d.lossless p cls | none => false)
    let closed := d0.closed o.pool o.queue
    let room := min (d.poolSize o.pool - d.poolHeadroom o.pool - (d.inUse o.pool + d.headroomInUse o.pool)) d.onChipFree
    let need := ceilDiv len 256
    let fits := d.headroomInUse o.pool + need ≤ d.poolHeadroom o.pool ∧ need ≤ d.onChipFree
    let d1 := if (mapGet? d.buf.steered o.queue).isSome = true ∧ o.pool < 12 then d0.unsteer o.queue else d0
    let steered := d0.vatAlloc c o.pool o.queue (ceilDiv len 1024)
    let spilt := d1.vatAlloc c o.pool o.queue (ceilDiv (len - 256 * room) 1024)
    let admitted (cells : List Nat) (headroom : Bool) : Prop := r.2 = true ∧ counts 0 ∧ (headroom = true → counts 6)
      ∧ ∃ e, r.1.queue o.queue = d.queue o.queue ++ [e] ∧ e.cells = cells ∧ e.pool = o.pool ∧ e.headroom = headroom
          ∧ e.port = o.port ∧ e.copy = o.copy ∧ e.record = o.record
    let refused : Prop := r.2 = false ∧ (∀ q, r.1.queue q = d.queue q) ∧ r.1.buf.cells = d.buf.cells
    let discarded (k : Nat) : Prop := refused ∧ counts k ∧ (o.inject = true → counts 10)
      ∧ (∀ p, o.port = some p → r.1.get Obj.bufPortDiscard (p * 8 + cls)
          = if o.copy = true ∨ o.punt = true then d.get Obj.bufPortDiscard (p * 8 + cls)
            else (d.get Obj.bufPortDiscard (p * 8 + cls) + 1) % 2 ^ 64)
    let headroomed : Prop := (fits → admitted (d0.takeOnChip need).1 true)
      ∧ (¬ fits → refused ∧ counts 7 ∧ (d.state ≠ St.reset → ∀ p, o.port = some p → r.1.Reported 0x0E (0xA00 + p)))
    if loss = true ∧ closed = true then headroomed
    else if loss = false ∧ (closed = true ∨ d0.colourThreshold o.pool o.queue (fld o.record 299 298) ≤ d.depth o.queue) then discarded 3
    else if (mapGet? d.buf.steered o.queue).isSome = true ∧ o.pool < 12 ∧ steered.isOk = true then
      (∀ hs d2, steered = .ok (hs, d2) → admitted hs false) ∧ counts 1
    else if need ≤ room then admitted (d1.takeOnChip need).1 false
    else if o.pool < 12 then
      (∀ hs d2, spilt = .ok (hs, d2) → admitted ((d2.takeOnChip room).1 ++ hs) false ∧ counts 2)
      ∧ ∀ budget, spilt = .error budget →
        (loss = true → headroomed) ∧ (loss = false → discarded (if budget = true then 4 else 3))
    else discarded 5

/-- The Separator and the retirement of buffer cells (R242 to R244, R247): an evaluation records the queue's residence, its bytes over
what left it in the last 4 µs, and moves nothing but the steering; it steers a queue that qualifies and releases one whose residence fell
below its limit; while the steered queues' arrivals exceed 90 % of the budget those of the smallest residence are released, and no more; a
closing stack without cells is CLOSED, and a retiring segment without cells is RETIRED. When a queue is evaluated, and the pool it is
counted in, are the model's reading (logs 38, 45). -/
def Obligations.SeparatorAndSegments : Prop :=
  (∀ (s : State) (q : Nat), q < 262144 → s.dev.forwarding = true →
    let cells := s.dev.depth q
    let out := (((mapGet s.dev.buf.departs q []).filter fun x => decide (s.clk.ticks < x.1 + 5000)).map Prod.snd).sum
    let shown := if cells = 0 then 0 else if out = 0 then 0xFFFFFFFF else min (cells * 256 * 4000 / out) 0xFFFFFFFE
    let cfg := s.dev.get Obj.sepConfig 0
    ∃ t, exec (.separatorEvaluate q) s = .next t ∧ mapGet t.dev.buf.residence q 0 = shown ∧ t.dev.chart = s.dev.chart
      ∧ t.dev.buf.queues = s.dev.buf.queues ∧ t.dev.buf.cells = s.dev.buf.cells
      ∧ ((mapGet? s.dev.buf.steered q).isSome = true → shown < fld cfg 63 32 → mapGet? t.dev.buf.steered q = none)
      ∧ (mapGet? s.dev.buf.steered q = none → bit cfg 127 = false → mapGet? t.dev.buf.steered q = none)
      ∧ ∀ st, mapGet? s.dev.buf.steered q = none → bit cfg 127 = true → fld cfg 95 64 < shown → s.dev.heldPool q < 12 →
          0 < s.dev.poolVatSize (s.dev.heldPool q) →
          s.dev.steeredRate10 s.clk + 10 * s.dev.arrivalRate s.clk q ≤ s.dev.budgetLimit10 →
          s.dev.poolStack s.clk (s.dev.heldPool q) 1 = some st → mapGet? t.dev.buf.steered q = some st)
  ∧ (∀ (d : Device) (c : Clk),
    let d' := d.relieve c d.buf.steered.length
    let steered (d : Device) (q : Nat) : Bool := (mapGet? d.buf.steered q).isSome
    let rate10 (qs : List Nat) : Nat := 10 * (qs.map fun q => d.arrivalRate c q).sum
    let limit10 := 9 * ((List.range 4).map fun k => if d.sepState k = 0 then d.budget k else 0).sum
    let qs := d.buf.steered.map Prod.fst
    d' = { d with buf := { d.buf with steered := d.buf.steered.filter fun kv => steered d' kv.1 } }
    ∧ (rate10 qs ≤ limit10 → d' = d) ∧ rate10 (qs.filter (steered d')) ≤ limit10
    ∧ (∀ p q x, steered d p = true → steered d' p = false → steered d' q = true → d.residenceOf c q = some x →
        ∃ y, d.residenceOf c p = some y ∧ y ≤ x)
    ∧ (limit10 < rate10 qs → ∃ q, steered d q = true ∧ steered d' q = false
        ∧ limit10 < rate10 (qs.filter fun p => steered d' p || p == q)))
  ∧ (∀ (s : State) (k : Nat), k < 4 → s.dev.sepState k = 1 → s.dev.vatInUse k = 0 →
    ∃ t, exec (.stackClosed k) s = .next t ∧ t.dev.sepState k = 2 ∧ ElementSame Obj.sepStack k s.dev t.dev ∧ t.dev.buf = s.dev.buf)
  ∧ ∀ (s : State) (g : Nat), g < 48 → s.dev.get Obj.bufSegmentState g = 1 →
    ((∀ a ∈ s.dev.buf.cells, a < onChipCells → a / segmentCells ≠ g) →
      ∃ t, exec (.bufferSegmentRetired g) s = .next t ∧ t.dev.get Obj.bufSegmentState g = 2
        ∧ ElementSame Obj.bufSegmentState g s.dev t.dev ∧ t.dev.buf = s.dev.buf)
    ∧ ((∃ a ∈ s.dev.buf.cells, a < onChipCells ∧ a / segmentCells = g) → exec (.bufferSegmentRetired g) s = .next s)

/-- Training and retirement in a stack (R252, R259, R268): a sweep sets every delay to the centre of its window, in 1/128 of a unit
interval, and holds half the window as its margin, a step being 1/64 of the interval of a pin at 9.6 Gb/s; with fewer than 8 failing
pseudo-channels the stack is ACTIVE and OPEN (start-up) or REPLAYING (retraining) and each failing one is reported; with 8 or more it is
fenced and reported; a retiring pseudo-channel none of whose cells is in use is RETIRED. That a margin drops its part of a picosecond is
the model's choice (log 71). -/
def Obligations.StackTraining : Prop :=
  (∀ (s : State) (k : Nat) (sweep : List (List LaneWindow)), k < 4 → sweep.length = 32 → (∀ ls ∈ sweep, ∀ w ∈ ls, w.wf = true) →
    let bad := (sweep.filter fun ls => (narrowLane ls).isSome).length
    (s.dev.state = St.training → s.dev.stackState k = 0 →
      ∃ t, exec (.hbmTrainingComplete k sweep) s = .next t ∧ setHas t.dev.pwr.trained k = true
        ∧ (∀ i ls, sweep[i]? = some ls → mapGet? t.dev.hbm.lanes (32 * k + i) = some (ls.map laneTrim)
            ∧ t.dev.rd Obj.hbmPcStatus (32 * k + i) 55 48 = leastOf LaneTrim.readMargin (ls.map laneTrim)
            ∧ t.dev.rd Obj.hbmPcStatus (32 * k + i) 47 40 = leastOf LaneTrim.writeMargin (ls.map laneTrim))
        ∧ (bad < 8 → t.dev.stackState k = 1 ∧ t.dev.sepState k = 0 ∧
            ∀ i ls, sweep[i]? = some ls → (∃ w ∈ ls, w.readSteps < 8 ∨ w.writeSteps < 8) → t.dev.Reported 0x10 (0x880 + 32 * k + i))
        ∧ (8 ≤ bad → t.dev.stackState k = 8 ∧ t.dev.sepState k ≠ 0 ∧ t.dev.rd Obj.hbmStackStatus k 247 240 = 7
            ∧ t.dev.Reported 0x10 (0x900 + k)))
    ∧ (s.dev.stackState k = 5 →
      ∃ t, exec (.retrainSweepDone k sweep) s = .next t
        ∧ (∀ i ls, sweep[i]? = some ls → mapGet? t.dev.hbm.lanes (32 * k + i) = some (ls.map laneTrim))
        ∧ (bad < 8 → t.dev.stackState k = 7 ∧ mapGet? t.dev.hbm.cursor k = some 0 ∧ (s.dev.state ≠ St.reset →
            ∀ i ls, sweep[i]? = some ls → (∃ w ∈ ls, w.readSteps < 8 ∨ w.writeSteps < 8) → t.dev.Reported 0x10 (0x880 + 32 * k + i)))
        ∧ (8 ≤ bad → t.dev.stackState k = 8 ∧ t.dev.rd Obj.hbmStackStatus k 247 240 = 7
            ∧ (s.dev.state ≠ St.reset → t.dev.Reported 0x10 (0x900 + k)))))
  ∧ (∀ w : LaneWindow, (laneTrim w).readDelay = 2 * w.readFirst + w.readSteps - 1
    ∧ (laneTrim w).writeDelay = 2 * w.writeFirst + w.writeSteps - 1
    ∧ (laneTrim w).readMargin = w.readSteps * 625 / 768 ∧ (laneTrim w).writeMargin = w.writeSteps * 625 / 768)
  ∧ ∀ (s : State) (pc : Nat), pc < 128 → s.dev.pcState (pc / 32) (pc % 32) = 1 →
    ((∀ a ∈ s.dev.buf.cells, cellHbm a = true → cellStack a = pc / 32 → cellIndex a % 32 ≠ pc % 32) →
      ∃ t, exec (.pcRetired pc) s = .next t ∧ t.dev.pcState (pc / 32) (pc % 32) = 2 ∧ t.dev.buf = s.dev.buf
        ∧ ChartSame [Obj.hbmPcStatus, Obj.hbmStackStatus] s.dev t.dev)
    ∧ ((∃ a ∈ s.dev.buf.cells, cellHbm a = true ∧ cellStack a = pc / 32 ∧ cellIndex a % 32 = pc % 32) →
      exec (.pcRetired pc) s = .next s)

/-- Parking, waking and replay (R259, R260, R263, R269, Tables 12.7 and 12.8): the states a stack passes through, the counters and outcomes
of each, the replay's lowest dirty block first with its bit cleared in both copies of the log, no end of a replay while a bit is set, no
timeout of a closed stack, and no other stack's state moved. A stack parked beside a fenced sister or pseudo-channel is woken (R264). That
the replay of a poisoned block clears its bit and is not counted is the model's reading (log 14). -/
def Obligations.StackParking : Prop :=
  ∀ (s : State) (k : Nat), k < 4 →
    (s.dev.stackState k = 2 → s.dev.sepState k ≠ 2 →
      ∃ t, exec (.drainTimeout k) s = .next t ∧ t.dev.stackState k = 1 ∧ t.dev.sepState k = 0 ∧ t.dev.rd Obj.hbmStackStatus k 247 240 = 4
        ∧ t.dev.rd Obj.hbmCounters k 127 64 = (s.dev.rd Obj.hbmCounters k 127 64 + 1) % 2 ^ 64)
    ∧ (s.dev.sepState k = 2 → exec (.drainTimeout k) s = .next s)
    ∧ (s.dev.stackState k = 2 → s.dev.sepState k = 2 →
      ∃ t, exec (.parkPrepare k) s = .next t ∧ t.dev.stackState k = 3 ∧ ElementSame Obj.hbmStackStatus k s.dev t.dev)
    ∧ (s.dev.stackState k = 3 →
      ∃ t, exec (.parkCommit k) s = .next t
        ∧ t.dev.rd Obj.hbmCounters k 191 128 = (s.dev.rd Obj.hbmCounters k 191 128 + 1) % 2 ^ 64
        ∧ (mapGet? s.dev.hbm.task k = some .retrain → t.dev.stackState k = 5)
        ∧ (mapGet? s.dev.hbm.task k ≠ some .retrain → t.dev.rd Obj.hbmStackStatus k 247 240 = 1
            ∧ t.dev.stackState k = if s.dev.stackState (sister k) = 8 ∨ s.dev.allPcs (sister k) = false then 6 else 4))
    ∧ (s.dev.stackState k = 6 →
      ∃ t, exec (.wakeRelock k) s = .next t
        ∧ (mapGet? s.dev.hbm.task k = some .retrain → t.dev.stackState k = 5)
        ∧ (mapGet? s.dev.hbm.task k ≠ some .retrain → t.dev.stackState k = 7 ∧ mapGet? t.dev.hbm.cursor k = some 0))
    ∧ (∀ b rest found, s.dev.stackState k = 7 → s.dev.dirty k = b :: rest → b < 2 ^ 26 → (∀ f ∈ found, f.wf = true) →
      let e := s.dev.readFound s.clk (· == (pairOf k, b)) (found.filter fun f => f.stack == sister k)
      (∃ t, exec (.replayBlockCopy k found) s = .next t ∧ t.dev.churnSet k b = false
        ∧ (∀ x, x ≠ blockKey k b → setHas t.dev.hbm.churn x = setHas e.hbm.churn x ∧ setHas t.dev.hbm.churnB x = setHas e.hbm.churnB x)
        ∧ mapGet? t.dev.hbm.cursor k = some (max (mapGet s.dev.hbm.cursor k 0) (b + 1))
        ∧ (e.poisoned (pairOf k, b) = false → t.dev.rd Obj.hbmCounters k 63 0 = (e.rd Obj.hbmCounters k 63 0 + 1) % 2 ^ 64)
        ∧ (e.poisoned (pairOf k, b) = true → t.dev.rd Obj.hbmCounters k 63 0 = e.rd Obj.hbmCounters k 63 0))
      ∧ (s.dev.hbm.churn.Pairwise (· < ·) → ∀ x ∈ rest, b < x)
      ∧ exec (.replayComplete k) s = .next s)
    ∧ (s.dev.stackState k = 7 → s.dev.dirty k = [] →
      ∃ t, exec (.replayComplete k) s = .next t ∧ t.dev.stackState k = 1 ∧ t.dev.sepState k = 0
        ∧ t.dev.rd Obj.hbmStackStatus k 247 240 = replayOutcome (mapGet? s.dev.hbm.task k) ∧ mapGet? t.dev.hbm.task k = none
        ∧ ∀ i, i < 32 → t.dev.pcState k i = if 32 * k + i ∈ s.dev.hbm.returning then 0 else s.dev.pcState k i)
    ∧ ∀ found, ∀ c ∈ [Instr.drainTimeout k, .parkPrepare k, .parkCommit k, .wakeRelock k, .replayBlockCopy k found, .replayComplete k],
        ∀ t, exec c s = .next t → ∀ j, j < 4 → j ≠ k → t.dev.stackState j = s.dev.stackState j

/-- Margins and refresh (R253 to R257): the margins tracked are held and shown; a stack whose least margin falls low retrains, or reports
where it may not and is checked again; a refresh interval is owed, or issued with all that is owed where no request waits or 8 are owed,
while fewer than one other pseudo-channel of its group (two in doubled refresh) is refreshing, and postponed otherwise; doubled refresh
starts above 85.0 and ends below 82.0 degrees, doubling and halving what is owed; the hot condition holds from 95.0 degrees. When a
postponed batch is issued, and the ninth owed refresh, are the model's choice (log 72). -/
def Obligations.MarginsAndRefresh : Prop :=
  (∀ (s : State) (k : Nat) (ts : List (List LaneTrim)), k < 4 → ts.length = 32 → s.dev.stackTrims k = true →
    let d1 := s.dev.setTrims k ts
    (∀ i ls, ts[i]? = some ls → mapGet? d1.hbm.lanes (32 * k + i) = some ls
      ∧ d1.rd Obj.hbmPcStatus (32 * k + i) 55 48 = leastOf LaneTrim.readMargin ls)
    ∧ (d1.marginLow k = false → exec (.driftTrack k ts) s =
        .next { s with dev := { d1 with hbm := { d1.hbm with low := setDel d1.hbm.low k, watch := setDel d1.hbm.watch k } } })
    ∧ (d1.marginLow k = true → setHas s.dev.hbm.low k = true → exec (.driftTrack k ts) s = .next { s with dev := d1 })
    ∧ (d1.marginLow k = true → setHas s.dev.hbm.low k = false →
      ∃ t, exec (.driftTrack k ts) s = .next t ∧ setHas t.dev.hbm.low k = true
        ∧ (bit (s.dev.get Obj.hbmConfig 0) 127 = true → s.dev.mayPark k = true →
            t.dev.stackState k = 2 ∧ mapGet? t.dev.hbm.task k = some .retrain ∧ t.dev.sepState k ≠ 0)
        ∧ (bit (s.dev.get Obj.hbmConfig 0) 127 = false ∨ s.dev.mayPark k = false → s.dev.state ≠ St.reset →
            t.dev.Reported 0x11 (0x900 + k) ∧ t.dev.stackState k = s.dev.stackState k ∧ setHas t.dev.hbm.watch k = true)))
  ∧ (∀ (s : State) (k : Nat), k < 4 → s.dev.stackTrims k = true → setHas s.dev.hbm.watch k = true →
    (s.dev.marginLow k = false → exec (.marginCheck k) s = .next s)
    ∧ (s.dev.marginLow k = true →
      ∃ t, exec (.marginCheck k) s = .next t
        ∧ (bit (s.dev.get Obj.hbmConfig 0) 127 = true → s.dev.mayPark k = true → t.dev.stackState k = 2)
        ∧ (bit (s.dev.get Obj.hbmConfig 0) 127 = false ∨ s.dev.mayPark k = false → s.dev.state ≠ St.reset →
            t.dev.Reported 0x11 (0x900 + k))))
  ∧ (∀ (s : State) (pc : Nat) (waiting : Bool), pc < 128 → s.dev.stackRefreshes (pc / 32) = true →
    s.dev.pcState (pc / 32) (pc % 32) = 0 →
    let d0 := ((refreshGroup pc).filter fun k => setHas s.dev.hbm.groupWait k).foldl (fun d k => d.refreshIssue s.clk k) s.dev
    let n := s.dev.owed pc + 1
    let asked := waiting = false ∨ 8 ≤ n ∨ setHas s.dev.hbm.groupWait pc = true
    ∃ t, exec (.refreshInterval pc waiting) s = .next t ∧ (∀ j, j ≠ pc → t.dev.owed j = d0.owed j)
      ∧ (¬ asked → t.dev.owed pc = n ∧ t.dev.chart = d0.chart ∧ t.dev.hbm.refreshing = d0.hbm.refreshing)
      ∧ (asked → d0.refreshRoom s.clk pc = true → t.dev.owed pc = 0 ∧ setHas t.dev.hbm.groupWait pc = false
          ∧ mapGet t.dev.hbm.refreshing pc 0 = max s.clk.tenths (mapGet d0.hbm.refreshing pc 0) + 4100 * n
          ∧ t.dev.rd Obj.hbmCounters (pc / 32) 639 576 = (d0.rd Obj.hbmCounters (pc / 32) 639 576 + n) % 2 ^ 64
          ∧ (2 ≤ n → t.dev.rd Obj.hbmCounters (pc / 32) 575 512 = (d0.rd Obj.hbmCounters (pc / 32) 575 512 + 1) % 2 ^ 64))
      ∧ (asked → d0.refreshRoom s.clk pc = false → t.dev.owed pc = min 8 n ∨ 8 < s.dev.owed pc ∧ t.dev.owed pc = s.dev.owed pc)
      ∧ (asked → d0.refreshRoom s.clk pc = false → setHas t.dev.hbm.groupWait pc = true
          ∧ (n ≤ 8 → t.dev.chart = d0.chart ∧ t.dev.hbm.refreshing = d0.hbm.refreshing)))
  ∧ ∀ (s : State) (k : Nat) (x : Int), k < 4 → s.dev.stackRefreshes k = true →
    let hot := bit (s.dev.get Obj.hbmStackStatus k) 239
    ∃ t, exec (.hbmTempSample k x) s = .next t ∧ t.dev.rd Obj.hbmStackStatus k 223 208 = ofSigned 16 x
      ∧ t.dev.condition 0x15 (0x900 + k) = decide (950 ≤ x) ∧ t.dev.stackState k = s.dev.stackState k
      ∧ (hot = false → 850 < x → bit (t.dev.get Obj.hbmStackStatus k) 239 = true ∧ bit (t.dev.get Obj.sepStack k) 119 = true
          ∧ ∀ i, i < 32 → t.dev.owed (32 * k + i) = min 8 (2 * s.dev.owed (32 * k + i)))
      ∧ (hot = true → x < 820 → bit (t.dev.get Obj.hbmStackStatus k) 239 = false ∧ bit (t.dev.get Obj.sepStack k) 119 = false
          ∧ ∀ i, i < 32 → t.dev.owed (32 * k + i) = (s.dev.owed (32 * k + i) + 1) / 2)
      ∧ (hot = false ∧ x ≤ 850 ∨ hot = true ∧ 820 ≤ x → bit (t.dev.get Obj.hbmStackStatus k) 239 = hot
          ∧ ∀ i, i < 32 → t.dev.owed (32 * k + i) = s.dev.owed (32 * k + i))

/-- Errors in a stack (R264 to R267, R342): the scrub reads a written block that its stack can serve and no other; it counts a corrected
block, heals an uncorrectable one from the sister's copy, waits for a current copy in a sister out of service, and poisons the block that
has no good current copy; a block of the churn log is healed from its second copy, and poisoned where that fails too. A stack that does not
answer is reported and the request held, but for a parity error of the command path, which is only reported; where the stack is fenced, the
churn bit of an unanswered write is set, and the frame of an unanswered cell read ends stomped. Which sisters still answer the healing
read, and what is waited for, are the model's reading (log 70), and so is what becomes of a churn-log block bad in both copies (log 14). -/
def Obligations.HbmErrors : Prop :=
  (∀ (s : State) (f : BlockFound), f.wf = true →
    let k := f.stack
    let b := f.block
    let t := sister k
    let current := s.dev.churnSet t b = false ∧ s.dev.pcState t (blockPc b) = 0
    let answers := s.dev.stackState t = 1 ∨ s.dev.stackState t = 2 ∨ s.dev.stackState t = 3
    let returns := s.dev.stackState t = 4 ∨ s.dev.stackState t = 5 ∨ s.dev.stackState t = 6 ∨ s.dev.stackState t = 7
    let lost (d : Device) (b : Nat) : Bool := setHas d.hbm.poison (blockKey (if logBlock b = true then k else pairOf k) b)
    (s.dev.blockWritten k b = false ∨ s.dev.copyServes k b = false ∨ lost s.dev b = true ∨ f.ecc = .good →
      exec (.hbmScrubVisit f) s = .next s)
    ∧ (s.dev.blockWritten k b = true → s.dev.copyServes k b = true → lost s.dev b = false →
      (f.ecc = .single → ∃ u, exec (.hbmScrubVisit f) s = .next u
        ∧ u.dev.rd Obj.hbmCounters k 447 384 = (s.dev.rd Obj.hbmCounters k 447 384 + 1) % 2 ^ 64
        ∧ ElementSame Obj.hbmCounters k s.dev u.dev ∧ u.dev.hbm = s.dev.hbm)
      ∧ (f.ecc = .double → s.dev.state ≠ St.reset →
        ∃ u, exec (.hbmScrubVisit f) s = .next u ∧ u.dev.Reported 0x12 (0x880 + (32 * k + blockPc b))
          ∧ (logBlock b = true → f.otherBad = false →
              u.dev.rd Obj.hbmCounters k 319 256 = (s.dev.rd Obj.hbmCounters k 319 256 + 1) % 2 ^ 64
              ∧ u.dev.hbm.poison = s.dev.hbm.poison ∧ u.dev.hbm.churn = s.dev.hbm.churn ∧ u.dev.hbm.churnB = s.dev.hbm.churnB)
          ∧ (logBlock b = true → f.otherBad = true → lost u.dev b = true ∧ ((logBits b).isSome = true → lost u.dev (logTwin b) = true)
              ∧ u.dev.rd Obj.hbmCounters k 255 192 = (s.dev.rd Obj.hbmCounters k 255 192 + 1) % 2 ^ 64
              ∧ u.dev.condition 0x14 0 = true ∧ u.dev.Reported 0x14 0)
          ∧ (logBlock b = false → answers → current → f.otherBad = false →
              u.dev.rd Obj.hbmCounters k 319 256 = (s.dev.rd Obj.hbmCounters k 319 256 + 1) % 2 ^ 64
              ∧ u.dev.hbm.poison = s.dev.hbm.poison)
          ∧ (logBlock b = false → returns → current →
              setHas u.dev.hbm.waitHeal (blockKey k b) = true ∧ u.dev.hbm.poison = s.dev.hbm.poison
              ∧ (s.dev.stackState t = 4 → u.dev.stackState t = 6))
          ∧ (logBlock b = false → answers ∧ f.otherBad = true ∨ ¬ current ∨ ¬ answers ∧ ¬ returns →
              lost u.dev b = true ∧ u.dev.rd Obj.hbmCounters k 255 192 = (s.dev.rd Obj.hbmCounters k 255 192 + 1) % 2 ^ 64
              ∧ u.dev.condition 0x14 0 = true ∧ u.dev.Reported 0x14 0))))
  ∧ (∀ (s : State) (k : Nat) (r : HbmRequest), k < 4 → r.wf = true → s.dev.state ≠ St.reset →
    ∃ t, exec (.hbmResponseTimeout k r) s = .next t ∧ t.dev.Reported 0x16 (0x900 + k)
      ∧ ((∃ pc, r = .commandParity pc) → t.dev.chart = s.dev.chart ∧ t.dev.hbm = s.dev.hbm)
      ∧ ((∀ pc, r ≠ .commandParity pc) →
        (s.dev.stackState k ≠ 8 → t.dev.chart = s.dev.chart
          ∧ t.dev.hbm = { s.dev.hbm with unanswered := s.dev.hbm.unanswered ++ [(k, r)] })
        ∧ (s.dev.stackState k = 8 → (∀ x ∈ t.dev.hbm.unanswered, x.1 ≠ k) ∧ (∀ b, r = .tableWrite b → t.dev.churnSet k b = true)
          ∧ ∀ n p x, r = .vatRead n → (∀ y ∈ s.dev.hbm.unanswered ++ s.dev.hbm.discarded, y.1 ≠ k) → x.good = true →
            (s.dev.tm.transmit.find? fun kv => kv.2.entry.cells.contains (hbmCell k n)) = some (p, x) →
            mapGet? t.dev.tm.transmit p = some { x with good := false }
              ∧ t.dev.rd Obj.bufStatus 0 127 64 = (s.dev.rd Obj.bufStatus 0 127 64 + 1) % 2 ^ 64)))
  ∧ ∀ (d : Device) (c : Clk) (k : Nat), k < 4 → d.stackState k ≠ 8 →
    (d.fenceStack c k).stackState k = 8 ∧ (∀ x ∈ (d.fenceStack c k).hbm.unanswered, x.1 ≠ k)
      ∧ ∀ b, (k, HbmRequest.tableWrite b) ∈ d.hbm.unanswered → (d.fenceStack c k).churnSet k b = true

/-! ### The traffic manager and transmission (chapter 13) -/

/-- The refill instant (R283, R284): every record's shadowed values take effect, and every bucket of the device gains its rate in
millibytes, up to its burst × 1,000; a bucket with rate 0 is full. Flushes and policers (R285, R286, R288): a flush ends with BUSY clear
and its count kept; a policer gives each packet the colour of RFC 2698 or RFC 4115, debiting the buckets R286 names, which it never
overdraws, no colour being better than its input, 0b11 read as red; an enabled policer's buckets are debited whatever their rates, and its
result is counted; a punt passes when both buckets hold its size and debits both, and is otherwise counted in its group. -/
def Obligations.BucketsAndPolicing : Prop :=
  (
    ∀ s : State, ∃ t, exec .shaperRefill s = .next t ∧ t.dev.tm.applied = []
      ∧ (∀ k, let r := ratesOf k (if k / 2 ^ 20 = kAggregate then 0 else s.dev.node k)
          t.dev.rates k = r
          ∧ (r.1 = 0 → (t.dev.tokens k).1 = r.2.1 * 1000) ∧ (r.2.2.1 = 0 → (t.dev.tokens k).2 = r.2.2.2 * 1000)
          ∧ (r.1 ≠ 0 → (t.dev.tokens k).1 = min (min (s.dev.tokens k).1 (r.2.1 * 1000) + r.1) (r.2.1 * 1000))
          ∧ (r.2.2.1 ≠ 0 → (t.dev.tokens k).2 = min (min (s.dev.tokens k).2 (r.2.2.2 * 1000) + r.2.2.1) (r.2.2.2 * 1000)))
      ∧ t.dev.chart = s.dev.chart ∧ t.dev.buf = s.dev.buf)
  ∧ (
    (∀ (s : State) (rs : List (Nat × Nat)), s.dev.tm.flush = some rs →
      ∃ t, exec .flushComplete s = .next t ∧ t.dev.tm.flush = none ∧ t.dev.rd Obj.tmFlushStatus 0 63 63 = 0
        ∧ t.dev.rd Obj.tmFlushStatus 0 31 0 = s.dev.rd Obj.tmFlushStatus 0 31 0 ∧ t.dev.buf = s.dev.buf
        ∧ ElementSame Obj.tmFlushStatus 0 s.dev t.dev)
    ∧ (∀ (m : Bool) (input : Nat) (b tc tp : Int), input ≤ 2 → 0 < b →
      let r := meter m input b tc tp
      input ≤ r.1 ∧ r.1 ≤ 2 ∧ (0 ≤ tc → 0 ≤ r.2.1) ∧ (0 ≤ tp → 0 ≤ r.2.2)
      ∧ r.2.1 ≤ tc ∧ r.2.2 ≤ tp ∧ (r.1 = 2 → r.2 = (tc, tp))
        ∧ (r.1 = 0 → r.2.1 = tc - b))
    ∧ (∀ (input : Nat) (b tc tp : Int), input ≤ 2 →
      let red := (2, tc, tp)
      (input = 2 ∨ tp < b → meter false input b tc tp = red)
      ∧ (input ≠ 2 → b ≤ tp → (input = 1 ∨ tc < b) → meter false input b tc tp = (1, tc, tp - b))
      ∧ (input = 0 → b ≤ tp → b ≤ tc → meter false input b tc tp = (0, tc - b, tp - b))
      ∧ (input = 0 → b ≤ tc → meter true input b tc tp = (0, tc - b, tp))
      ∧ ((input = 1 ∨ input = 0 ∧ tc < b) → b ≤ tp → meter true input b tc tp = (1, tc, tp - b))
      ∧ ((input = 2 ∨ tp < b) → (input ≠ 0 ∨ tc < b) → meter true input b tc tp = red))
    ∧ (∀ (d : Device) (n bytes colour : Nat), n < 131072 → colour < 4 →
      let v := d.node (recKey kPolicer n)
      let b : Int := max 1000 (((bytes : Int) + toSigned 8 (fld v 183 176)) * 1000)
      let input := if colour = 3 then 2 else colour
      let r := meter (bit v 190) (if bit v 189 then input else 0) b (d.tokens (recKey kPolicer n)).1 (d.tokens (recKey kPolicer n)).2
      (bit v 191 = true → (d.police n bytes colour).1 = r.1 ∧ (d.police n bytes colour).2.tokens (recKey kPolicer n) = r.2)
      ∧ (bit v 191 = false → (d.police n bytes colour).1 = input ∧ (d.police n bytes colour).2.tm = d.tm)
      ∧ (d.police n bytes colour).2.rd Obj.polCounters (n / 32768) (64 * (3 - (d.police n bytes colour).1) - 1)
          (64 * (2 - (d.police n bytes colour).1))
        = (d.rd Obj.polCounters (n / 32768) (64 * (3 - (d.police n bytes colour).1) - 1) (64 * (2 - (d.police n bytes colour).1)) + 1) % 2 ^ 64)
    ∧ ∀ (d : Device) (reason len : Nat), reason < 65536 →
      let k := recKey kPunt (reason / 4096)
      let a := recKey kAggregate 0
      let size : Int := (min len 8950 + 70 : Nat) * 1000
      let pass := (d.rates k).1 ≠ 0 ∧ size ≤ (d.tokens k).1 ∧ size ≤ (d.tokens a).1
      (pass → (d.puntPolice reason len).1 = true ∧ ((d.puntPolice reason len).2.tokens k).1 = (d.tokens k).1 - size
        ∧ ((d.puntPolice reason len).2.tokens a).1 = (d.tokens a).1 - size ∧ (d.puntPolice reason len).2.chart = d.chart)
      ∧ (¬ pass → (d.puntPolice reason len).1 = false ∧ (d.puntPolice reason len).2.tm = d.tm
        ∧ (d.puntPolice reason len).2.get Obj.tmPuntDrops (reason / 4096) = (d.get Obj.tmPuntDrops (reason / 4096) + 1) % 2 ^ 64))

/-- A selection (R277 to R281, R283): whenever a queue of the instance is eligible one is chosen, and only an eligible one; its head
packet moves to the egress stage of its port, each node above it is debited the charged length in its applied buckets, and the deficits of
the queue and of each node lose it. A port is chosen, then its service node, its subscriber, its queue, each by the order of
SelectionOrder. The order of a selection at one level (R279, R280): the band is of the children whose committed bucket is applied and
holds tokens, where the level has one and any child does, and of those only the children of the highest priority. Deficit round robin
gives every member whole quanta, the fewest after which one has a deficit of 0 or more, each held to its quantum; and takes the first
member with such a deficit, in rising node number after the one taken last, and from the lowest where none is above it. -/
def Obligations.SchedulerSelection : Prop :=
  (
    ∀ (s : State) (i : Nat), i < 8 →
      (s.dev.eligible s.clk i ≠ [] → (s.dev.choosePath s.clk i).isSome = true)
      ∧ (s.dev.eligible s.clk i = [] → exec (.schedulerSelect i) s = .next s)
      ∧ ∀ q v p d1 e rest, s.dev.choosePath s.clk i = some (q, v, p, d1) → s.dev.queue q = e :: rest →
          let el := s.dev.eligible s.clk i
          (q, v, p) ∈ el
          ∧ (∃ mp mv ms mq dp dv ds, mp.num = p ∧ mv.num = v ∧ ms.num = q / 8 ∧ mq.num = q
            ∧ s.dev.drr (recKey kInstance i) (s.dev.band true (members (s.dev.nodeMember kPort) (el.map fun x => x.2.2))) = some (mp, dp)
            ∧ dp.drr (recKey kPort p) (dp.band true (members (dp.nodeMember kService)
                ((el.filter fun x => x.2.2 == p).map fun x => x.2.1))) = some (mv, dv)
            ∧ dv.drr (recKey kService v) (dv.band true (members (dv.nodeMember kSubscriber)
                ((el.filter fun x => x.2.2 == p && x.2.1 == v).map fun x => x.1 / 8))) = some (ms, ds)
            ∧ ds.drr (recKey kSubscriber (q / 8)) (ds.band false (members ds.queueMember
                ((el.filter fun x => x.2.2 == p && x.2.1 == v && x.1 / 8 == q / 8).map fun x => x.1))) = some (mq, d1))
          ∧ ∃ t, exec (.schedulerSelect i) s = .next t ∧ t.dev.queue q = rest
            ∧ (∀ j, j ≠ q → t.dev.queue j = s.dev.queue j)
            ∧ mapGet t.dev.tm.egress p [] = mapGet s.dev.tm.egress p [] ++ [{ queue := q, entry := e }]
            ∧ (v < 65536 → p < 65536 → ∀ k ∈ [recKey kPort p, recKey kService v, recKey kSubscriber (q / 8)],
                let ch := s.dev.charged p e.packet.length * 1000
                let r := s.dev.rates k
                t.dev.tokens k = (if r.1 = 0 then (s.dev.tokens k).1 else (s.dev.tokens k).1 - ch,
                  if r.2.2.1 = 0 then (s.dev.tokens k).2 else (s.dev.tokens k).2 - ch))
            ∧ (rest ≠ [] → ∀ k ∈ [recKey kPort p, recKey kService v, recKey kSubscriber (q / 8), recKey kQueue q],
                t.dev.deficit k = d1.deficit k - s.dev.charged p e.packet.length))
  ∧ (
    (∀ (d : Device) (committed : Bool) (ms : List Member) (m : Member),
      let holds (x : Member) : Prop := (d.rates x.key).1 ≠ 0 ∧ 0 ≤ (d.tokens x.key).1
      let served (x : Member) : Prop := committed = true → (∃ y ∈ ms, holds y) → holds x
      m ∈ d.band committed ms ↔ m ∈ ms ∧ served m ∧ ∀ x ∈ ms, served x → x.priority ≤ m.priority)
    ∧ ∀ (d : Device) (parent : Nat) (b : List Member), (b.map Member.key).Nodup → (b.map Member.num).Nodup → b ≠ [] →
      let q (x : Member) : Int := max 1 (x.weight * 64 : Nat)
      ∃ m d', d.drr parent b = some (m, d') ∧ m ∈ b ∧ mapGet? d'.tm.last parent = some m.num
        ∧ ((∃ x ∈ b, 0 ≤ d.deficit x.key) → ∀ k, d'.deficit k = d.deficit k)
        ∧ ((∀ x ∈ b, d.deficit x.key < 0) → ∃ n : Nat, (∃ x ∈ b, 0 ≤ d.deficit x.key + n * q x)
            ∧ (∀ k : Nat, k < n → ∀ x ∈ b, d.deficit x.key + k * q x < 0)
            ∧ ∀ x ∈ b, d'.deficit x.key = min (d.deficit x.key + n * q x) (q x))
        ∧ 0 ≤ d'.deficit m.key
        ∧ ∀ x ∈ b, 0 ≤ d'.deficit x.key →
            match mapGet? d.tm.last parent with
            | none => m.num ≤ x.num
            | some l => if ∃ y ∈ b, 0 ≤ d'.deficit y.key ∧ l < y.num then l < m.num ∧ (l < x.num → m.num ≤ x.num) else m.num ≤ x.num)

/-- Gates (R289 to R293): a pending list operates from its ChangeTime, and before it nothing changes; at each entry the gates are those of
the entry in force; a frame in transmission whose gate has closed is kept to be counted when it ends. ChangeTime opens every class of the
list's first entry, and a class opens as its gate does: the head packets of its queues that need longer than its longest window are then
discarded and counted in TasOversize, up to the first that fits, unless the window is 0, the class is paused, the queue is being flushed, or
the device is SAFE; no other queue loses a packet. With EN 0 applied no list operates, and only a queue whose gate was closed can lose a
packet, held against the windows kept (the model's reading, log 76). -/
def Obligations.Gates : Prop :=
  let window (d : Device) (port cls : Nat) : Nat := d.rd Obj.tasStatus port (255 - 32 * cls) (224 - 32 * cls)
  let needs (d : Device) (port : Nat) (e : QEntry) : Nat :=
    ceilDiv ((max e.packet.length 60 + 4 + 20) * 8) (d.speed port) + ceilDiv 10280 (d.speed port)
  let examined (d : Device) (port opened q : Nat) : Bool :=
    decide (d.state ≠ St.safe) && decide (q ∈ d.queuesBelow (recKey kPort port)) && bit opened (q % 8) && window d port (q % 8) != 0
      && !d.classPaused port (q % 8) && !d.flushed q
  let left (d : Device) (port opened q : Nat) : List QEntry :=
    if examined d port opened q = true then (d.queue q).dropWhile fun e => decide (window d port (q % 8) < needs d port e) else d.queue q
  let examines (d d' : Device) (port opened : Nat) : Prop :=
    (∀ q, d'.queue q = left d port opened q)
      ∧ ∀ cls, cls < 8 → d'.rd Obj.tmPortClassCounters (port * 8 + cls) 127 64
          = (d.rd Obj.tmPortClassCounters (port * 8 + cls) 127 64
              + (((d.queuesBelow (recKey kPort port)).eraseDups.filter fun q => q % 8 == cls).map fun q =>
                  (d.queue q).length - (left d port opened q).length).sum) % 2 ^ 64
  (∀ (s : State) (port : Nat) (g : GateList), port < 256 → mapGet? s.dev.tm.gatePending port = some g →
    (s.clk.nsTotal < g.change → exec (.tasChangeTime port) s = .next s)
    ∧ (g.change ≤ s.clk.nsTotal →
      ∃ t, exec (.tasChangeTime port) s = .next t ∧ mapGet? t.dev.tm.gatePending port = none
        ∧ mapGet? t.dev.tm.gateOper port = some g ∧ mapGet t.dev.tm.gates port 255 = t.dev.gatesNow port s.clk.nsTotal
        ∧ t.dev.rd Obj.tasStatus port 511 504 = 2 ∧ t.dev.rd Obj.tasStatus port 495 480 = g.entries.length % 65536
        ∧ t.dev.rd Obj.tasStatus port 479 448 = g.cycle % 2 ^ 32
        ∧ examines s.dev t.dev port (((g.entries.head?.map Prod.fst).getD 0)
            ||| (t.dev.gatesNow port s.clk.nsTotal &&& (255 - mapGet s.dev.tm.gates port 255 % 256)))))
  ∧ (∀ (d : Device) (c : Clk) (port : Nat), port < 256 → bit (d.get Obj.tasAdmin port) 255 = false →
    let opened := 255 - mapGet d.tm.gates port 255 % 256
    ∃ d', d.writeTasApply c port 1 = .ok d' ∧ mapGet? d'.tm.gatePending port = none ∧ mapGet? d'.tm.gateOper port = none
      ∧ mapGet d'.tm.gates port 255 = 255 ∧ d'.rd Obj.tasStatus port 511 504 = 0
      ∧ ∀ q, bit opened (q % 8) = false → d'.queue q = d.queue q)
  ∧ ∀ (s : State) (port : Nat) (g : GateList), port < 256 → mapGet? s.dev.tm.gateOper port = some g →
    let opened := s.dev.gatesNow port s.clk.nsTotal &&& (255 - mapGet s.dev.tm.gates port 255 % 256)
    ∃ t, exec (.gateEntryStart port) s = .next t
      ∧ mapGet t.dev.tm.gates port 255 = s.dev.gatesNow port s.clk.nsTotal ∧ t.dev.tm.gateOper = s.dev.tm.gateOper
      ∧ t.dev.tm.transmit = s.dev.tm.transmit
      ∧ (∀ x, mapGet? s.dev.tm.transmit port = some x → bit (s.dev.gatesNow port s.clk.nsTotal) (x.queue % 8) = false →
          setHas t.dev.tm.gateCut port = true)
      ∧ examines s.dev t.dev port opened

/-- Transmission (R75, R78, R228, R230, R246, R265, R293, R294): a port that is up starts its first selected frame unless its class is
paused; the frame's sojourn is counted; corrected errors, each counted for its stack, and link words with one good copy leave it whole;
uncorrectable data and cells whose read was lost (R342) spoil its FCS, and it is counted once; a chain of which both copies of a link word
fail is cut there, what is lost counted, and reported. At its end it is sent, its cells are freed and no others, it is counted, and so is
an overrun of its gate; in SAFE no frame ends (the model's reading, log 20). -/
def Obligations.Transmission : Prop :=
  (∀ (s : State) (port : Nat) (found : List CellFinding) (x : Selected) (rest : List Selected), port < 256 →
    mapGet s.dev.tm.egress port [] = x :: rest → mapGet? s.dev.tm.transmit port = none →
    ((s.dev.portUp port = false ∨ s.dev.classPaused port (x.queue % 8) = true) → exec (.frameTransmitStart port found) s = .next s)
    ∧ (s.dev.portUp port = true → s.dev.classPaused port (x.queue % 8) = false →
      let cells := x.entry.cells
      let lost := cells.any (setHas s.dev.buf.lostReads)
      let cuts (fs : List CellFinding) : Bool := fs.any fun f => match f with
        | .link k .double .double => decide (k < cells.length)
        | _ => false
      let spoils (fs : List CellFinding) : Bool := fs.any fun f => match f with
        | .dataBad k => decide (k < cells.length)
        | _ => false
      let corrects (stack : Nat) (f : CellFinding) : Bool := match f with
        | .single k => (cells[k]?).any fun a => cellHbm a && cellStack a == stack
        | _ => false
      let bin := histBin (s.dev.get Obj.tmHistEdges port) (shortDiff s.clk.short (fld x.entry.record 447 416))
      ∃ t y, exec (.frameTransmitStart port found) s = .next t ∧ mapGet t.dev.tm.egress port [] = rest
        ∧ mapGet? t.dev.tm.transmit port = some y ∧ y.queue = x.queue ∧ t.dev.buf.cells = s.dev.buf.cells ∧ bin < 16
        ∧ setHas t.dev.tm.gateCut port = !bit (s.dev.gatesNow port s.clk.nsTotal) (x.queue % 8)
        ∧ t.dev.rd Obj.tmHistogram port (64 * (16 - bin) - 1) (64 * (15 - bin))
            = (s.dev.rd Obj.tmHistogram port (64 * (16 - bin) - 1) (64 * (15 - bin)) + 1) % 2 ^ 64
        ∧ (cuts found = false →
            (∀ k, k < 4 → t.dev.rd Obj.hbmCounters k 447 384
              = (s.dev.rd Obj.hbmCounters k 447 384 + (found.filter (corrects k)).length) % 2 ^ 64) ∧
            y.good = !(lost || spoils found) ∧ y.entry.cells = cells
            ∧ t.dev.rd Obj.bufStatus 0 127 64 = (s.dev.rd Obj.bufStatus 0 127 64 + if lost || spoils found then 1 else 0) % 2 ^ 64
            ∧ (x.entry.copy = true ∨ fld x.entry.record 255 254 = 0 → y.entry.packet = padTo 60 x.entry.packet))
        ∧ ∀ k a before after, found = before ++ .link k .double .double :: after → cells[k]? = some a →
            cuts before = false → cuts after = false →
            let kept := s.dev.chainFrom (cells.headD a) (k + 1)
            y.good = false ∧ y.entry.cells = kept
            ∧ t.dev.rd Obj.bufStatus 0 191 128 = (s.dev.rd Obj.bufStatus 0 191 128 + (cells.length - kept.length)) % 2 ^ 64
            ∧ (s.dev.state ≠ St.reset → t.dev.Reported 0x0D (cellTarget a))))
  ∧ ∀ (s : State) (port : Nat) (x : Transmit), port < 256 → mapGet? s.dev.tm.transmit port = some x →
    (s.dev.state = St.safe → exec (.frameTransmitEnd port) s = .next s)
    ∧ (s.dev.state ≠ St.safe →
      let late := setHas s.dev.tm.gateCut port || !bit (s.dev.gatesNow port s.clk.nsTotal) (x.queue % 8)
      ∃ t, exec (.frameTransmitEnd port) s = .next t ∧ mapGet? t.dev.tm.transmit port = none
        ∧ t.dev.ports.sent = s.dev.ports.sent ++ [{ port := port, frame := x.entry.packet, fcsGood := x.good }]
        ∧ (∀ a, setHas t.dev.buf.cells a = (setHas s.dev.buf.cells a && !x.entry.cells.contains a))
        ∧ t.dev.rd Obj.tasStatus port 351 320 = (s.dev.rd Obj.tasStatus port 351 320 + if late then 1 else 0) % 2 ^ 32
        ∧ t.dev.rd Obj.portCounters port 639 576 = (s.dev.rd Obj.portCounters port 639 576 + 1) % 2 ^ 64
        ∧ t.dev.rd Obj.portCounters port 575 512 = (s.dev.rd Obj.portCounters port 575 512 + x.entry.packet.length + 4) % 2 ^ 64
        ∧ t.dev.rd Obj.tmPortClassCounters (port * 8 + x.queue % 8) 255 192
            = (s.dev.rd Obj.tmPortClassCounters (port * 8 + x.queue % 8) 255 192 + 1) % 2 ^ 64)

/-! ### Device time (chapter 14) -/

/-- A tick (R296, R310): device time advances by TIME.Increment, seconds wrapping at 2^48, and a carry into a new second makes a pulse
due; before the Pilot's reset release and without the time clock it stands still. No register changes but, at every 1 ms, the power
measurements (R394); the Lookout's waiting events are marked as detected before it. That a tick counts reference time even where device
time stands still, that it stands still without the time clock, and the instants of the measurements, is the model's choice (logs 5, 60,
85). Phase steps and sets (R299, R300): a step within JumpLimit is added to seconds and nanoseconds and counted, one beyond it is refused,
counted and reported; the first write of TIME.Now sets device time, a later one steps it; JUMP_REFUSED clears with a write of 1. The pulse
pins (R310, R311): a due pulse rises and falls, and neither moves device time; a captured edge stores device time and is counted, and an
edge within 1 µs of it is ignored. -/
def Obligations.TimeAdvances : Prop :=
  (
    ∀ s : State,
      let inc := s.dev.get Obj.timeIncrement 0
      let n := s.clk.ticks + 1
      let d0 := (if n % 1250000 = 0 ∧ s.dev.pwr.good = true then s.dev.powerUpdate n else s.dev).lookTick
      (s.dev.timeRuns = true → s.clk.Legal → inc < 1000000000 * 2 ^ 32 →
        ∃ t, exec .timeTick s = .next t ∧ t.clk.Legal ∧ t.clk.total = (s.clk.total + inc) % (2 ^ 48 * 1000000000 * 2 ^ 32)
          ∧ t.clk.ticks = s.clk.ticks + 1 ∧ t.dev = { d0 with time := t.dev.time }
          ∧ (s.dev.ppsEnabled = true → t.dev.time.ppsDue = (s.dev.time.ppsDue || decide (t.clk.sec ≠ s.clk.sec))
              ∧ t.dev.time.ppsOut = s.dev.time.ppsOut)
          ∧ (s.dev.ppsEnabled = false → t.dev.time.ppsDue = false ∧ t.dev.time.ppsOut = false))
      ∧ (s.dev.timeRuns = false → exec .timeTick s = .next { s with clk := { s.clk with ticks := n }, dev := d0 }))
  ∧ (
    (∀ (c : Clk) (d : Device) (x : Int), c.Legal →
      (x.natAbs ≤ d.get Obj.timeJumpLimit 0 →
        ∃ c' d', timeStep c d x = (0, c', d') ∧ c'.Legal ∧ c'.frac = c.frac ∧ c'.ticks = c.ticks
          ∧ (c'.nsTotal : Int) = (c.nsTotal + x) % (2 ^ 48 * 1000000000)
          ∧ d'.rd Obj.timeCounters 0 319 256 = (d.rd Obj.timeCounters 0 319 256 + 1) % 2 ^ 64 ∧ ElementSame Obj.timeCounters 0 d d')
      ∧ (d.get Obj.timeJumpLimit 0 < x.natAbs →
        ∃ d', timeStep c d x = (stType, c, d') ∧ d'.get Obj.timeJumpRefused 0 = 1
          ∧ d'.rd Obj.timeCounters 0 255 192 = (d.rd Obj.timeCounters 0 255 192 + 1) % 2 ^ 64
          ∧ (d.state ≠ St.reset → d'.Reported 0x28 4) ∧ ChartSame [Obj.timeJumpRefused, Obj.timeCounters] d d'))
    ∧ (∀ (c : Clk) (d : Device) (v : Nat), fld v 31 0 < 1000000000 →
      (bit (d.get Obj.timeStatus 0) 0 = false →
        ∃ c' d', writeTimeNow c d v = (0, c', d') ∧ c'.sec = fld v 79 32 ∧ c'.ns = fld v 31 0 ∧ c'.frac = 0
          ∧ d'.get Obj.timeStatus 0 = 1 ∧ ElementSame Obj.timeStatus 0 d d')
      ∧ (bit (d.get Obj.timeStatus 0) 0 = true → writeTimeNow c d v = timeStep c d ((nsOfTime80 v : Int) - c.nsTotal)))
    ∧ ∀ (c : Clk) (d : Device) (orig : Nat) (r : ObjInfo), objInfo? Obj.timeJumpRefused = some r →
      d.get Obj.timeJumpRefused 0 = 1 →
      ∃ d', writeElement c d orig r 0 1 = (0, c, d') ∧ d'.get Obj.timeJumpRefused 0 = 0 ∧ ElementSame Obj.timeJumpRefused 0 d d')
  ∧ (
    (∀ s : State, s.dev.time.ppsDue = true → s.dev.ppsEnabled = true →
      ∃ t, exec .ppsOutRise s = .next t ∧ t.dev.time.ppsOut = true ∧ t.dev.time.ppsDue = false ∧ t.clk = s.clk ∧ t.dev.chart = s.dev.chart)
    ∧ (∀ s : State, s.dev.time.ppsOut = true →
      ∃ t, exec .ppsOutFall s = .next t ∧ t.dev.time.ppsOut = false ∧ t.dev.time.ppsDue = s.dev.time.ppsDue ∧ t.clk = s.clk
        ∧ t.dev.chart = s.dev.chart)
    ∧ ∀ s : State, s.dev.state ≠ St.reset →
      (s.dev.ppsTooSoon s.clk = true → exec .ppsCapture s = .next s)
      ∧ (s.dev.ppsTooSoon s.clk = false →
        ∃ t, exec .ppsCapture s = .next t ∧ t.dev.rd Obj.ppsCapture 0 79 0 = s.clk.time80
          ∧ t.dev.rd Obj.ppsCapture 0 127 96 = (s.dev.rd Obj.ppsCapture 0 127 96 + 1) % 2 ^ 32
          ∧ t.dev.rd Obj.timeCounters 0 191 128 = (s.dev.rd Obj.timeCounters 0 191 128 + 1) % 2 ^ 64
          ∧ t.dev.ppsTooSoon s.clk = true ∧ t.clk = s.clk
          ∧ (s.dev.get Obj.ppsNotify 0 ≠ 1 → t.dev.mgmt = s.dev.mgmt)))

/-- A write of TIME.Increment (R297): out of range it is refused with TYPE and changes nothing; in range it changes no device time, and
every tick from then on adds it. -/
def Obligations.TimeIncrement : Prop :=
  (∀ (c : Clk) (d : Device) (orig v : Nat) (r : ObjInfo), objInfo? Obj.timeIncrement = some r →
    writeElement c d orig r 0 v
      = if v < 3434255850 ∨ 3437691824 < v then (stType, c, d) else (0, c, d.set Obj.timeIncrement 0 v))
  ∧ ∀ (s : State) (v : Nat), s.clk.Legal → s.dev.timeRuns = true → s.dev.get Obj.timeIncrement 0 = v →
    3434255850 ≤ v → v ≤ 3437691824 →
    ∃ t, exec .timeTick s = .next t ∧ t.clk.total = (s.clk.total + v) % (2 ^ 48 * 1000000000 * 2 ^ 32)
      ∧ t.dev.get Obj.timeIncrement 0 = v

/-- The key builder's profile (R98): KEY.ClassMap[slice × 256 + class], the class being the one this pass has given, recirculated or not.
The hash input (R102): the selected segments in increasing number, two bytes each with the more significant first; a hash that is not
enabled, or selects nothing, has the value 0. -/
def Obligations.KeysAndHashes : Prop :=
  (
    ∀ (d : Device) (c : Clk) (slice record : Nat) (frame : Bytes) (recirc injected : Bool) (winners : NMap WinnerCheck), slice < 4 →
      (d.pass c slice record frame recirc injected winners).profile
        = d.get Obj.keyClassMap (slice * 256 + (parseFrame frame recirc injected).cls))
  ∧ (
    ∀ (d : Device) (slice profile h : Nat) (segs : List (Nat × Bool)), segs.length = 40 →
      let w := d.get Obj.keyHash (slice * 192 + profile * 3 + h)
      let input : Bytes := ((List.range 40).filter fun k => bit w (16 + k)).flatMap fun k =>
        [BitVec.ofNat 8 ((segs.getD k (0, false)).1 / 256), BitVec.ofNat 8 (segs.getD k (0, false)).1]
      (bit w 63 = false ∨ (∀ k, k < 40 → bit w (16 + k) = false) → d.hash slice profile h segs = 0)
      ∧ (bit w 63 = true → (∃ k, k < 40 ∧ bit w (16 + k) = true) →
        d.hash slice profile h segs = if bit w 62 = true then toeplitz (d.get Obj.hashToeplitzKey 0) input else crc32c input))

/-! ### The Lookout (chapter 15) -/

/-- Event handling (R315, R317, R318, R326): an accepted event is counted at its source; severity 0 leaves no more trace; severity 1 sets
NOTED of its source and target and writes a history record, or is counted in the record it coalesces into; FAULT_N then stands as R325 says.
What severity 0 leaves out is the model's reading (log 53). -/
def Obligations.EventHandling : Prop :=
  ∀ (s : State) (r : Report) (rest : List Report), s.dev.look.waiting = r :: rest → s.dev.state ≠ St.reset → r.source < 256 →
    r.target < 65536 → r.code < 65536 →
    let sev := (({ s.dev with look := { s.dev.look with waiting := rest } } : Device).pruneReactions.rate s.clk r).1
    let n := s.dev.historyCount
    (sev ≤ 1 → ∃ t, exec .lookoutEventAccept s = .next t ∧ t.dev.look.waiting = rest
      ∧ t.dev.get Obj.lookSourceCount r.source = (s.dev.get Obj.lookSourceCount r.source + r.count) % 2 ^ 64
      ∧ (sev = 0 → ChartSame [Obj.lookSourceCount, Obj.lookCounters] s.dev t.dev ∧ t.dev.look.faultN = s.dev.look.faultN)
      ∧ (sev = 1 → bit (t.dev.get Obj.lookSourceStatus r.source) 0 = true
          ∧ (targetKnown r.target = true → bit (t.dev.get Obj.lookUnitStatus r.target) 0 = true)
          ∧ t.dev.look.faultN = if t.dev.degraded ≠ 0 ∨ t.dev.state = St.safe then .low else .high)
      ∧ (sev = 1 → s.dev.recordOf s.clk r.target = none →
          t.dev.historyCount = (n + 1) % 2 ^ 32 ∧ t.dev.rd Obj.lookHistory (n % 32) 255 248 = r.source
          ∧ t.dev.rd Obj.lookHistory (n % 32) 247 232 = r.target ∧ t.dev.rd Obj.lookHistory (n % 32) 231 216 = r.code
          ∧ t.dev.rd Obj.lookHistory (n % 32) 215 214 = 1 ∧ t.dev.rd Obj.lookHistory (n % 32) 207 192 = min (r.count - 1) 65535
          ∧ t.dev.rd Obj.lookHistory (n % 32) 159 80 = s.clk.time80
          ∧ t.dev.rd Obj.lookHistory (n % 32) 79 48 = n)
      ∧ ∀ m, sev = 1 → s.dev.recordOf s.clk r.target = some m → 1 ≤ s.dev.rd Obj.lookHistory (m % 32) 215 214 →
          t.dev.historyCount = n
          ∧ t.dev.rd Obj.lookHistory (m % 32) 207 192 = addSat 16 (s.dev.rd Obj.lookHistory (m % 32) 207 192) r.count)

/-- Reactions (R317, R321, R325, R327, R329): a severity-2 event against a work queue sets DEGRADE, drives FAULT_N low, fences the queue,
opens its shadow and says REACTED; a severity-3 event, and a disagreement or a parity error of the Lookout's own, enter SAFE: no packet in
flight, FAULT_N low, and a dump asked for, behind which the requested ones not started wait. In SAFE the latter two change nothing. That
SAFE leaves no packet in flight, that the Lookout's own failure drops the events that wait, the order of the dumps, and that a reaction
takes effect as its event is accepted, are the model's reading (logs 20, 21, 27, 30). -/
def Obligations.ReactionsAndSafe : Prop :=
  (∀ (s : State) (r : Report) (rest : List Report), s.dev.look.waiting = r :: rest → s.dev.state ≠ St.reset → s.dev.state ≠ St.safe →
    r.source < 256 →
    let sev := (({ s.dev with look := { s.dev.look with waiting := rest } } : Device).pruneReactions.rate s.clk r).1
    (∀ q, q < 32 → r.target = 0xB00 + q → sev = 2 → s.dev.recordOf s.clk r.target = none → s.dev.get Obj.wqFenced q = 0 →
      ∃ t, exec .lookoutEventAccept s = .next t ∧ t.dev.get Obj.wqFenced q = 1 ∧ t.dev.get Obj.wqEnable q = 0
        ∧ bit (t.dev.get Obj.lookSourceStatus r.source) 1 = true ∧ bit (t.dev.get Obj.lookUnitStatus r.target) 1 = true
        ∧ t.dev.look.faultN = .low ∧ setHas t.dev.look.shadows r.target = true
        ∧ t.dev.rd Obj.lookHistory (s.dev.historyCount % 32) 210 210 = 1)
    ∧ (sev = 3 → s.dev.recordOf s.clk r.target = none →
      ∃ t x, exec .lookoutEventAccept s = .next t ∧ t.dev.state = St.safe ∧ t.dev.sl.flights = [] ∧ t.dev.look.faultN = .low
        ∧ t.dev.look.dump = some x ∧ x.safe = true ∧ x.cause = 1))
  ∧ ∀ (s : State),
    (s.dev.state = St.safe → exec .copyMismatch s = .next s ∧ exec .lookoutParity s = .next s)
    ∧ (s.dev.state ≠ St.safe → s.dev.state ≠ St.reset →
      (∃ t x, exec .copyMismatch s = .next t ∧ t.dev.state = St.safe ∧ t.dev.sl.flights = [] ∧ t.dev.look.faultN = .low
        ∧ t.dev.look.dump = some x ∧ x.safe = true ∧ x.cause = 2 ∧ t.dev.look.asked = s.dev.dumpsAsked)
      ∧ ∃ t x, exec .lookoutParity s = .next t ∧ t.dev.state = St.safe ∧ t.dev.sl.flights = [] ∧ t.dev.look.faultN = .low
        ∧ t.dev.look.dump = some x ∧ x.safe = true ∧ x.cause = 3 ∧ t.dev.look.asked = s.dev.dumpsAsked)

/-- Shadows, statuses and unfences (R319, R322, R324): a shadow ends alone; a status bit that is set while its condition is present cannot
be cleared, and the refusal is counted; any other clear succeeds and clears the bits written with 1 only, of LOOK.UnitStatus and
LOOK.SourceStatus alike, of which a reserved target (R314) takes none; a blamed unit is not unfenced, nor
a cluster that R222 keeps, fenced or not (R322, log 58). -/
def Obligations.StatusesAndShadows : Prop :=
  (∀ (s : State) (u : Nat), u < 4096 →
    ∃ t, exec (.reactionShadowEnd u) s = .next t ∧ setHas t.dev.look.shadows u = false ∧ mapGet? t.dev.look.issued u = none
      ∧ (∀ v, v ≠ u → setHas t.dev.look.shadows v = setHas s.dev.look.shadows v) ∧ t.dev.chart = s.dev.chart
      ∧ t.dev.look.waiting = s.dev.look.waiting)
  ∧ (∀ (d : Device) (c : Clk) (e v : Nat), e < 65536 → d.get Obj.lookUnitStatus e < 4 →
    let hit := (bit (d.get Obj.lookUnitStatus e) 0 && bit v 0) || (bit (d.get Obj.lookUnitStatus e) 1 && bit v 1)
    (targetKnown e = false → d.writeUnitStatus c e v = (0, d))
    ∧ (targetKnown e = true → hit = true → d.targetCondition c e = true →
      (d.writeUnitStatus c e v).1 = stCondition ∧ ElementSame Obj.lookCounters 0 d (d.writeUnitStatus c e v).2
        ∧ (d.writeUnitStatus c e v).2.rd Obj.lookCounters 0 63 0 = (d.rd Obj.lookCounters 0 63 0 + 1) % 2 ^ 64)
    ∧ (targetKnown e = true → hit = false ∨ d.targetCondition c e = false →
      (d.writeUnitStatus c e v).1 = 0 ∧ ElementSame Obj.lookUnitStatus e d (d.writeUnitStatus c e v).2
        ∧ ∀ i, i < 2 → bit ((d.writeUnitStatus c e v).2.get Obj.lookUnitStatus e) i
            = (bit (d.get Obj.lookUnitStatus e) i && !bit v i)))
  ∧ (∀ (d : Device) (c : Clk) (e v : Nat), e < 256 → d.get Obj.lookSourceStatus e < 4 →
    let hit := (bit (d.get Obj.lookSourceStatus e) 0 && bit v 0) || (bit (d.get Obj.lookSourceStatus e) 1 && bit v 1)
    (hit = true → d.sourceCondition c e = true →
      (d.writeSourceStatus c e v).1 = stCondition ∧ ElementSame Obj.lookCounters 0 d (d.writeSourceStatus c e v).2
        ∧ (d.writeSourceStatus c e v).2.rd Obj.lookCounters 0 63 0 = (d.rd Obj.lookCounters 0 63 0 + 1) % 2 ^ 64)
    ∧ (hit = false ∨ d.sourceCondition c e = false →
      (d.writeSourceStatus c e v).1 = 0 ∧ ElementSame Obj.lookSourceStatus e d (d.writeSourceStatus c e v).2
        ∧ ∀ i, i < 2 → bit ((d.writeSourceStatus c e v).2.get Obj.lookSourceStatus e) i
            = (bit (d.get Obj.lookSourceStatus e) i && !bit v i)))
  ∧ ∀ (d : Device) (c : Clk) (u : Nat), u < 65536 →
    (unfences (unitOf u).1 = false → d.writeUnfence c u = .error stType)
    ∧ (unfences (unitOf u).1 = true → d.blamed u = true ∨ d.state = St.safe → d.writeUnfence c u = .error stBusy)
    ∧ (unfences (unitOf u).1 = true → (unitOf u).1 = .cluster → d.zeroRefused (unitOf u).2 = true → d.writeUnfence c u = .error stBusy)
    ∧ (unfences (unitOf u).1 = true → d.unfenceBusy u = false → d.unitFenced u = false →
        ((unitOf u).1 = .cluster → d.zeroRefused (unitOf u).2 = false) → d.writeUnfence c u = .ok d)

/-- The state dump (R331 to R333): a start marks its stores WRITING, in their headers too; a store that is done holds the whole image and is
COMPLETE, or PARTIAL where the dump was stopped; the dump ends when its last store does, and the next one asked for follows. What a stopped
dump holds is the model's reading (log 27). -/
def Obligations.StateDump : Prop :=
  (∀ (s : State) (x : Dumping), s.dev.pilotRuns = true → s.dev.dumpWaits = some x →
    ∃ t, exec .dumpStart s = .next t ∧ t.dev.dumpState false = 1
      ∧ t.dev.dumpState true = (if s.dev.dumpPlace.isSome = true then 1 else 0)
      ∧ t.dev.dumpTrigger = (if x.safe = true then 1 else 2) ∧ memRead t.dev.look.dumpStore 0 4 = natBe 4 0x5A504450
      ∧ memByte t.dev.look.dumpStore 6 = 1
      ∧ (∀ off, s.dev.dumpPlace = some off → memRead t.dev.hbm.dump off 4 = natBe 4 0x5A504450 ∧ memByte t.dev.hbm.dump (off + 6) = 1)
      ∧ ElementSame Obj.dumpStatus 0 s.dev t.dev)
  ∧ (∀ (s : State) (x : Dumping), s.dev.look.dump = some x → s.dev.dumpState false = 1 → (s.dev.pilotRuns = true ∨ x.stopped = true) →
    ∃ t, exec .onChipDumpDone s = .next t ∧ t.dev.dumpState true = s.dev.dumpState true
      ∧ (s.dev.dumpState true ≠ 1 → t.dev.look.dump = s.dev.look.asked.head?)
      ∧ (s.dev.dumpState true = 1 → t.dev.look.dump = some { x with onChip := true })
      ∧ (x.stopped = true → t.dev.dumpState false = 3)
      ∧ (x.stopped = false → t.dev.dumpState false = 2
          ∧ let img := s.dev.dumpImage x 2 (s.dev.commonSections s.clk)
            memRead t.dev.look.dumpStore 0 img.length = img))
  ∧ ∀ (s : State) (x : Dumping), s.dev.look.dump = some x → x.onChip = true → s.dev.dumpState true = 1 →
    (s.dev.pilotRuns = true ∨ x.stopped = true) →
    ∃ t, exec .hbmDumpDone s = .next t ∧ t.dev.look.dump = s.dev.look.asked.head? ∧ t.dev.look.asked = s.dev.look.asked.tail
      ∧ t.dev.dumpState false = s.dev.dumpState false
      ∧ (x.stopped = true → t.dev.dumpState true = 3)
      ∧ (s.dev.dumpState false = 3 → t.dev.dumpState true = 3
          ∧ memRead t.dev.hbm.dump (s.dev.rd Obj.dumpStatus 0 95 64) 64 = s.dev.dumpHeader x 3 0 64)
      ∧ (x.stopped = false → s.dev.dumpState false ≠ 3 → t.dev.dumpState true = 2
          ∧ let img := s.dev.dumpImage x 2 (s.dev.commonSections s.clk ++ s.dev.hbmSections)
            memRead t.dev.hbm.dump (s.dev.rd Obj.dumpStatus 0 95 64) img.length = img)

/-! ### Clocks and crossings (chapter 16) -/

/-- Crossings (R340, R341, R344): an access that times out leaves its crossing STALLED, counted and reported with its object, and the
access under way ends with TIMEOUT; the late acknowledge makes it IDLE; a pulse is requested at once, or waits with at most six others, or
is lost, counted and reported; an acknowledge is counted and sends what waits, as a multi-pulse where more than one waits; a block reset
leaves no request. That the access ends at its next use, that a crossing whose side is being reset goes on reading RESETTING, that every
access on 0x08 is the Sextant's and none a Chart access, and the acknowledge before the pulse where both come, is the model's (logs 34 and
48). Clocks and the Pilot's detectors (R337, Table 15.4): a PLL without lock stops its domain's clock, and the relock restarts it and is
counted; the reference's condition holds while it is off frequency; the Pilot's detectors report while they may. The frequency a locked
domain shows is the model's choice (log 39). -/
def Obligations.CrossingsAndClocks : Prop :=
  (
    (∀ (s : State) (x o : Nat), fabricCrossing x = true → o < 65536 →
      (x = 8 → o ≠ 0 → exec (.crossingAccessTimeout x o) s = .next s)
      ∧ (x ≠ 8 ∨ o = 0 → ∃ t, exec (.crossingAccessTimeout x o) s = .next t ∧ t.dev.crossBlocked x = true
        ∧ t.dev.crossState x = (if s.dev.crossState x = 3 then 3 else 2)
        ∧ t.dev.rd Obj.crossCounters x 191 128 = (s.dev.rd Obj.crossCounters x 191 128 + 1) % 2 ^ 64
        ∧ (o ≠ 0 → t.dev.rd Obj.crossStatus x 47 32 = o) ∧ (s.dev.state ≠ St.reset → t.dev.Reported 0x21 (0xC00 + x))
        ∧ (x ≠ 8 → setHas t.dev.cross.late x = true ∧ t.dev.sx = s.dev.sx)
        ∧ (x = 8 → t.dev.cross = s.dev.cross ∧ (s.dev.sx.running.isSome = true → t.dev.sx.staged = some (5, none)))
        ∧ ChartSame [Obj.crossStatus, Obj.crossCounters] s.dev t.dev)
      ∧ (s.dev.crossState x = 2 →
        ∃ t, exec (.lateAcknowledge x) s = .next t ∧ t.dev.crossState x = 0 ∧ ElementSame Obj.crossStatus x s.dev t.dev)
      ∧ (s.dev.crossState x ≠ 2 → exec (.lateAcknowledge x) s = .next s))
    ∧ (∀ (s : State) (x g : Nat), 0x20 ≤ x → x < 0x3A → g < 256 →
      let k := x * 256 + g
      (mapGet? s.dev.cross.outstanding k = none →
        ∃ t, exec (.crossingPulse x g false true) s = .next t ∧ mapGet? t.dev.cross.outstanding k = some 0 ∧ t.dev.crossState x = 1
          ∧ ChartSame [Obj.crossStatus] s.dev t.dev)
      ∧ (∀ p, mapGet? s.dev.cross.outstanding k = some p → p < 7 →
        ∃ t, exec (.crossingPulse x g false true) s = .next t ∧ mapGet? t.dev.cross.outstanding k = some (p + 1) ∧ t.dev.crossState x = 1
          ∧ ChartSame [Obj.crossStatus] s.dev t.dev)
      ∧ (mapGet? s.dev.cross.outstanding k = some 7 →
        ∃ t, exec (.crossingPulse x g false true) s = .next t ∧ t.dev.get Obj.crossOverrun x = 1
          ∧ t.dev.rd Obj.crossCounters x 255 192 = (s.dev.rd Obj.crossCounters x 255 192 + 1) % 2 ^ 64
          ∧ (s.dev.state ≠ St.reset → t.dev.Reported 0x22 (0xC00 + x)))
      ∧ (mapGet? s.dev.cross.outstanding k = some 0 →
        ∃ t, exec (.crossingPulse x g true false) s = .next t ∧ mapGet? t.dev.cross.outstanding k = none
          ∧ t.dev.rd Obj.crossCounters x 383 320 = (s.dev.rd Obj.crossCounters x 383 320 + 1) % 2 ^ 64)
      ∧ (∀ p, mapGet? s.dev.cross.outstanding k = some p → 0 < p →
        ∃ t, exec (.crossingPulse x g true false) s = .next t ∧ mapGet? t.dev.cross.outstanding k = some 0 ∧ t.dev.crossState x = 1
          ∧ t.dev.rd Obj.crossCounters x 383 320 = (s.dev.rd Obj.crossCounters x 383 320 + 1) % 2 ^ 64
          ∧ t.dev.rd Obj.crossCounters x 319 256 = (s.dev.rd Obj.crossCounters x 319 256 + if 1 < p then 1 else 0) % 2 ^ 64)
      ∧ ∀ p, mapGet? s.dev.cross.outstanding k = some p → 0 < p →
        ∃ t, exec (.crossingPulse x g true true) s = .next t ∧ mapGet? t.dev.cross.outstanding k = some 1 ∧ t.dev.crossState x = 1
          ∧ t.dev.rd Obj.crossCounters x 383 320 = (s.dev.rd Obj.crossCounters x 383 320 + 1) % 2 ^ 64
          ∧ t.dev.rd Obj.crossCounters x 255 192 = s.dev.rd Obj.crossCounters x 255 192)
    ∧ ∀ (d : Device) (c : Clk) (x : Nat), x < 256 →
      (d.blockReset c x).crossState x = (if d.crossState x = 3 then 3 else 0) ∧ (d.blockReset c x).rd Obj.crossStatus x 55 53 = 0
        ∧ ∀ kv ∈ (d.blockReset c x).cross.outstanding, kv.1 / 256 ≠ x)
  ∧ (
    (∀ (s : State) (k : Nat), k < 9 →
      (∃ t, exec (.pllUnlock k) s = .next t ∧ t.dev.clockState k = 1 ∧ t.dev.rd Obj.clkStatus k 31 0 = 0
        ∧ ElementSame Obj.clkStatus k s.dev t.dev)
      ∧ (s.dev.clockState k = 1 →
        ∃ t, exec (.pllRelock k) s = .next t ∧ t.dev.clockState k = 0
          ∧ t.dev.rd Obj.clkStatus k 55 40 = min 65535 (s.dev.rd Obj.clkStatus k 55 40 + 1)
          ∧ (t.dev.rd Obj.clkStatus k 31 0 = domainKhz s.dev k ∨ t.dev.rd Obj.clkStatus k 31 0 = domainKhz s.dev k + 1)
          ∧ ElementSame Obj.clkStatus k s.dev t.dev)
      ∧ (s.dev.clockState k ≠ 1 → exec (.pllRelock k) s = .next s))
    ∧ (∀ (s : State) (b : Bool), s.dev.state ≠ St.reset →
      ∃ t, exec (.reference b) s = .next t ∧ t.dev.condition 0x29 0 = b ∧ t.dev.chart = s.dev.chart
        ∧ (b = true → s.dev.condition 0x29 0 = false → t.dev.Reported 0x29 0))
    ∧ ∀ (s : State), s.dev.state ≠ St.reset →
      (s.dev.pwr.pilot = .running →
        (∃ t, exec .pilotLockstep s = .next t ∧ t.dev.Reported 0x30 1 ∧ t.dev.chart = s.dev.chart)
        ∧ ∃ t, exec .pilotMemory s = .next t ∧ t.dev.Reported 0x31 1 ∧ t.dev.chart = s.dev.chart)
      ∧ (s.dev.pwr.pilot ≠ .running → exec .pilotLockstep s = .next s ∧ exec .pilotMemory s = .next s)
      ∧ (s.dev.pwr.pilot ≠ .off → s.dev.sx.pilotHalted = false →
        ∃ t, exec .pilotWatchdog s = .next t ∧ t.dev.Reported 0x32 1 ∧ t.dev.chart = s.dev.chart)
      ∧ (s.dev.sx.pilotHalted = true → exec .pilotWatchdog s = .next s))

/-! ### Counters (chapter 17) -/

/-- Counter images (R350 to R353, R355 to R358, R360, R267): a gathering cycle gives the live image every bank as it stands, all at one
instant; a snapshot copies the banks at the instant asked for, and shows them when it is done; a write-back moves a pending entry to its
counter without changing the counter's value, and restarts a poisoned counter from 0. That every bank of a gathering cycle is copied at one
and the same instant (log 17), that the codewords FEC has counted enter the counters as they are copied (log 66), and the block that a
write-back finds waiting for its good copy (log 70), are the model's choice. -/
def Obligations.CounterImages : Prop :=
  (∀ s : State,
    let d := s.dev.fecCounted
    (5 ≤ s.dev.way → ∃ t, exec .loglineCycle s = .next t
      ∧ (∀ o ∈ bankObjects, o ≠ Obj.laneStatus → o ≠ Obj.bufStatus → ∀ e, e < 65536 → t.dev.viewBankElement o e = d.get o e)
      ∧ (∀ i, i < 256 → t.dev.viewBankElement Obj.laneStatus i = d.laneNow i)
      ∧ t.dev.viewBankElement Obj.bufStatus 0 = s.dev.get Obj.bufStatus 0
      ∧ t.dev.log.live.instant = s.clk.time80 ∧ t.dev.log.snap = s.dev.log.snap ∧ ElementSame Obj.cntCounters 0 d t.dev
      ∧ ChartSame [Obj.portCounters, Obj.cntCounters] s.dev t.dev
      ∧ t.dev.rd Obj.cntCounters 0 255 192 = (s.dev.rd Obj.cntCounters 0 255 192 + 1) % 2 ^ 64)
    ∧ (s.dev.way < 5 → exec .loglineCycle s = .next s))
  ∧ (∀ s : State,
    (s.dev.snapState = 1 → ns80 (s.dev.rd Obj.cntSnapshotStatus 0 207 128) ≤ s.clk.nsTotal →
      ∃ t, exec .snapshotTake s = .next t ∧ t.dev.snapState = 2 ∧ t.dev.log.shadow = s.dev.fecCounted.copyBanks
        ∧ t.dev.rd Obj.cntSnapshotStatus 0 127 48 = s.clk.time80 ∧ t.dev.log.live = s.dev.log.live)
    ∧ (s.clk.nsTotal < ns80 (s.dev.rd Obj.cntSnapshotStatus 0 207 128) → exec .snapshotTake s = .next s)
    ∧ (s.dev.snapState = 2 →
      ∃ t, exec .snapshotDone s = .next t ∧ t.dev.snapState = 3 ∧ t.dev.log.snap.data = s.dev.log.shadow
        ∧ t.dev.log.snap.instant = s.dev.rd Obj.cntSnapshotStatus 0 127 48
        ∧ t.dev.rd Obj.cntSnapshotStatus 0 239 208 = (s.dev.rd Obj.cntSnapshotStatus 0 239 208 + 1) % 2 ^ 32
        ∧ t.dev.rd Obj.cntCounters 0 191 128 = (s.dev.rd Obj.cntCounters 0 191 128 + 1) % 2 ^ 64))
  ∧ ∀ (s : State) (sl n p b : Nat) (found : List BlockFound), sl < 4 → n < 67108864 → (∀ f ∈ found, f.wf = true) →
    mapGet? s.dev.eng.flexPending (flexKey sl n) = some (p, b) →
    let e := s.dev.readFound s.clk (· == flexBlock n) found
    ∃ t, exec (.flexWriteback sl n found) s = .next t ∧ mapGet? t.dev.eng.flexPending (flexKey sl n) = none
      ∧ (e.poisoned (flexBlock n) = false → t.dev.flexValue n = s.dev.flexValue n ∧ ∀ m, m ≠ n → t.dev.flexInHbm m = s.dev.flexInHbm m)
      ∧ (e.poisoned (flexBlock n) = true → t.dev.poisoned (flexBlock n) = false ∧ t.dev.flexInHbm n = (p % 2 ^ 64, b % 2 ^ 64))
      ∧ (e.poisoned (flexBlock n) = false →
          (∀ k ∈ [n % 2, n % 2 + 2], setHas e.hbm.waitHeal (blockKey k (flexBlock n).2) = false) → t.dev.poisoned (flexBlock n) = false)
      ∧ t.dev.rd Obj.cntCounters 0 63 0 = (s.dev.rd Obj.cntCounters 0 63 0 + 1) % 2 ^ 64

/-! ### Start-up, restarts, power and heat (chapters 18, 19) -/

/-- The way into service (R364 to R368, Table 18.2): VAUX and power-good; the release of reset with the straps latched, the clocks running
and device time at 0; the ROM self-test, the end of training, and of OPTICS_UP when no lane is acquiring or 2 s have passed, each in its own
state only. -/
def Obligations.StartUp : Prop :=
  (∀ s : State, s.dev.pwr.vaux = false →
    exec .vauxPresent s = .next { s with dev := { s.dev with pwr := { s.dev.pwr with vaux := true }
                                                             look := { s.dev.look with faultN := .low } } })
  ∧ (∀ s : State, s.dev.pwr.vaux = true → s.dev.pwr.good = false → s.dev.pwr.tripped = false →
    ∃ t, exec .powerGood s = .next t
      ∧ t.dev.pwr = { s.dev.pwr with
          good := true, energy := 0, energyAt := s.clk.ticks, bound := t.dev.pwr.bound, work := t.dev.pwr.work
          status := t.dev.pwr.status, rails := t.dev.pwr.rails }
      ∧ (∀ r, r < 12 → t.dev.railState r = 1 ∧ t.dev.railActive r = railPhases r
          ∧ (r ≠ 6 → r ≠ 7 → t.dev.rd Obj.pwrRail r 95 80 = railFixed r))
      ∧ ChartSame [Obj.pwrRail, Obj.thermStatus] s.dev t.dev)
  ∧ (∀ (s : State) (straps : Nat), straps < 512 → s.dev.pwr.good = true → s.dev.pwr.resetLow = false → s.dev.pwr.hold = .powerOn →
    ∃ t, exec (.resetReleaseBoot straps) s = .next t ∧ t.dev.state = St.bootRom ∧ t.clk.total = 0 ∧ t.clk.ticks = s.clk.ticks
      ∧ t.dev.get Obj.devStraps 0 = straps ∧ t.dev.pwr.hold = .none ∧ t.dev.pwr.pilot = .running
      ∧ (∀ k, k < 9 → t.dev.clockState k = 0) ∧ t.dev.clockState 9 = 2)
  ∧ ∀ s : State, s.dev.pwr.hold = .none →
    (s.dev.state = St.bootRom →
      ∃ t, exec .pilotSelfTestDone s = .next t ∧ t.dev.state = St.training ∧ t.dev.queueStore = [] ∧ t.dev.tbl = Device.reset.tbl
        ∧ t.dev.hbm.churn = [] ∧ t.dev.hbm.churnB = [] ∧ t.dev.hbm.flex = [])
    ∧ (s.dev.state = St.training → (∀ k, k < 4 → setHas s.dev.pwr.trained k = true) →
      ∃ t, exec .trainingEnd s = .next t ∧ t.dev.state = St.opticsUp ∧ t.dev.ports.lit = true
        ∧ t.dev.pwr.opticsAt = (if s.dev.ports.lit = true then none else some s.clk.ticks) ∧ ElementSame Obj.devState 0 s.dev t.dev)
    ∧ (s.dev.state = St.training → (∃ k, k < 4 ∧ setHas s.dev.pwr.trained k = false) → exec .trainingEnd s = .next s)
    ∧ (s.dev.state = St.opticsUp →
      let settled := ∀ since, s.dev.pwr.opticsAt = some since →
        since + 2500000000 ≤ s.clk.ticks ∨ ∀ l, l < 256 → s.dev.laneFenced l = true ∨ s.dev.rxState l ≠ 1
      (settled → ∃ t, exec .opticsSettled s = .next t ∧ t.dev.state = St.awaitImage ∧ ElementSame Obj.devState 0 s.dev t.dev)
      ∧ (¬ settled → exec .opticsSettled s = .next s))
    ∧ (s.dev.state ≠ St.opticsUp → exec .opticsSettled s = .next s)

/-- Restarts (R296, R330, R366, R374 to R376, R383): an ordered restart drops every link and stops admission; the Chart is then
reinitialised with no packet and no queue left, and the Epoch kept; the release starts the Pilot with device time at 0, the Epoch advanced
and, after FULL and RESET_N, the straps latched anew; DEVICE, and with VIN12 in range FULL and RESET_N, keep the dumps all through, one
that was being written as PARTIAL. A low pulse of RESET_N below 500 ns changes nothing the spec names. That links fall as the restart
starts (log 22), that DEVICE keeps a swap under way (log 28), that a dump is lost with VIN12 out of range (log 50), that one cut short
reads PARTIAL (log 27), and what RESET_N does before the power-on release (logs 51, 64) are the model's reading. -/
def Obligations.Restarts : Prop :=
  (∀ (s : State), s.dev.pwr.hold = .none →
    (s.dev.pwr.requested = some 2 ∨ s.dev.pwr.requested = some 3 →
      ∃ t, exec .deviceRestartBegin s = .next t ∧ t.dev.pwr.requested = none
        ∧ t.dev.pwr.hold = .begun (if s.dev.pwr.requested = some 2 then .device else .full)
        ∧ t.dev.pwr.localFault = s.dev.enabledPorts ∧ ∀ p ∈ s.dev.enabledPorts, t.dev.link p = false)
    ∧ (s.dev.pwr.requested ≠ some 2 → s.dev.pwr.requested ≠ some 3 → exec .deviceRestartBegin s = .next s))
  ∧ (∀ (s : State) (k : RestartKind), s.dev.pwr.hold = .begun k →
    ∃ t, exec .restartResetEntry s = .next t ∧ t.dev.state = St.reset ∧ t.dev.pwr.hold = .held k ∧ t.clk = s.clk
      ∧ t.dev.sl = Device.reset.sl ∧ t.dev.buf = Device.reset.buf ∧ t.dev.tbl = Device.reset.tbl
      ∧ t.dev.get Obj.bdpEpoch 0 = s.dev.get Obj.bdpEpoch 0 ∧ t.dev.sx.fused = s.dev.sx.fused
      ∧ t.dev.img.keyPolicy = s.dev.img.keyPolicy ∧ t.dev.img.ownerDigest = s.dev.img.ownerDigest
      ∧ (∀ o e, e < 65536 → o ∉ keptAlways ++ keptByRestart ++ keptByDevice ++ [Obj.dumpStatus, Obj.devState, Obj.hbmPcStatus,
          Obj.hbmStackStatus] → t.dev.get o e = chartDefault o e)
      ∧ (k ≠ .device → s.dev.vinOut = true → t.dev.look.dumpStore = [] ∧ t.dev.hbm.dump = []
          ∧ t.dev.get Obj.dumpStatus 0 = chartDefault Obj.dumpStatus 0)
      ∧ (k = .device ∨ s.dev.vinOut = false →
          (s.dev.dumpState false ≠ 1 → t.dev.look.dumpStore = s.dev.look.dumpStore ∧ t.dev.dumpState false = s.dev.dumpState false)
          ∧ (s.dev.dumpState false = 1 → t.dev.dumpState false = 3)
          ∧ ((∀ p, p < 2 → s.dev.pairLost p = false) →
            (s.dev.dumpState true ≠ 1 → t.dev.hbm.dump = s.dev.hbm.dump ∧ t.dev.hbm.dumpSpans = s.dev.hbm.dumpSpans
                ∧ t.dev.dumpState true = s.dev.dumpState true)
            ∧ (s.dev.dumpState true = 1 → t.dev.dumpState true = 3)))
      ∧ (k = .device → t.dev.ports.lit = s.dev.ports.lit ∧ t.dev.ports.swap = s.dev.ports.swap
          ∧ t.dev.ports.swapWait = s.dev.ports.swapWait ∧ t.dev.hbm.lanes = s.dev.hbm.lanes))
  ∧ (∀ (s : State) (k : RestartKind) (straps : Nat), straps < 512 → s.dev.pwr.hold = .held k →
    (s.dev.pwr.resetLow = true → exec (.restartResetRelease straps) s = .next s)
    ∧ (s.dev.pwr.resetLow = false →
      ∃ t, exec (.restartResetRelease straps) s = .next t ∧ t.dev.state = St.bootRom ∧ t.clk.total = 0 ∧ t.dev.pwr.hold = .none
        ∧ t.dev.pwr.pilot = .running ∧ t.dev.get Obj.bdpEpoch 0 = (s.dev.get Obj.bdpEpoch 0 + 1) % 256
        ∧ t.dev.look.dumpStore = s.dev.look.dumpStore ∧ t.dev.hbm.dump = s.dev.hbm.dump
        ∧ t.dev.get Obj.dumpStatus 0 = s.dev.get Obj.dumpStatus 0
        ∧ t.dev.get Obj.devStraps 0 = if k = .device then s.dev.get Obj.devStraps 0 else straps))
  ∧ (∀ (s : State) (ns : Nat), s.dev.pwr.resetLow = false →
    (ns < 500 → exec (.resetNAssert ns) s = .next { s with dev := s.dev.spend })
    ∧ (520 ≤ ns →
      ∃ t, exec (.resetNAssert ns) s = .next t ∧ t.dev.pwr.resetLow = true
        ∧ (s.dev.pwr.hold = .none → t.dev.pwr.hold = .begun .resetN)
        ∧ (∀ k, s.dev.pwr.hold = .begun k → t.dev.pwr.hold = .begun .resetN)
        ∧ (∀ k, s.dev.pwr.hold = .held k → t.dev.pwr.hold = .held .resetN ∧ t.dev.state = St.reset)
        ∧ (s.dev.pwr.hold = .powerOn → t.dev = { s.dev.spend with pwr := { s.dev.pwr with resetLow := true } })))
  ∧ ∀ (s : State) (straps : Nat), straps < 512 →
    (s.dev.pwr.hold = .held .resetN →
      ∃ t, exec (.resetNRelease straps) s = .next t ∧ t.dev.state = St.bootRom ∧ t.clk.total = 0 ∧ t.dev.pwr.resetLow = false
        ∧ t.dev.get Obj.devStraps 0 = straps)
    ∧ (s.dev.pwr.hold ≠ .held .resetN →
      exec (.resetNRelease straps) s = .next { s with dev := { s.dev with pwr := { s.dev.pwr with resetLow := false } } })

/-- Power and heat (R364, R375, R389 to R392, R398, R399): a power failure, a VAUX loss and a thermal trip each return the device to RESET
with its fuses kept and all else lost; every 1 ms the measurements are taken that reads show, a power within Table 19.7 and voltages
within their windows, each to its accuracy (R393, R394); phases, supplies and the trim of a core rail show in PWR.Rail; VIN12 out of range
during a FULL restart or RESET_N loses the dumps (R333, R375); the temperature thresholds act and report. The step and the bound of a trim
are the model's reading (log 52), and so are the instants of the measurements, when a device has no traffic, and that a parked stack takes
22 W off its power (log 85). -/
def Obligations.PowerAndHeat : Prop :=
  (∀ s : State,
    let lost (t : State) : Prop := t.dev.state = St.reset ∧ t.dev.pwr.good = false ∧ t.dev.pwr.hold = .powerOn ∧ t.dev.queueStore = []
      ∧ t.dev.eng = Device.reset.eng ∧ t.dev.sx.fused = s.dev.sx.fused ∧ t.dev.img.ownerDigest = s.dev.img.ownerDigest
      ∧ t.dev.img.keyPolicy = s.dev.img.keyPolicy ∧ ∀ o e, e < 65536 → o ∉ keptAlways → t.dev.get o e = chartDefault o e
    (s.dev.pwr.vaux = true → ∃ t, exec .powerFailReset s = .next t ∧ lost t ∧ t.dev.pwr.vaux = true ∧ t.dev.look.faultN = .low)
    ∧ (∃ t, exec .vauxLoss s = .next t ∧ lost t ∧ t.dev.pwr.vaux = false ∧ t.dev.pwr.tripped = false ∧ t.dev.look.faultN = .undriven)
    ∧ (s.dev.pwr.good = true → ∃ t, exec .thermalTrip s = .next t ∧ lost t ∧ t.dev.pwr.tripped = true ∧ t.dev.look.faultN = .low))
  ∧ (∀ (s : State) (r : Nat), r < 12 → s.dev.pwr.good = true → (s.clk.ticks + 1) % 1250000 = 0 →
    let target := s.dev.rd Obj.pwrRail r 95 80
    ∃ t, exec .timeTick s = .next t ∧ t.dev.readElement t.clk Obj.pwrStatus 0 = .ok (t.dev.pwr.status, t.dev)
      ∧ fld t.dev.pwr.status 95 80 ≤ 8446 ∧ (s.dev.state = St.safe → fld t.dev.pwr.status 95 80 ≤ 3502)
      ∧ (St.training < s.dev.state → s.dev.traffic = false → fld t.dev.pwr.status 95 80 ≤ 3708)
      ∧ (St.training < s.dev.state → s.dev.traffic = false → ∀ k, k < 4 → s.dev.stackState k = 4 → fld t.dev.pwr.status 95 80 ≤ 3482)
      ∧ t.dev.readElement t.clk Obj.pwrRail r = .ok (t.dev.readRail r, t.dev)
      ∧ (r ≠ 6 → r ≠ 7 → s.dev.railState r ≠ 2 → target < 60000 →
          fld (t.dev.readRail r) 95 80 = target ∧ 94 * target ≤ 100 * fld (t.dev.readRail r) 127 112
            ∧ 100 * fld (t.dev.readRail r) 127 112 ≤ 107 * target)
      ∧ (r ≠ 6 → r ≠ 7 → s.dev.railState r = 2 → 0 < target → target < 57000 →
          100 * fld (t.dev.readRail r) 127 112 ≤ 96 * target ∨ 103 * target ≤ 100 * fld (t.dev.readRail r) 127 112))
  ∧ (∀ (s : State) (r : Nat), r < 12 → s.dev.pwr.good = true →
    (∃ t, exec (.regulatorPhaseFail r) s = .next t ∧ t.dev.railActive r = s.dev.railActive r - 1 ∧ ElementSame Obj.pwrRail r s.dev t.dev
      ∧ t.dev.look = s.dev.look)
    ∧ ∃ t, exec (.supply r true) s = .next t ∧ t.dev.railState r = 2 ∧ t.dev.condition 0x3A 0 = true
      ∧ (setHas s.dev.pwr.supply r = false → s.dev.state ≠ St.reset → t.dev.Reported 0x3A 0) ∧ ElementSame Obj.pwrRail r s.dev t.dev)
  ∧ (∀ (s : State), s.dev.pwr.good = true →
    (∃ t, exec (.supply 0xFF true) s = .next t ∧ t.dev.condition 0x3A 0 = true
      ∧ (s.dev.dumpsAtRisk = false → t.dev.chart = s.dev.chart ∧ t.dev.look.dumpStore = s.dev.look.dumpStore
          ∧ t.dev.hbm.dump = s.dev.hbm.dump)
      ∧ (s.dev.dumpsAtRisk = true → t.dev.look.dumpStore = [] ∧ t.dev.hbm.dump = [] ∧ t.dev.get Obj.dumpStatus 0 = 0
          ∧ ElementSame Obj.dumpStatus 0 s.dev t.dev))
    ∧ (s.dev.pwr.supply = [0xFF] → ∃ t, exec (.supply 0xFF false) s = .next t ∧ t.dev.condition 0x3A 0 = false ∧ t.dev.pwr.supply = []))
  ∧ (∀ (s : State) (k mv : Nat), k < 2 → s.dev.pwr.good = true →
    let was := trimStep (s.dev.rd Obj.pwrRail k 95 80)
    let n := trimNext was mv
    n ≤ was + 20 ∧ was ≤ n + 20 ∧ (280 ≤ was → was ≤ 340 → 280 ≤ n ∧ n ≤ 340)
    ∧ ∃ t, exec (.coreTrimUpdate k mv) s = .next t ∧ t.dev.rd Obj.pwrRail k 95 80 = n * 5 / 2 % 65536
      ∧ (850 < mv → setHas s.dev.pwr.supply k = false → t.dev.railState k = 3 ∧ t.dev.condition 0x3A 0 = true)
      ∧ (mv ≤ 850 → setHas s.dev.pwr.supply k = false → t.dev.railState k = 1) ∧ ElementSame Obj.pwrRail k s.dev t.dev)
  ∧ ∀ (s : State) (a b o : Int), s.dev.pwr.good = true →
    let j := max a b
    ∃ t, exec (.thermalSample a b o) s = .next t ∧ t.dev.rd Obj.thermStatus 0 127 112 = ofSigned 16 j
      ∧ t.dev.condition 0x38 0 = decide (1000 < j) ∧ t.dev.condition 0x39 0 = decide (1050 < j)
      ∧ bit (t.dev.get Obj.thermStatus 0) 46 = decide (1050 < j)
      ∧ (1000 < j → bit (t.dev.get Obj.thermStatus 0) 47 = true ∧ ∀ c, c < 64 → t.dev.clusterState c ≠ 1)
      ∧ (j < 970 → bit (t.dev.get Obj.thermStatus 0) 47 = false)
      ∧ (970 ≤ j → j ≤ 1000 → bit (t.dev.get Obj.thermStatus 0) 47 = bit (s.dev.get Obj.thermStatus 0) 47
          ∧ (bit (s.dev.get Obj.thermStatus 0) 47 = true → ∀ c, c < 64 → t.dev.clusterState c ≠ 1))
      ∧ ElementSame Obj.thermStatus 0 s.dev t.dev

/-! ### The Sextant (chapter 20) -/

/-- The TAP (R385, R403, R405, R416, Table 20.3): a reset selects IDCODE in Test-Logic-Reset, TRST_N low holding it; IDCODE shifts out
0x1512_09A7 on TDO; BYPASS and the reserved codes shift a 0; an instruction scan shifts out 0b0000_0001; SX_STREAM starts at word 0 and
writes or reads one word of DBG.Buffer at a time; SX_RESULT captures status, sequence and data. Without power no scan happens. No such event
touches a context or the running command. TCK absent shows at once, and 100 ms of it resumes a halted Pilot. The TAP state after each event,
the level of TRST_N and TDO are the model's reading (log 65). -/
def Obligations.DebugTap : Prop :=
  (∀ s : State,
    ∃ t, exec (.tapReset true) s = .next t ∧ t.dev = { s.dev with sx := { s.dev.sx with ir := 1, tap := .testLogicReset, trstN := false } }
      ∧ t.dev.tdo = none)
  ∧ (∀ s : State, s.dev.pwr.good = true →
    let x : Sextant := { s.dev.sx with absentAt := if s.dev.state = St.reset then s.dev.sx.absentAt else none, trstN := true }
    (∃ t, exec (.tapReset false) s = .next t ∧ t.dev.sx = { x with ir := 1, tap := .testLogicReset } ∧ t.dev.eng = s.dev.eng)
    ∧ (∃ t, exec .tapIdcode s = .next t ∧ t.dev.sx = { x with ir := 1, shifted := 0x151209A7, tap := .shiftDr } ∧ t.dev.eng = s.dev.eng
        ∧ t.dev.tdo = some true)
    ∧ (∀ code, code < 256 → tapRegister code = false →
      ∃ t, exec (.tapBypass code) s = .next t ∧ t.dev.sx = { x with ir := code, shifted := 0, tap := .shiftDr } ∧ t.dev.eng = s.dev.eng
        ∧ t.dev.tdo = some false)
    ∧ (∀ code ∈ [0x10, 0x11, 0x12], ∃ t, exec (.instructionSelect code) s = .next t ∧ t.dev.sx.ir = code ∧ t.dev.sx.shifted = 1
        ∧ (code = 0x12 → t.dev.sx.index = 0) ∧ (code ≠ 0x12 → t.dev.sx.index = s.dev.sx.index)
        ∧ t.dev.sx.running = s.dev.sx.running ∧ t.dev.eng = s.dev.eng)
    ∧ (∀ w, s.dev.sx.ir = 0x12 →
      ∃ t, exec (.sxStreamWrite w) s = .next t ∧ t.dev.bufferWord s.dev.sx.index = w.toNat
        ∧ t.dev.sx.index = (s.dev.sx.index + 1) % 8192 ∧ (∀ i, i ≠ s.dev.sx.index → t.dev.bufferWord i = s.dev.bufferWord i)
        ∧ t.dev.sx.running = s.dev.sx.running ∧ t.dev.eng = s.dev.eng)
    ∧ (s.dev.sx.ir = 0x12 →
      ∃ t, exec .sxStreamRead s = .next t
        ∧ t.dev.sx = { x with shifted := s.dev.bufferWord s.dev.sx.index, index := (s.dev.sx.index + 1) % 8192, tap := .captureDr }
        ∧ t.dev.eng = s.dev.eng)
    ∧ (s.dev.sx.ir = 0x11 → s.dev.sx.running = none →
      ∃ t, exec .sxResultCapture s = .next t
        ∧ t.dev.sx.captured = at_ 95 88 s.dev.sx.status + at_ 79 64 s.dev.sx.sequence + at_ 63 0 s.dev.sx.data
        ∧ t.dev.sx.shifted = t.dev.sx.captured ∧ t.dev.eng = s.dev.eng))
  ∧ (∀ s : State, s.dev.pwr.good = false →
    exec (.tapReset false) s = .next s ∧ exec .tapIdcode s = .next s ∧ exec .sxStreamRead s = .next s)
  ∧ ∀ s : State, s.dev.state ≠ St.reset →
    (s.dev.sx.absentAt = none →
      ∃ t, exec .debugClockAbsent s = .next t ∧ t.dev.clockState 9 = 2 ∧ t.dev.rd Obj.clkStatus 9 31 0 = 0
        ∧ t.dev.sx = { s.dev.sx with absentAt := some s.clk.ticks } ∧ t.dev.eng = s.dev.eng ∧ ElementSame Obj.clkStatus 9 s.dev t.dev)
    ∧ ∀ since, s.dev.sx.absentAt = some since →
      (s.clk.ticks < since + 125000000 → exec .debugClockAbsent s = .next s)
      ∧ (since + 125000000 ≤ s.clk.ticks → ∃ t, exec .debugClockAbsent s = .next t ∧ t.dev.sx.pilotHalted = false
          ∧ t.dev.chart = s.dev.chart ∧ t.dev.eng = s.dev.eng)

/-- Halting and running contexts (R405, R409 to R412, R415): HALT, RESUME and STEP of a context, HALT of the Pilot and STEP of it, whose
data gives its new PC (its bits 31:24 are the model's choice, log 92), HALT_ALL in MAINTENANCE and RESUME_ALL, and START of a debug pass
in a halted FREE context; no other context changes. The order of the checks (log 54) and the effect at the issue of the command (log 55)
are the model's choice. -/
def Obligations.DebugContexts : Prop :=
  ∀ (s : State) (f : SxFields),
    (s.dev.Issues 1 f →
      (∀ k x, f.unit ≠ 1 → sxCtx f = some k → s.dev.state ≠ St.safe → s.dev.sxAllowed (k / 128) = true → s.dev.ctx? k = some x →
        ∃ t, exec (.sxHalt f) s = .next t ∧ s.dev.Issued t.dev 1 f (some (0, none)) ∧ t.dev.ctx? k = some { x with halted := true }
          ∧ ∀ j, j ≠ k → t.dev.ctx? j = s.dev.ctx? j)
      ∧ (f.unit = 1 → s.dev.pwr.pilot = .running →
        ∃ t, exec (.sxHalt f) s = .next t ∧ s.dev.Issued t.dev 1 f (some (0, none)) ∧ t.dev.sx.pilotHalted = true
          ∧ t.dev.eng = s.dev.eng))
    ∧ (s.dev.Issues 2 f → ∀ k x, f.unit ≠ 1 → sxCtx f = some k → s.dev.ctx? k = some x →
      ∃ t, exec (.sxResume f) s = .next t ∧ s.dev.Issued t.dev 2 f (some (0, none))
        ∧ t.dev.ctx? k = some { x with halted := false, stepping := false } ∧ mapGet? t.dev.sx.idle k = none
        ∧ ∀ j, j ≠ k → t.dev.ctx? j = s.dev.ctx? j)
    ∧ (s.dev.Issues 3 f → ∀ k x, f.unit ≠ 1 → sxCtx f = some k → s.dev.state ≠ St.safe → s.dev.sxAllowed (k / 128) = true →
      s.dev.ctx? k = some x → x.halted = true →
      ∃ t, exec (.sxStep f) s = .next t ∧ s.dev.Issued t.dev 3 f none
        ∧ t.dev.ctx? k = some { x with stepping := true, passed := true } ∧ ∀ j, j ≠ k → t.dev.ctx? j = s.dev.ctx? j)
    ∧ (s.dev.Issues 3 f → f.unit = 1 → s.dev.sx.pilotHalted = true →
      ∃ t pc code, exec (.sxStep f) s = .next t ∧ s.dev.Issued t.dev 3 f (some (0, some (pc % 2 ^ 16 + code * 2 ^ 24))) ∧ code < 256
        ∧ mapGet? t.dev.sx.pilotRegs 32 = some pc ∧ t.dev.sx.pilotHalted = true ∧ t.dev.eng = s.dev.eng)
    ∧ (s.dev.Issues 0xA f → ∀ k x, sxCtx f = some k → f.address < 4096 → s.dev.state ≠ St.safe → s.dev.sxAllowed (k / 128) = true →
      mapGet? s.dev.sx.idle k = some x →
      ∃ t y, exec (.sxStart f) s = .next t ∧ s.dev.Issued t.dev 0xA f (some (0, none)) ∧ t.dev.ctx? k = some y ∧ y.pc = f.address
        ∧ y.regs = x.regs ∧ y.debug = true ∧ y.halted = false ∧ y.verdict = none ∧ mapGet? t.dev.sx.idle k = none)
    ∧ (s.dev.Issues 0xB f → s.dev.state = St.maintenance →
      ∃ t, exec (.sxHaltAll f) s = .next t ∧ s.dev.Issued t.dev 0xB f (some (0, none))
        ∧ ∀ k, k < 8192 → (∀ x, s.dev.ctx? k = some x → t.dev.ctx? k = some { x with halted := true })
            ∧ (s.dev.ctx? k = none → t.dev.ctx? k = none ∧ (mapGet? t.dev.sx.idle k).isSome = true))
    ∧ (s.dev.Issues 0xC f →
      ∃ t, exec (.sxResumeAll f) s = .next t ∧ s.dev.Issued t.dev 0xC f (some (0, none)) ∧ t.dev.sx.idle = []
        ∧ ∀ k, t.dev.ctx? k = (s.dev.ctx? k).map fun x => { x with halted := false })

/-- Reading, writing and points (R404 to R408, R413): the command that an SX_CMD word spells; NOP; a READ of a control-store part, and of a
word of a context's memory, with ECC where it fails its check; a WRITE of a dispatch entry of a fenced cluster, which marks its image
registers but while it is LOADING (log 78), and STATE for a cluster in service; a point set and cleared; the issue of a block transfer; and
the end of a command with its result, a block read of the on-chip dump among them. The order of the checks (log 54), the effect at issue and
the moving of a block's words at completion (log 55) are the model's choice. A READ whose crossing cannot carry it ends with TIMEOUT and
touches nothing (R341, R405). -/
def Obligations.DebugAccess : Prop :=
  (∀ (s : State) (f : SxFields),
    (s.dev.Issues 0 f → ∃ t, exec (.sxNop 0 f) s = .next t ∧ s.dev.Issued t.dev 0 f (some (0, none)) ∧ t.dev.eng = s.dev.eng)
    ∧ (s.dev.Issues 4 f → ∀ cl, sxCluster f = some cl → f.space = 2 → f.address < 16384 → f.address % 4 ≠ 3 →
      ∀ ecc blocks, (∀ b ∈ blocks, b.wf = true) → ∃ t, exec (.sxRead f ecc blocks) s = .next t ∧ t.dev.eng = s.dev.eng
        ∧ (ecc ≠ .double → s.dev.Issued t.dev 4 f (some (0, some (fld (s.dev.controlWord cl (f.address / 4)) (191 - 64 * (f.address % 4))
            (128 - 64 * (f.address % 4))))))
        ∧ (ecc = .double → s.dev.Issued t.dev 4 f (some (sxEcc, none))))
    ∧ (s.dev.Issues 4 f → ∀ cl, sxCluster f = some cl → f.space = 3 → f.address < 256 →
      ∀ ecc blocks, (∀ b ∈ blocks, b.wf = true) → ∃ t, exec (.sxRead f ecc blocks) s = .next t ∧ t.dev.eng = s.dev.eng
        ∧ s.dev.Issued t.dev 4 f (if ecc = .double then some (sxEcc, none)
            else some (0, some (s.dev.get Obj.clDispatch (cl * 256 + f.address)))))
    ∧ (∀ x ecc blocks, s.dev.pwr.good = true → s.dev.sx.ir = 0x10 → s.dev.sx.running = none → s.dev.sxBlocked = false → f.wf = true →
      s.dev.sxRefused 4 f = none → (∀ b ∈ blocks, b.wf = true) → s.dev.firstBlocked (s.dev.sxCrossings 4 f) = some x →
      ∃ t, exec (.sxRead f ecc blocks) s = .next t ∧ s.dev.Issued t.dev 4 f (some (sxTimeout, none))
        ∧ t.dev.eng.scratch = s.dev.eng.scratch ∧ t.dev.eng.common = s.dev.eng.common ∧ t.dev.tbl = s.dev.tbl)
    ∧ (s.dev.Issues 4 f → ∀ k p, sxCtx f = some k → f.space = 0 → f.address < 2 ^ 32 → f.address % 8 = 0 →
      whereWord (locate (k / 128) f.address) = some p → s.dev.wordOn s.clk p = true →
      ∀ blocks, (∀ b ∈ blocks, b.wf = true) →
      (∀ ecc, ecc ≠ .double →
        ∃ t, exec (.sxRead f ecc blocks) s = .next t ∧ t.dev.eng = s.dev.eng ∧ s.dev.Issued t.dev 4 f (some (0, some (s.dev.word p))))
      ∧ ∃ t, exec (.sxRead f .double blocks) s = .next t ∧ t.dev.eng = s.dev.eng ∧ s.dev.Issued t.dev 4 f (some (sxEcc, none))
          ∧ (s.dev.state ≠ St.reset → t.dev.Reported 0x04 (wordTarget p).1))
    ∧ (s.dev.Issues 5 f → ∀ cl, sxCluster f = some cl → f.space = 3 → f.address < 256 →
      (s.dev.clusterFenced cl = true →
        ∃ t, exec (.sxWrite f) s = .next t ∧ s.dev.Issued t.dev 5 f (some (0, none))
          ∧ t.dev.get Obj.clDispatch (cl * 256 + f.address) = dispatchEntry f.data
          ∧ (s.dev.rd Obj.ucodeLoadStatus cl 63 56 ≠ 2 →
              t.dev.get Obj.ucodeVersion cl = 0xFFFFFFFF ∧ t.dev.get Obj.ucodeImageHash cl = 0xFFFFFFFFFFFFFFFF)
          ∧ (s.dev.rd Obj.ucodeLoadStatus cl 63 56 = 2 → t.dev.get Obj.ucodeVersion cl = s.dev.get Obj.ucodeVersion cl
              ∧ t.dev.get Obj.ucodeImageHash cl = s.dev.get Obj.ucodeImageHash cl))
      ∧ (s.dev.clusterFenced cl = false →
        ∃ t, exec (.sxWrite f) s = .next t ∧ s.dev.Issued t.dev 5 f (some (sxState, none))
          ∧ t.dev.get Obj.clDispatch (cl * 256 + f.address) = s.dev.get Obj.clDispatch (cl * 256 + f.address)))
    ∧ (s.dev.Issues 6 f → ∃ t, exec (.sxBlockRead f) s = .next t ∧ s.dev.Issued t.dev 6 f none ∧ t.dev.eng = s.dev.eng)
    ∧ (s.dev.Issues 7 f → ∃ t, exec (.sxBlockWrite f) s = .next t ∧ s.dev.Issued t.dev 7 f none ∧ t.dev.eng = s.dev.eng)
    ∧ (s.dev.Issues 8 f → ∀ cl n p, sxPoint f = some (cl, n) → pointOf n f.data = some p → s.dev.sxAllowed cl = true →
      ∃ t, exec (.sxSetPoint f) s = .next t ∧ s.dev.Issued t.dev 8 f (some (0, none)) ∧ mapGet? t.dev.eng.points (cl * 10 + n) = some p
        ∧ ∀ j, j ≠ cl * 10 + n → mapGet? t.dev.eng.points j = mapGet? s.dev.eng.points j)
    ∧ (s.dev.Issues 9 f → ∀ cl n, sxPoint f = some (cl, n) →
      ∃ t, exec (.sxClearPoint f) s = .next t ∧ s.dev.Issued t.dev 9 f (some (0, none))
        ∧ mapGet? t.dev.eng.points (cl * 10 + n) = none
        ∧ ∀ j, j ≠ cl * 10 + n → mapGet? t.dev.eng.points j = mapGet? s.dev.eng.points j))
  ∧ (∀ (op : Nat) (f : SxFields) (ecc : Ecc) (blocks : List BlockFound), op < 256 → f.wf = true →
    let w := sxWord op f
    w < 2 ^ 160 ∧ fld w 159 152 = op ∧ sxFieldsOf w = f
      ∧ (∀ x ∈ [(1, Instr.sxHalt f), (2, .sxResume f), (3, .sxStep f), (4, .sxRead f ecc blocks), (5, .sxWrite f), (6, .sxBlockRead f),
            (7, .sxBlockWrite f), (8, .sxSetPoint f), (9, .sxClearPoint f), (10, .sxStart f), (11, .sxHaltAll f), (12, .sxResumeAll f)],
          op = x.1 → sxCommandOf w ecc blocks = x.2)
      ∧ (op = 0 ∨ 12 < op → sxCommandOf w ecc blocks = .sxNop op f))
  ∧ ∀ (s : State) (op : Nat) (f : SxFields) (words : NMap Ecc) (blocks : List BlockFound), s.dev.sx.running = some (op, f) →
    (∀ b ∈ blocks, b.wf = true) →
    (∀ st v, s.dev.sx.staged = some (st, some v) →
      ∃ t, exec (.sxCommandComplete words blocks) s = .next t
        ∧ t.dev.sx = { s.dev.sx with status := st, data := v % 2 ^ 64, running := none, staged := none }
        ∧ t.dev.eng = s.dev.eng ∧ t.dev.tbl = s.dev.tbl ∧ t.dev.hbm = s.dev.hbm
        ∧ t.dev.chart = (s.dev.accessDone 8).chart)
    ∧ (∀ st, s.dev.sx.staged = some (st, none) →
      ∃ t, exec (.sxCommandComplete words blocks) s = .next t ∧ t.dev.sx.running = none ∧ t.dev.sx.status = st ∧ t.dev.sx.staged = none
        ∧ t.dev.eng = s.dev.eng ∧ t.dev.chart = (if st = sxTimeout then s.dev else s.dev.accessDone 8).chart)
    ∧ (s.dev.sx.staged = none → op = 6 → f.space = 6 → f.address % 8 = 0 → f.address + f.count ≤ 8388608 → s.dev.sxBlocked = false →
      ∀ n, n ≤ f.count / 8 → (∀ i, i < n → mapGet words i .good ≠ .double) → (n < f.count / 8 → mapGet words n .good = .double) →
      ∃ t, exec (.sxCommandComplete words blocks) s = .next t ∧ t.dev.sx.running = none
        ∧ t.dev.sx.status = (if n < f.count / 8 then sxEcc else 0)
        ∧ (∀ i, i < n → t.dev.bufferWord i = beNat (memRead s.dev.look.dumpStore (f.address + 8 * i) 8))
        ∧ (∀ i, n ≤ i → t.dev.bufferWord i = s.dev.bufferWord i) ∧ t.dev.chart = (s.dev.accessDone 8).chart)
end

