-- ==== Sys2Proof/Laws/Bits.lean ====
section
/-! SUPPORT. What reading a bit field gives after a field is replaced, and what ordering a list by a key does. -/

namespace Sys2Proof.Machine

/-- A value split at a field: above it, the field, and below it. -/
theorem putFld_split (v m l x : Nat) :
    putFld v m l x = 2 ^ l * (2 ^ (m + 1 - l) * (v / 2 ^ l / 2 ^ (m + 1 - l)) + x % 2 ^ (m + 1 - l)) + v % 2 ^ l := by
  have h1 : 2 ^ l * (v / 2 ^ l) + v % 2 ^ l = v := Nat.div_add_mod v (2 ^ l)
  have h2 := Nat.div_add_mod (v / 2 ^ l) (2 ^ (m + 1 - l))
  unfold putFld fld
  rw [Nat.mul_add]
  generalize hq : v / 2 ^ l / 2 ^ (m + 1 - l) = q at *
  generalize hr : v / 2 ^ l % 2 ^ (m + 1 - l) = r at *
  have h3 : 2 ^ l * (v / 2 ^ l) = 2 ^ l * (2 ^ (m + 1 - l) * q) + 2 ^ l * r := by rw [← h2, Nat.mul_add]
  rw [Nat.mul_comm r, Nat.mul_comm (x % _)]
  omega

/-- The field just replaced reads the low bits of what it was given. -/
@[simp] theorem fld_putFld_same (v m l x : Nat) : fld (putFld v m l x) m l = x % 2 ^ (m + 1 - l) := by
  have hl : 0 < 2 ^ l := Nat.two_pow_pos l
  rw [putFld_split]
  unfold fld
  rw [Nat.mul_add_div hl, Nat.div_eq_of_lt (Nat.mod_lt v hl), Nat.add_zero, Nat.mul_add_mod, Nat.mod_mod]

/-- What lies above a field is not touched by replacing it. -/
theorem putFld_div_above (v m l x k : Nat) (h : m + 1 ≤ k) : putFld v m l x / 2 ^ k = v / 2 ^ k := by
  by_cases hw : l ≤ m + 1
  · have hk : 2 ^ k = 2 ^ l * (2 ^ (m + 1 - l) * 2 ^ (k - (m + 1))) := by
      rw [← Nat.pow_add, ← Nat.pow_add]; congr 1; omega
    rw [hk, ← Nat.div_div_eq_div_mul, ← Nat.div_div_eq_div_mul, ← Nat.div_div_eq_div_mul, ← Nat.div_div_eq_div_mul]
    have hl : 0 < 2 ^ l := Nat.two_pow_pos l
    have hm : 0 < 2 ^ (m + 1 - l) := Nat.two_pow_pos _
    rw [putFld_split, Nat.mul_add_div hl, Nat.div_eq_of_lt (Nat.mod_lt v hl), Nat.add_zero, Nat.mul_add_div hm,
      Nat.div_eq_of_lt (Nat.mod_lt x hm), Nat.add_zero]
  · have h0 : m + 1 - l = 0 := by omega
    simp [putFld, fld, h0, Nat.mod_one]

/-- What lies below a field is not touched by replacing it. -/
theorem putFld_mod_below (v m l x k : Nat) (h : k ≤ l) : putFld v m l x % 2 ^ k = v % 2 ^ k := by
  have hk : 2 ^ l = 2 ^ k * 2 ^ (l - k) := by rw [← Nat.pow_add]; congr 1; omega
  rw [putFld_split, hk, Nat.mul_assoc, Nat.mul_add_mod, Nat.mod_mul_right_mod]

/-- A field below the replaced one reads as before. -/
theorem fld_putFld_below (v m l x m' l' : Nat) (h : m' < l) : fld (putFld v m l x) m' l' = fld v m' l' := by
  by_cases hw : l' ≤ m'
  · unfold fld
    have e : ∀ u : Nat, u / 2 ^ l' % 2 ^ (m' + 1 - l') = u % 2 ^ (m' + 1) / 2 ^ l' := by
      intro u
      have : 2 ^ (m' + 1) = 2 ^ l' * 2 ^ (m' + 1 - l') := by rw [← Nat.pow_add]; congr 1; omega
      rw [this, Nat.mod_mul_right_div_self]
    rw [e, e, putFld_mod_below _ _ _ _ _ h]
  · have h0 : m' + 1 - l' = 0 := by omega
    simp [fld, h0, Nat.mod_one]

/-- A field above the replaced one reads as before. -/
theorem fld_putFld_above (v m l x m' l' : Nat) (h : m < l') : fld (putFld v m l x) m' l' = fld v m' l' := by
  unfold fld
  rw [putFld_div_above _ _ _ _ _ h]

/-- A bit as a one-bit field. -/
theorem bit_eq_fld (v i : Nat) : bit v i = (fld v i i == 1) := by
  have : i + 1 - i = 1 := by omega
  simp [bit, fld, this]

/-- The bit just put reads so. -/
@[simp] theorem bit_putBit_same (v i : Nat) (b : Bool) : bit (putBit v i b) i = b := by
  rw [bit_eq_fld, putBit, fld_putFld_same]
  have : i + 1 - i = 1 := by omega
  rw [this]
  cases b <;> simp [b2n]

/-- Another bit reads as before. -/
theorem bit_putBit_other (v i j : Nat) (b : Bool) (h : i ≠ j) : bit (putBit v i b) j = bit v j := by
  rw [bit_eq_fld, bit_eq_fld, putBit]
  rcases Nat.lt_or_gt_of_ne h with h | h
  · rw [fld_putFld_above _ _ _ _ _ _ h]
  · rw [fld_putFld_below _ _ _ _ _ _ h]

/-- A bit outside the replaced field reads as before. -/
theorem bit_putFld_outside (v m l x i : Nat) (h : i < l ∨ m < i) : bit (putFld v m l x) i = bit v i := by
  rw [bit_eq_fld, bit_eq_fld]
  rcases h with h | h
  · rw [fld_putFld_below _ _ _ _ _ _ h]
  · rw [fld_putFld_above _ _ _ _ _ _ h]

/-- A field of a value is below its width. -/
theorem fld_lt (v m l : Nat) : fld v m l < 2 ^ (m + 1 - l) := Nat.mod_lt _ (Nat.two_pow_pos _)

/-! ### Lists in order of a key -/

theorem insertOn_perm {α : Type} (key : α → Nat) (a : α) (l : List α) : (insertOn key a l).Perm (a :: l) := by
  induction l with
  | nil => exact .refl _
  | cons b bs ih =>
    unfold insertOn
    split
    · exact .refl _
    · exact (ih.cons b).trans (.swap a b bs)

/-- Ordering a list by a key neither loses nor adds an element. -/
theorem sortOn_perm {α : Type} (key : α → Nat) (l : List α) : (sortOn key l).Perm l := by
  induction l with
  | nil => exact .refl _
  | cons a as ih => exact (insertOn_perm key a _).trans (ih.cons a)

theorem insertOn_sorted {α : Type} (key : α → Nat) (a : α) (l : List α) (h : l.Pairwise fun x y => key x ≤ key y) :
    (insertOn key a l).Pairwise fun x y => key x ≤ key y := by
  induction l with
  | nil => exact List.pairwise_singleton _ _
  | cons b bs ih =>
    have hb := List.pairwise_cons.1 h
    unfold insertOn
    split
    · rename_i hab
      exact List.pairwise_cons.2 ⟨fun y hy => by
        rcases List.mem_cons.1 hy with rfl | hy
        · exact hab
        · exact Nat.le_trans hab (hb.1 y hy), h⟩
    · rename_i hab
      exact List.pairwise_cons.2 ⟨fun y hy => by
        rcases List.mem_cons.1 ((insertOn_perm key a bs).mem_iff.1 hy) with rfl | hy
        · omega
        · exact hb.1 y hy, ih hb.2⟩

/-- A list ordered by a key rises in it. -/
theorem sortOn_sorted {α : Type} (key : α → Nat) (l : List α) : (sortOn key l).Pairwise fun x y => key x ≤ key y := by
  induction l with
  | nil => exact .nil
  | cons a as ih => exact insertOn_sorted key a _ ih

end Sys2Proof.Machine
end

