-- ==== Sys2Proof/Laws/Store.lean ====
section
/-! SUPPORT. Reading after writing in the three plain-data stores, and that every write of a memory keeps its canonical form. -/

namespace Sys2Proof.Machine

variable {α : Type}

@[simp] theorem mapGet?_mapPut_same (m : NMap α) (k : Nat) (a : α) : mapGet? (mapPut m k a) k = some a := by
  induction m with
  | nil => simp [mapPut, mapGet?]
  | cons p m ih =>
    obtain ⟨k', a'⟩ := p
    simp only [mapPut]
    split
    · simp [mapGet?]
    · split
      · simp [mapGet?]
      · rename_i h1 h2
        simp only [mapGet?]
        rw [if_neg (by omega), ih]

theorem mapGet?_mapPut_other (m : NMap α) (k j : Nat) (a : α) (h : k ≠ j) : mapGet? (mapPut m k a) j = mapGet? m j := by
  induction m with
  | nil => simp [mapPut, mapGet?, h]
  | cons p m ih =>
    obtain ⟨k', a'⟩ := p
    simp only [mapPut]
    split
    · simp [mapGet?, h]
    · split
      · rename_i h1 h2
        subst h2
        simp [mapGet?, h]
      · simp only [mapGet?]
        rw [ih]

@[simp] theorem mapGet?_mapDel_same (m : NMap α) (k : Nat) : mapGet? (mapDel m k) k = none := by
  induction m with
  | nil => simp [mapDel, mapGet?]
  | cons p m ih =>
    obtain ⟨k', a'⟩ := p
    simp only [mapDel]
    split
    · exact ih
    · rename_i h
      simp only [mapGet?]
      rw [if_neg (fun e => h e.symm), ih]

theorem mapGet?_mapDel_other (m : NMap α) (k j : Nat) (h : k ≠ j) : mapGet? (mapDel m k) j = mapGet? m j := by
  induction m with
  | nil => simp [mapDel, mapGet?]
  | cons p m ih =>
    obtain ⟨k', a'⟩ := p
    simp only [mapDel]
    split
    · rename_i e
      subst e
      simp [mapGet?, h, ih]
    · simp only [mapGet?]
      rw [ih]

@[simp] theorem mapGet_mapPut_same (m : NMap α) (k : Nat) (a d : α) : mapGet (mapPut m k a) k d = a := by simp [mapGet]

theorem mapGet_mapPut_other (m : NMap α) (k j : Nat) (a d : α) (h : k ≠ j) : mapGet (mapPut m k a) j d = mapGet m j d := by
  simp [mapGet, mapGet?_mapPut_other m k j a h]

@[simp] theorem mapGet_mapSet_same [DecidableEq α] (m : NMap α) (k : Nat) (a d : α) : mapGet (mapSet m k a d) k d = a := by
  unfold mapSet
  split
  · rename_i h; simp [mapGet, h]
  · simp

theorem mapGet_mapSet_other [DecidableEq α] (m : NMap α) (k j : Nat) (a d e : α) (h : k ≠ j) :
    mapGet (mapSet m k a d) j e = mapGet m j e := by
  unfold mapSet
  split
  · simp [mapGet, mapGet?_mapDel_other m k j h]
  · exact mapGet_mapPut_other m k j a e h

@[simp] theorem setHas_setAdd_same (xs : List Nat) (k : Nat) : setHas (setAdd xs k) k = true := by
  induction xs with
  | nil => simp [setAdd, setHas]
  | cons x xs ih =>
    simp only [setAdd]
    split
    · simp [setHas]
    · split
      · rename_i h; simp [setHas, h]
      · simp [setHas, ih]

theorem setHas_setAdd_other (xs : List Nat) (k j : Nat) (h : k ≠ j) : setHas (setAdd xs k) j = setHas xs j := by
  induction xs with
  | nil => simp [setAdd, setHas, h]
  | cons x xs ih =>
    simp only [setAdd]
    split
    · simp [setHas, h]
    · split
      · rfl
      · simp [setHas, ih]

@[simp] theorem setHas_setDel_same (xs : List Nat) (k : Nat) : setHas (setDel xs k) k = false := by
  induction xs with
  | nil => simp [setDel, setHas]
  | cons x xs ih =>
    simp only [setDel]
    split
    · exact ih
    · rename_i h
      have h' : (x == k) = false := by simp; exact fun e => h e.symm
      simp [setHas, ih, h']

theorem setHas_setDel_other (xs : List Nat) (k j : Nat) (h : k ≠ j) : setHas (setDel xs k) j = setHas xs j := by
  induction xs with
  | nil => simp [setDel, setHas]
  | cons x xs ih =>
    simp only [setDel]
    split
    · rename_i e; subst e; simp [setHas, ih, h]
    · simp [setHas, ih]

/-! ### Memories -/

theorem memByte_memPut (m : Mem) (a : Nat) (b : Byte) (j : Nat) :
    memByte (memPut m a b) j = if a = j then b else memByte m j := by
  induction m with
  | nil => simp [memPut, memByte]
  | cons p m ih =>
    obtain ⟨a', b'⟩ := p
    simp only [memPut]
    split
    · simp [memByte]
    · split
      · rename_i h; subst h
        simp only [memByte]
        split <;> rfl
      · simp only [memByte, ih]
        split
        · rename_i h1 h2 h3; subst h3; simp [h2]
        · rfl

theorem memByte_memClear (m : Mem) (a j : Nat) : memByte (memClear m a) j = if a = j then 0 else memByte m j := by
  induction m with
  | nil => simp [memClear, memByte]
  | cons p m ih =>
    obtain ⟨a', b'⟩ := p
    simp only [memClear]
    split
    · rename_i h; subst h
      rw [ih]
      split
      · rfl
      · rename_i h2; simp [memByte, h2]
    · simp only [memByte, ih]
      split
      · rename_i h1 h2; subst h2; simp [h1]
      · rfl

/-- One byte read after one byte written. -/
theorem memByte_memWrite (m : Mem) (a : Nat) (b : Byte) (j : Nat) :
    memByte (memWrite m a b) j = if a = j then b else memByte m j := by
  unfold memWrite
  split
  · rename_i h; rw [memByte_memClear, h]
  · exact memByte_memPut m a b j

/-- A byte outside the written ones reads as before. -/
theorem memByte_memWriteAll_outside (bs : Bytes) (m : Mem) (a j : Nat) (h : j < a ∨ a + bs.length ≤ j) :
    memByte (memWriteAll m a bs) j = memByte m j := by
  induction bs generalizing m a with
  | nil => rfl
  | cons b bs ih =>
    simp only [memWriteAll]
    simp only [List.length_cons] at h
    rw [ih _ _ (by omega), memByte_memWrite, if_neg (by omega)]

/-- A written byte reads what was written. -/
theorem memByte_memWriteAll_inside (bs : Bytes) (m : Mem) (a i : Nat) (h : i < bs.length) :
    memByte (memWriteAll m a bs) (a + i) = bs[i] := by
  induction bs generalizing m a i with
  | nil => simp at h
  | cons b bs ih =>
    simp only [memWriteAll]
    cases i with
    | zero => rw [memByte_memWriteAll_outside _ _ _ _ (by omega), memByte_memWrite]; simp
    | succ i =>
      have : a + (i + 1) = (a + 1) + i := by omega
      rw [this, ih (memWrite m a b) (a + 1) i (by simpa using h)]
      simp

/-- What a read of the written range gives. -/
theorem memRead_memWriteAll (bs : Bytes) (m : Mem) (a : Nat) : memRead (memWriteAll m a bs) a bs.length = bs := by
  induction bs generalizing m a with
  | nil => rfl
  | cons b bs ih =>
    simp only [List.length_cons, memRead, memWriteAll]
    rw [ih, memByte_memWriteAll_outside _ _ _ _ (by omega), memByte_memWrite]
    simp

/-- Every address a canonical memory lists is above a bound that lies below its first one. -/
def memAbove (a : Nat) : Mem → Prop
  | [] => True
  | (a', _) :: _ => a < a'

theorem memWf_cons (a : Nat) (b : Byte) (m : Mem) : memWf ((a, b) :: m) = true ↔ b ≠ 0 ∧ memAbove a m ∧ memWf m = true := by
  cases m with
  | nil => simp [memWf, memAbove]
  | cons p m => obtain ⟨a', b'⟩ := p; simp [memWf, memAbove, and_assoc]

theorem memAbove_memPut (m : Mem) (x a : Nat) (b : Byte) (hx : x < a) (h : memAbove x m) : memAbove x (memPut m a b) := by
  cases m with
  | nil => exact hx
  | cons p m =>
    obtain ⟨a', b'⟩ := p
    simp only [memPut]
    split
    · exact hx
    · split
      · exact hx
      · exact h

theorem memWf_memPut (m : Mem) (a : Nat) (b : Byte) (hb : b ≠ 0) (h : memWf m = true) : memWf (memPut m a b) = true := by
  induction m with
  | nil => simpa [memPut, memWf] using hb
  | cons p m ih =>
    obtain ⟨a', b'⟩ := p
    obtain ⟨h1, h2, h3⟩ := (memWf_cons a' b' m).mp h
    simp only [memPut]
    split
    · rename_i hlt
      exact (memWf_cons _ _ _).mpr ⟨hb, hlt, h⟩
    · split
      · rename_i he; subst he
        exact (memWf_cons _ _ _).mpr ⟨hb, h2, h3⟩
      · exact (memWf_cons _ _ _).mpr ⟨h1, memAbove_memPut m a' a b (by omega) h2, ih h3⟩

theorem memAbove_trans (x y : Nat) (m : Mem) (h : x < y) (hm : memAbove y m) : memAbove x m := by
  cases m with
  | nil => trivial
  | cons p m => exact Nat.lt_trans h hm

theorem memAbove_memClear (m : Mem) (x a : Nat) (hw : memWf m = true) (h : memAbove x m) : memAbove x (memClear m a) := by
  induction m with
  | nil => trivial
  | cons p m ih =>
    obtain ⟨a', b'⟩ := p
    obtain ⟨_, h2, h3⟩ := (memWf_cons a' b' m).mp hw
    simp only [memClear]
    split
    · exact ih h3 (memAbove_trans x a' m h h2)
    · exact h

theorem memWf_memClear (m : Mem) (a : Nat) (h : memWf m = true) : memWf (memClear m a) = true := by
  induction m with
  | nil => rfl
  | cons p m ih =>
    obtain ⟨a', b'⟩ := p
    obtain ⟨h1, h2, h3⟩ := (memWf_cons a' b' m).mp h
    simp only [memClear]
    split
    · exact ih h3
    · exact (memWf_cons _ _ _).mpr ⟨h1, memAbove_memClear m a' a h3 h2, ih h3⟩

/-- Writing a byte keeps the canonical form. -/
theorem memWf_memWrite (m : Mem) (a : Nat) (b : Byte) (h : memWf m = true) : memWf (memWrite m a b) = true := by
  unfold memWrite
  split
  · exact memWf_memClear m a h
  · rename_i hb; exact memWf_memPut m a b hb h

/-- Writing bytes keeps the canonical form. -/
theorem memWf_memWriteAll (bs : Bytes) (m : Mem) (a : Nat) (h : memWf m = true) : memWf (memWriteAll m a bs) = true := by
  induction bs generalizing m a with
  | nil => exact h
  | cons b bs ih => exact ih _ _ (memWf_memWrite m a b h)

end Sys2Proof.Machine
end

