-- ==== Sys2Proof/Laws/Ops.lean ====
section
/-! SUPPORT. One lemma per shared operation: what a read gives after a write of the Chart, what counting and free values leave, and
everything that the outcome of a command can be. -/

namespace Sys2Proof.Machine

/-! ### Outcomes -/

/-- A device meaning answers a next state exactly where its command names units of the device; it changes nothing but the device. -/
theorem onDev_next (w : Bool) (f : Clk → Device → Device) (s t : State) :
    onDev w f s = .next t ↔ w = true ∧ t = { s with dev := f s.clk s.dev } := by
  cases w <;> simp [onDev, eq_comm]

/-- The same with device time. -/
theorem onClk_next (w : Bool) (f : Clk → Device → Clk × Device) (s t : State) :
    onClk w f s = .next t ↔ w = true ∧ t = { s with clk := (f s.clk s.dev).1, dev := (f s.clk s.dev).2 } := by
  cases w <;> simp [onClk, eq_comm]

@[simp] theorem onDev_true (f : Clk → Device → Device) (s : State) : onDev true f s = .next { s with dev := f s.clk s.dev } := rfl
@[simp] theorem onDev_false (f : Clk → Device → Device) (s : State) : onDev false f s = .fault .noSuchUnit := rfl
@[simp] theorem onClk_true (f : Clk → Device → Clk × Device) (s : State) :
    onClk true f s = .next { s with clk := (f s.clk s.dev).1, dev := (f s.clk s.dev).2 } := rfl
@[simp] theorem onClk_false (f : Clk → Device → Clk × Device) (s : State) : onClk false f s = .fault .noSuchUnit := rfl

/-! ### The Chart -/

theorem chartKey_inj {o e o' e' : Nat} (h : e < 65536) (h' : e' < 65536) : chartKey o e = chartKey o' e' ↔ o = o' ∧ e = e' := by
  unfold chartKey; omega

/-- The element just set reads its value. -/
@[simp] theorem Device.get_set_same (d : Device) (o e v : Nat) : (d.set o e v).get o e = v := by
  simp [Device.get, Device.set]

/-- Every other element reads as before. -/
theorem Device.get_set_other (d : Device) (o e v o' e' : Nat) (h : chartKey o e ≠ chartKey o' e') :
    (d.set o e v).get o' e' = d.get o' e' := by
  simp [Device.get, Device.set, mapGet_mapSet_other _ _ _ _ _ _ h]

/-- Elements of other objects read as before. -/
theorem Device.get_set_object (d : Device) (o e v o' e' : Nat) (h : e < 65536) (h' : e' < 65536) (ho : o ≠ o') :
    (d.set o e v).get o' e' = d.get o' e' :=
  Device.get_set_other d o e v o' e' fun k => ho ((chartKey_inj h h').mp k).1

/-- Other elements of an object read as before. -/
theorem Device.get_set_element (d : Device) (o e v e' : Nat) (h : e ≠ e') : (d.set o e v).get o e' = d.get o e' :=
  Device.get_set_other d o e v o e' (by unfold chartKey; omega)

/-- The field just set reads the low bits of its value. -/
@[simp] theorem Device.rd_setFld_same (d : Device) (o e m l v : Nat) : (d.setFld o e m l v).rd o e m l = v % 2 ^ (m + 1 - l) := by
  simp [Device.rd, Device.setFld]

theorem Device.rd_setFld_above (d : Device) (o e m l v m' l' : Nat) (h : m < l') :
    (d.setFld o e m l v).rd o e m' l' = d.rd o e m' l' := by
  simp [Device.rd, Device.setFld, fld_putFld_above _ _ _ _ _ _ h]

theorem Device.rd_setFld_below (d : Device) (o e m l v m' l' : Nat) (h : m' < l) :
    (d.setFld o e m l v).rd o e m' l' = d.rd o e m' l' := by
  simp [Device.rd, Device.setFld, fld_putFld_below _ _ _ _ _ _ h]

theorem Device.get_setFld_other (d : Device) (o e m l v o' e' : Nat) (h : chartKey o e ≠ chartKey o' e') :
    (d.setFld o e m l v).get o' e' = d.get o' e' := Device.get_set_other d o e _ o' e' h

/-- A counter reads its old value and what was added, modulo its width. -/
@[simp] theorem Device.rd_count_same (d : Device) (o e m l n : Nat) :
    (d.count o e m l n).rd o e m l = (d.rd o e m l + n) % 2 ^ (m + 1 - l) := by
  simp [Device.count]

@[simp] theorem Device.get_tally_same (d : Device) (o e n : Nat) : (d.tally o e n).get o e = (d.get o e + n) % 2 ^ 64 := by
  simp [Device.tally]

/-- The `k`-th 64-bit field of a counter record after it advanced. -/
theorem Device.rd_bump_same (d : Device) (o e n k i : Nat) :
    (d.bump o e n k i).rd o e (64 * (n - k) - 1) (64 * (n - 1 - k))
      = (d.rd o e (64 * (n - k) - 1) (64 * (n - 1 - k)) + i) % 2 ^ (64 * (n - k) - 1 + 1 - 64 * (n - 1 - k)) := by
  simp [Device.bump]

/-! ### Free values and reports -/

/-- A draw advances the counter of free values and changes nothing else. -/
theorem Device.draw_snd (d : Device) : d.draw.2 = { d with free := d.free + 1 } := rfl

/-- A report by a detector that has none waiting takes its place behind the events of earlier clocks. -/
theorem reportInto_fresh (older : Nat) (ws : List Report) (r : Report) (h : ws.any r.same = false) :
    reportInto older ws r = ws.take older ++ reportAmong r (ws.drop older) := by
  simp [reportInto, h]

/-- A report by a detector that has one waiting adds no event. -/
theorem reportInto_merged (older : Nat) (ws : List Report) (r : Report) (h : ws.any r.same = true) :
    (reportInto older ws r).length = ws.length := by
  simp [reportInto, h]

/-- The Lookout is without clock in RESET: nothing is reported there. -/
theorem Device.raiseBy_reset (d : Device) (src tgt det code : Nat) (h : d.state = St.reset) : d.raiseBy src tgt det code = d := by
  simp [Device.raiseBy, h]

/-- A report changes the waiting events only. -/
theorem Device.raiseBy_frame (d : Device) (src tgt det code : Nat) :
    d.raiseBy src tgt det code = { d with look := { d.look with waiting := (d.raiseBy src tgt det code).look.waiting } } := by
  unfold Device.raiseBy
  split <;> rfl

/-- A condition just set reads so. -/
@[simp] theorem Device.condition_setCondition (d : Device) (src tgt : Nat) (on : Bool) : (d.setCondition src tgt on).condition src tgt = on := by
  cases on <;> simp [Device.condition, Device.setCondition, setTo]

/-- The device's own frame joins the frames sent, or waits behind a forwarded one. -/
theorem Device.sendOwn_frame (d : Device) (port : Nat) (f : Bytes) :
    d.sendOwn port f = { d with mgmt := { d.mgmt with own := (d.sendOwn port f).mgmt.own, sent := (d.sendOwn port f).mgmt.sent } } := by
  unfold Device.sendOwn
  split <;> rfl

end Sys2Proof.Machine
end

