-- ==== Sys2Proof/Laws/State.lean ====
section
/-! SUPPORT. What each update of the device leaves of its other parts, one lemma per part and update, true by computation. -/

namespace Sys2Proof.Machine

variable (d : Device) (o e m l v n k i : Nat)

@[simp] theorem Device.set_queueStore : (d.set o e v).queueStore = d.queueStore := rfl
@[simp] theorem Device.set_mgmt : (d.set o e v).mgmt = d.mgmt := rfl
@[simp] theorem Device.set_wq : (d.set o e v).wq = d.wq := rfl
@[simp] theorem Device.set_ports : (d.set o e v).ports = d.ports := rfl
@[simp] theorem Device.set_sl : (d.set o e v).sl = d.sl := rfl
@[simp] theorem Device.set_tbl : (d.set o e v).tbl = d.tbl := rfl
@[simp] theorem Device.set_eng : (d.set o e v).eng = d.eng := rfl
@[simp] theorem Device.set_img : (d.set o e v).img = d.img := rfl
@[simp] theorem Device.set_buf : (d.set o e v).buf = d.buf := rfl
@[simp] theorem Device.set_hbm : (d.set o e v).hbm = d.hbm := rfl
@[simp] theorem Device.set_tm : (d.set o e v).tm = d.tm := rfl
@[simp] theorem Device.set_time : (d.set o e v).time = d.time := rfl
@[simp] theorem Device.set_look : (d.set o e v).look = d.look := rfl
@[simp] theorem Device.set_cross : (d.set o e v).cross = d.cross := rfl
@[simp] theorem Device.set_log : (d.set o e v).log = d.log := rfl
@[simp] theorem Device.set_pwr : (d.set o e v).pwr = d.pwr := rfl
@[simp] theorem Device.set_sx : (d.set o e v).sx = d.sx := rfl
@[simp] theorem Device.set_free : (d.set o e v).free = d.free := rfl

@[simp] theorem Device.setFld_queueStore : (d.setFld o e m l v).queueStore = d.queueStore := rfl
@[simp] theorem Device.setFld_mgmt : (d.setFld o e m l v).mgmt = d.mgmt := rfl
@[simp] theorem Device.setFld_wq : (d.setFld o e m l v).wq = d.wq := rfl
@[simp] theorem Device.setFld_ports : (d.setFld o e m l v).ports = d.ports := rfl
@[simp] theorem Device.setFld_sl : (d.setFld o e m l v).sl = d.sl := rfl
@[simp] theorem Device.setFld_tbl : (d.setFld o e m l v).tbl = d.tbl := rfl
@[simp] theorem Device.setFld_eng : (d.setFld o e m l v).eng = d.eng := rfl
@[simp] theorem Device.setFld_img : (d.setFld o e m l v).img = d.img := rfl
@[simp] theorem Device.setFld_buf : (d.setFld o e m l v).buf = d.buf := rfl
@[simp] theorem Device.setFld_hbm : (d.setFld o e m l v).hbm = d.hbm := rfl
@[simp] theorem Device.setFld_tm : (d.setFld o e m l v).tm = d.tm := rfl
@[simp] theorem Device.setFld_time : (d.setFld o e m l v).time = d.time := rfl
@[simp] theorem Device.setFld_look : (d.setFld o e m l v).look = d.look := rfl
@[simp] theorem Device.setFld_cross : (d.setFld o e m l v).cross = d.cross := rfl
@[simp] theorem Device.setFld_log : (d.setFld o e m l v).log = d.log := rfl
@[simp] theorem Device.setFld_pwr : (d.setFld o e m l v).pwr = d.pwr := rfl
@[simp] theorem Device.setFld_sx : (d.setFld o e m l v).sx = d.sx := rfl
@[simp] theorem Device.setFld_free : (d.setFld o e m l v).free = d.free := rfl

@[simp] theorem Device.count_queueStore : (d.count o e m l n).queueStore = d.queueStore := rfl
@[simp] theorem Device.count_mgmt : (d.count o e m l n).mgmt = d.mgmt := rfl
@[simp] theorem Device.count_wq : (d.count o e m l n).wq = d.wq := rfl
@[simp] theorem Device.count_ports : (d.count o e m l n).ports = d.ports := rfl
@[simp] theorem Device.count_sl : (d.count o e m l n).sl = d.sl := rfl
@[simp] theorem Device.count_tbl : (d.count o e m l n).tbl = d.tbl := rfl
@[simp] theorem Device.count_eng : (d.count o e m l n).eng = d.eng := rfl
@[simp] theorem Device.count_img : (d.count o e m l n).img = d.img := rfl
@[simp] theorem Device.count_buf : (d.count o e m l n).buf = d.buf := rfl
@[simp] theorem Device.count_hbm : (d.count o e m l n).hbm = d.hbm := rfl
@[simp] theorem Device.count_tm : (d.count o e m l n).tm = d.tm := rfl
@[simp] theorem Device.count_time : (d.count o e m l n).time = d.time := rfl
@[simp] theorem Device.count_look : (d.count o e m l n).look = d.look := rfl
@[simp] theorem Device.count_cross : (d.count o e m l n).cross = d.cross := rfl
@[simp] theorem Device.count_log : (d.count o e m l n).log = d.log := rfl
@[simp] theorem Device.count_pwr : (d.count o e m l n).pwr = d.pwr := rfl
@[simp] theorem Device.count_sx : (d.count o e m l n).sx = d.sx := rfl
@[simp] theorem Device.count_free : (d.count o e m l n).free = d.free := rfl

@[simp] theorem Device.tally_queueStore : (d.tally o e n).queueStore = d.queueStore := rfl
@[simp] theorem Device.tally_mgmt : (d.tally o e n).mgmt = d.mgmt := rfl
@[simp] theorem Device.tally_wq : (d.tally o e n).wq = d.wq := rfl
@[simp] theorem Device.tally_ports : (d.tally o e n).ports = d.ports := rfl
@[simp] theorem Device.tally_sl : (d.tally o e n).sl = d.sl := rfl
@[simp] theorem Device.tally_tbl : (d.tally o e n).tbl = d.tbl := rfl
@[simp] theorem Device.tally_eng : (d.tally o e n).eng = d.eng := rfl
@[simp] theorem Device.tally_img : (d.tally o e n).img = d.img := rfl
@[simp] theorem Device.tally_buf : (d.tally o e n).buf = d.buf := rfl
@[simp] theorem Device.tally_hbm : (d.tally o e n).hbm = d.hbm := rfl
@[simp] theorem Device.tally_tm : (d.tally o e n).tm = d.tm := rfl
@[simp] theorem Device.tally_time : (d.tally o e n).time = d.time := rfl
@[simp] theorem Device.tally_look : (d.tally o e n).look = d.look := rfl
@[simp] theorem Device.tally_cross : (d.tally o e n).cross = d.cross := rfl
@[simp] theorem Device.tally_log : (d.tally o e n).log = d.log := rfl
@[simp] theorem Device.tally_pwr : (d.tally o e n).pwr = d.pwr := rfl
@[simp] theorem Device.tally_sx : (d.tally o e n).sx = d.sx := rfl
@[simp] theorem Device.tally_free : (d.tally o e n).free = d.free := rfl

@[simp] theorem Device.bump_queueStore : (d.bump o e n k i).queueStore = d.queueStore := rfl
@[simp] theorem Device.bump_mgmt : (d.bump o e n k i).mgmt = d.mgmt := rfl
@[simp] theorem Device.bump_wq : (d.bump o e n k i).wq = d.wq := rfl
@[simp] theorem Device.bump_ports : (d.bump o e n k i).ports = d.ports := rfl
@[simp] theorem Device.bump_sl : (d.bump o e n k i).sl = d.sl := rfl
@[simp] theorem Device.bump_tbl : (d.bump o e n k i).tbl = d.tbl := rfl
@[simp] theorem Device.bump_eng : (d.bump o e n k i).eng = d.eng := rfl
@[simp] theorem Device.bump_img : (d.bump o e n k i).img = d.img := rfl
@[simp] theorem Device.bump_buf : (d.bump o e n k i).buf = d.buf := rfl
@[simp] theorem Device.bump_hbm : (d.bump o e n k i).hbm = d.hbm := rfl
@[simp] theorem Device.bump_tm : (d.bump o e n k i).tm = d.tm := rfl
@[simp] theorem Device.bump_time : (d.bump o e n k i).time = d.time := rfl
@[simp] theorem Device.bump_look : (d.bump o e n k i).look = d.look := rfl
@[simp] theorem Device.bump_cross : (d.bump o e n k i).cross = d.cross := rfl
@[simp] theorem Device.bump_log : (d.bump o e n k i).log = d.log := rfl
@[simp] theorem Device.bump_pwr : (d.bump o e n k i).pwr = d.pwr := rfl
@[simp] theorem Device.bump_sx : (d.bump o e n k i).sx = d.sx := rfl
@[simp] theorem Device.bump_free : (d.bump o e n k i).free = d.free := rfl

@[simp] theorem Device.spend_queueStore : d.spend.queueStore = d.queueStore := rfl
@[simp] theorem Device.spend_mgmt : d.spend.mgmt = d.mgmt := rfl
@[simp] theorem Device.spend_wq : d.spend.wq = d.wq := rfl
@[simp] theorem Device.spend_ports : d.spend.ports = d.ports := rfl
@[simp] theorem Device.spend_sl : d.spend.sl = d.sl := rfl
@[simp] theorem Device.spend_tbl : d.spend.tbl = d.tbl := rfl
@[simp] theorem Device.spend_eng : d.spend.eng = d.eng := rfl
@[simp] theorem Device.spend_img : d.spend.img = d.img := rfl
@[simp] theorem Device.spend_buf : d.spend.buf = d.buf := rfl
@[simp] theorem Device.spend_hbm : d.spend.hbm = d.hbm := rfl
@[simp] theorem Device.spend_tm : d.spend.tm = d.tm := rfl
@[simp] theorem Device.spend_time : d.spend.time = d.time := rfl
@[simp] theorem Device.spend_look : d.spend.look = d.look := rfl
@[simp] theorem Device.spend_cross : d.spend.cross = d.cross := rfl
@[simp] theorem Device.spend_log : d.spend.log = d.log := rfl
@[simp] theorem Device.spend_pwr : d.spend.pwr = d.pwr := rfl
@[simp] theorem Device.spend_sx : d.spend.sx = d.sx := rfl
@[simp] theorem Device.spend_chart : d.spend.chart = d.chart := rfl

@[simp] theorem Device.spend_get : d.spend.get o e = d.get o e := rfl
@[simp] theorem Device.get_with_queueStore (x : Mem) : ({ d with queueStore := x } : Device).get o e = d.get o e := rfl
@[simp] theorem Device.get_with_mgmt (x : Mgmt) : ({ d with mgmt := x } : Device).get o e = d.get o e := rfl
@[simp] theorem Device.get_with_wq (x : Wq) : ({ d with wq := x } : Device).get o e = d.get o e := rfl
@[simp] theorem Device.get_with_ports (x : Ports) : ({ d with ports := x } : Device).get o e = d.get o e := rfl
@[simp] theorem Device.get_with_sl (x : Slices) : ({ d with sl := x } : Device).get o e = d.get o e := rfl
@[simp] theorem Device.get_with_tbl (x : Tables) : ({ d with tbl := x } : Device).get o e = d.get o e := rfl
@[simp] theorem Device.get_with_eng (x : Engines) : ({ d with eng := x } : Device).get o e = d.get o e := rfl
@[simp] theorem Device.get_with_img (x : Images) : ({ d with img := x } : Device).get o e = d.get o e := rfl
@[simp] theorem Device.get_with_buf (x : Buffer) : ({ d with buf := x } : Device).get o e = d.get o e := rfl
@[simp] theorem Device.get_with_hbm (x : Hbm) : ({ d with hbm := x } : Device).get o e = d.get o e := rfl
@[simp] theorem Device.get_with_tm (x : Tm) : ({ d with tm := x } : Device).get o e = d.get o e := rfl
@[simp] theorem Device.get_with_time (x : TimeUnit) : ({ d with time := x } : Device).get o e = d.get o e := rfl
@[simp] theorem Device.get_with_look (x : Look) : ({ d with look := x } : Device).get o e = d.get o e := rfl
@[simp] theorem Device.get_with_cross (x : Crossings) : ({ d with cross := x } : Device).get o e = d.get o e := rfl
@[simp] theorem Device.get_with_log (x : Logline) : ({ d with log := x } : Device).get o e = d.get o e := rfl
@[simp] theorem Device.get_with_pwr (x : Power) : ({ d with pwr := x } : Device).get o e = d.get o e := rfl
@[simp] theorem Device.get_with_sx (x : Sextant) : ({ d with sx := x } : Device).get o e = d.get o e := rfl
@[simp] theorem Device.get_with_free (x : Nat) : ({ d with free := x } : Device).get o e = d.get o e := rfl

variable (src tgt det code : Nat) (on : Bool)
@[simp] theorem Device.setCondition_queueStore : (d.setCondition src tgt on).queueStore = d.queueStore := rfl
@[simp] theorem Device.openShadow_queueStore : (d.openShadow tgt).queueStore = d.queueStore := rfl
@[simp] theorem Device.raiseBy_queueStore : (d.raiseBy src tgt det code).queueStore = d.queueStore := by rw [Device.raiseBy_frame]
@[simp] theorem Device.raise_queueStore : (d.raise src tgt code).queueStore = d.queueStore := Device.raiseBy_queueStore d src tgt 0 code
@[simp] theorem Device.setCondition_mgmt : (d.setCondition src tgt on).mgmt = d.mgmt := rfl
@[simp] theorem Device.openShadow_mgmt : (d.openShadow tgt).mgmt = d.mgmt := rfl
@[simp] theorem Device.raiseBy_mgmt : (d.raiseBy src tgt det code).mgmt = d.mgmt := by rw [Device.raiseBy_frame]
@[simp] theorem Device.raise_mgmt : (d.raise src tgt code).mgmt = d.mgmt := Device.raiseBy_mgmt d src tgt 0 code
@[simp] theorem Device.setCondition_wq : (d.setCondition src tgt on).wq = d.wq := rfl
@[simp] theorem Device.openShadow_wq : (d.openShadow tgt).wq = d.wq := rfl
@[simp] theorem Device.raiseBy_wq : (d.raiseBy src tgt det code).wq = d.wq := by rw [Device.raiseBy_frame]
@[simp] theorem Device.raise_wq : (d.raise src tgt code).wq = d.wq := Device.raiseBy_wq d src tgt 0 code
@[simp] theorem Device.setCondition_ports : (d.setCondition src tgt on).ports = d.ports := rfl
@[simp] theorem Device.openShadow_ports : (d.openShadow tgt).ports = d.ports := rfl
@[simp] theorem Device.raiseBy_ports : (d.raiseBy src tgt det code).ports = d.ports := by rw [Device.raiseBy_frame]
@[simp] theorem Device.raise_ports : (d.raise src tgt code).ports = d.ports := Device.raiseBy_ports d src tgt 0 code
@[simp] theorem Device.setCondition_sl : (d.setCondition src tgt on).sl = d.sl := rfl
@[simp] theorem Device.openShadow_sl : (d.openShadow tgt).sl = d.sl := rfl
@[simp] theorem Device.raiseBy_sl : (d.raiseBy src tgt det code).sl = d.sl := by rw [Device.raiseBy_frame]
@[simp] theorem Device.raise_sl : (d.raise src tgt code).sl = d.sl := Device.raiseBy_sl d src tgt 0 code
@[simp] theorem Device.setCondition_tbl : (d.setCondition src tgt on).tbl = d.tbl := rfl
@[simp] theorem Device.openShadow_tbl : (d.openShadow tgt).tbl = d.tbl := rfl
@[simp] theorem Device.raiseBy_tbl : (d.raiseBy src tgt det code).tbl = d.tbl := by rw [Device.raiseBy_frame]
@[simp] theorem Device.raise_tbl : (d.raise src tgt code).tbl = d.tbl := Device.raiseBy_tbl d src tgt 0 code
@[simp] theorem Device.setCondition_eng : (d.setCondition src tgt on).eng = d.eng := rfl
@[simp] theorem Device.openShadow_eng : (d.openShadow tgt).eng = d.eng := rfl
@[simp] theorem Device.raiseBy_eng : (d.raiseBy src tgt det code).eng = d.eng := by rw [Device.raiseBy_frame]
@[simp] theorem Device.raise_eng : (d.raise src tgt code).eng = d.eng := Device.raiseBy_eng d src tgt 0 code
@[simp] theorem Device.setCondition_img : (d.setCondition src tgt on).img = d.img := rfl
@[simp] theorem Device.openShadow_img : (d.openShadow tgt).img = d.img := rfl
@[simp] theorem Device.raiseBy_img : (d.raiseBy src tgt det code).img = d.img := by rw [Device.raiseBy_frame]
@[simp] theorem Device.raise_img : (d.raise src tgt code).img = d.img := Device.raiseBy_img d src tgt 0 code
@[simp] theorem Device.setCondition_buf : (d.setCondition src tgt on).buf = d.buf := rfl
@[simp] theorem Device.openShadow_buf : (d.openShadow tgt).buf = d.buf := rfl
@[simp] theorem Device.raiseBy_buf : (d.raiseBy src tgt det code).buf = d.buf := by rw [Device.raiseBy_frame]
@[simp] theorem Device.raise_buf : (d.raise src tgt code).buf = d.buf := Device.raiseBy_buf d src tgt 0 code
@[simp] theorem Device.setCondition_hbm : (d.setCondition src tgt on).hbm = d.hbm := rfl
@[simp] theorem Device.openShadow_hbm : (d.openShadow tgt).hbm = d.hbm := rfl
@[simp] theorem Device.raiseBy_hbm : (d.raiseBy src tgt det code).hbm = d.hbm := by rw [Device.raiseBy_frame]
@[simp] theorem Device.raise_hbm : (d.raise src tgt code).hbm = d.hbm := Device.raiseBy_hbm d src tgt 0 code
@[simp] theorem Device.setCondition_tm : (d.setCondition src tgt on).tm = d.tm := rfl
@[simp] theorem Device.openShadow_tm : (d.openShadow tgt).tm = d.tm := rfl
@[simp] theorem Device.raiseBy_tm : (d.raiseBy src tgt det code).tm = d.tm := by rw [Device.raiseBy_frame]
@[simp] theorem Device.raise_tm : (d.raise src tgt code).tm = d.tm := Device.raiseBy_tm d src tgt 0 code
@[simp] theorem Device.setCondition_time : (d.setCondition src tgt on).time = d.time := rfl
@[simp] theorem Device.openShadow_time : (d.openShadow tgt).time = d.time := rfl
@[simp] theorem Device.raiseBy_time : (d.raiseBy src tgt det code).time = d.time := by rw [Device.raiseBy_frame]
@[simp] theorem Device.raise_time : (d.raise src tgt code).time = d.time := Device.raiseBy_time d src tgt 0 code
@[simp] theorem Device.setCondition_cross : (d.setCondition src tgt on).cross = d.cross := rfl
@[simp] theorem Device.openShadow_cross : (d.openShadow tgt).cross = d.cross := rfl
@[simp] theorem Device.raiseBy_cross : (d.raiseBy src tgt det code).cross = d.cross := by rw [Device.raiseBy_frame]
@[simp] theorem Device.raise_cross : (d.raise src tgt code).cross = d.cross := Device.raiseBy_cross d src tgt 0 code
@[simp] theorem Device.setCondition_log : (d.setCondition src tgt on).log = d.log := rfl
@[simp] theorem Device.openShadow_log : (d.openShadow tgt).log = d.log := rfl
@[simp] theorem Device.raiseBy_log : (d.raiseBy src tgt det code).log = d.log := by rw [Device.raiseBy_frame]
@[simp] theorem Device.raise_log : (d.raise src tgt code).log = d.log := Device.raiseBy_log d src tgt 0 code
@[simp] theorem Device.setCondition_pwr : (d.setCondition src tgt on).pwr = d.pwr := rfl
@[simp] theorem Device.openShadow_pwr : (d.openShadow tgt).pwr = d.pwr := rfl
@[simp] theorem Device.raiseBy_pwr : (d.raiseBy src tgt det code).pwr = d.pwr := by rw [Device.raiseBy_frame]
@[simp] theorem Device.raise_pwr : (d.raise src tgt code).pwr = d.pwr := Device.raiseBy_pwr d src tgt 0 code
@[simp] theorem Device.setCondition_sx : (d.setCondition src tgt on).sx = d.sx := rfl
@[simp] theorem Device.openShadow_sx : (d.openShadow tgt).sx = d.sx := rfl
@[simp] theorem Device.raiseBy_sx : (d.raiseBy src tgt det code).sx = d.sx := by rw [Device.raiseBy_frame]
@[simp] theorem Device.raise_sx : (d.raise src tgt code).sx = d.sx := Device.raiseBy_sx d src tgt 0 code
@[simp] theorem Device.setCondition_free : (d.setCondition src tgt on).free = d.free := rfl
@[simp] theorem Device.openShadow_free : (d.openShadow tgt).free = d.free := rfl
@[simp] theorem Device.raiseBy_free : (d.raiseBy src tgt det code).free = d.free := by rw [Device.raiseBy_frame]
@[simp] theorem Device.raise_free : (d.raise src tgt code).free = d.free := Device.raiseBy_free d src tgt 0 code
@[simp] theorem Device.setCondition_get : (d.setCondition src tgt on).get o e = d.get o e := rfl
@[simp] theorem Device.openShadow_get : (d.openShadow tgt).get o e = d.get o e := rfl
@[simp] theorem Device.raiseBy_get : (d.raiseBy src tgt det code).get o e = d.get o e := by rw [Device.raiseBy_frame]; rfl
@[simp] theorem Device.raise_get : (d.raise src tgt code).get o e = d.get o e := Device.raiseBy_get d o e src tgt 0 code

end Sys2Proof.Machine
end

