-- ==== Sys2Proof/Laws/Hbm.lean ====
section
/-! SUPPORT. The shared operations over the HBM stacks: what each leaves of the device's other parts, and what a churn bit, an owed count,
a waiting copy and a poisoned block are after it. -/

namespace Sys2Proof.Machine

variable (d : Device) (c : Clk) (s t b k n pc : Nat)

@[simp] theorem Device.setStack_queueStore : (d.setStack c s n).queueStore = d.queueStore := (Device.setFld_queueStore ..).trans (Device.setFld_queueStore ..)
@[simp] theorem Device.setStack_mgmt : (d.setStack c s n).mgmt = d.mgmt := (Device.setFld_mgmt ..).trans (Device.setFld_mgmt ..)
@[simp] theorem Device.setStack_wq : (d.setStack c s n).wq = d.wq := (Device.setFld_wq ..).trans (Device.setFld_wq ..)
@[simp] theorem Device.setStack_ports : (d.setStack c s n).ports = d.ports := (Device.setFld_ports ..).trans (Device.setFld_ports ..)
@[simp] theorem Device.setStack_sl : (d.setStack c s n).sl = d.sl := (Device.setFld_sl ..).trans (Device.setFld_sl ..)
@[simp] theorem Device.setStack_tbl : (d.setStack c s n).tbl = d.tbl := (Device.setFld_tbl ..).trans (Device.setFld_tbl ..)
@[simp] theorem Device.setStack_eng : (d.setStack c s n).eng = d.eng := (Device.setFld_eng ..).trans (Device.setFld_eng ..)
@[simp] theorem Device.setStack_img : (d.setStack c s n).img = d.img := (Device.setFld_img ..).trans (Device.setFld_img ..)
@[simp] theorem Device.setStack_buf : (d.setStack c s n).buf = d.buf := (Device.setFld_buf ..).trans (Device.setFld_buf ..)
@[simp] theorem Device.setStack_hbm : (d.setStack c s n).hbm = d.hbm := (Device.setFld_hbm ..).trans (Device.setFld_hbm ..)
@[simp] theorem Device.setStack_tm : (d.setStack c s n).tm = d.tm := (Device.setFld_tm ..).trans (Device.setFld_tm ..)
@[simp] theorem Device.setStack_time : (d.setStack c s n).time = d.time := (Device.setFld_time ..).trans (Device.setFld_time ..)
@[simp] theorem Device.setStack_look : (d.setStack c s n).look = d.look := (Device.setFld_look ..).trans (Device.setFld_look ..)
@[simp] theorem Device.setStack_cross : (d.setStack c s n).cross = d.cross := (Device.setFld_cross ..).trans (Device.setFld_cross ..)
@[simp] theorem Device.setStack_log : (d.setStack c s n).log = d.log := (Device.setFld_log ..).trans (Device.setFld_log ..)
@[simp] theorem Device.setStack_pwr : (d.setStack c s n).pwr = d.pwr := (Device.setFld_pwr ..).trans (Device.setFld_pwr ..)
@[simp] theorem Device.setStack_sx : (d.setStack c s n).sx = d.sx := (Device.setFld_sx ..).trans (Device.setFld_sx ..)
@[simp] theorem Device.setStack_free : (d.setStack c s n).free = d.free := (Device.setFld_free ..).trans (Device.setFld_free ..)

@[simp] theorem Device.setOutcome_queueStore : (d.setOutcome s n).queueStore = d.queueStore := Device.setFld_queueStore ..
@[simp] theorem Device.setOutcome_mgmt : (d.setOutcome s n).mgmt = d.mgmt := Device.setFld_mgmt ..
@[simp] theorem Device.setOutcome_wq : (d.setOutcome s n).wq = d.wq := Device.setFld_wq ..
@[simp] theorem Device.setOutcome_ports : (d.setOutcome s n).ports = d.ports := Device.setFld_ports ..
@[simp] theorem Device.setOutcome_sl : (d.setOutcome s n).sl = d.sl := Device.setFld_sl ..
@[simp] theorem Device.setOutcome_tbl : (d.setOutcome s n).tbl = d.tbl := Device.setFld_tbl ..
@[simp] theorem Device.setOutcome_eng : (d.setOutcome s n).eng = d.eng := Device.setFld_eng ..
@[simp] theorem Device.setOutcome_img : (d.setOutcome s n).img = d.img := Device.setFld_img ..
@[simp] theorem Device.setOutcome_buf : (d.setOutcome s n).buf = d.buf := Device.setFld_buf ..
@[simp] theorem Device.setOutcome_hbm : (d.setOutcome s n).hbm = d.hbm := Device.setFld_hbm ..
@[simp] theorem Device.setOutcome_tm : (d.setOutcome s n).tm = d.tm := Device.setFld_tm ..
@[simp] theorem Device.setOutcome_time : (d.setOutcome s n).time = d.time := Device.setFld_time ..
@[simp] theorem Device.setOutcome_look : (d.setOutcome s n).look = d.look := Device.setFld_look ..
@[simp] theorem Device.setOutcome_cross : (d.setOutcome s n).cross = d.cross := Device.setFld_cross ..
@[simp] theorem Device.setOutcome_log : (d.setOutcome s n).log = d.log := Device.setFld_log ..
@[simp] theorem Device.setOutcome_pwr : (d.setOutcome s n).pwr = d.pwr := Device.setFld_pwr ..
@[simp] theorem Device.setOutcome_sx : (d.setOutcome s n).sx = d.sx := Device.setFld_sx ..
@[simp] theorem Device.setOutcome_free : (d.setOutcome s n).free = d.free := Device.setFld_free ..

@[simp] theorem Device.hbmCount_queueStore : (d.hbmCount s k n).queueStore = d.queueStore := by simp only [Device.hbmCount, Device.bump_queueStore]
@[simp] theorem Device.hbmCount_mgmt : (d.hbmCount s k n).mgmt = d.mgmt := by simp only [Device.hbmCount, Device.bump_mgmt]
@[simp] theorem Device.hbmCount_wq : (d.hbmCount s k n).wq = d.wq := by simp only [Device.hbmCount, Device.bump_wq]
@[simp] theorem Device.hbmCount_ports : (d.hbmCount s k n).ports = d.ports := by simp only [Device.hbmCount, Device.bump_ports]
@[simp] theorem Device.hbmCount_sl : (d.hbmCount s k n).sl = d.sl := by simp only [Device.hbmCount, Device.bump_sl]
@[simp] theorem Device.hbmCount_tbl : (d.hbmCount s k n).tbl = d.tbl := by simp only [Device.hbmCount, Device.bump_tbl]
@[simp] theorem Device.hbmCount_eng : (d.hbmCount s k n).eng = d.eng := by simp only [Device.hbmCount, Device.bump_eng]
@[simp] theorem Device.hbmCount_img : (d.hbmCount s k n).img = d.img := by simp only [Device.hbmCount, Device.bump_img]
@[simp] theorem Device.hbmCount_buf : (d.hbmCount s k n).buf = d.buf := by simp only [Device.hbmCount, Device.bump_buf]
@[simp] theorem Device.hbmCount_hbm : (d.hbmCount s k n).hbm = d.hbm := by simp only [Device.hbmCount, Device.bump_hbm]
@[simp] theorem Device.hbmCount_tm : (d.hbmCount s k n).tm = d.tm := by simp only [Device.hbmCount, Device.bump_tm]
@[simp] theorem Device.hbmCount_time : (d.hbmCount s k n).time = d.time := by simp only [Device.hbmCount, Device.bump_time]
@[simp] theorem Device.hbmCount_look : (d.hbmCount s k n).look = d.look := by simp only [Device.hbmCount, Device.bump_look]
@[simp] theorem Device.hbmCount_cross : (d.hbmCount s k n).cross = d.cross := by simp only [Device.hbmCount, Device.bump_cross]
@[simp] theorem Device.hbmCount_log : (d.hbmCount s k n).log = d.log := by simp only [Device.hbmCount, Device.bump_log]
@[simp] theorem Device.hbmCount_pwr : (d.hbmCount s k n).pwr = d.pwr := by simp only [Device.hbmCount, Device.bump_pwr]
@[simp] theorem Device.hbmCount_sx : (d.hbmCount s k n).sx = d.sx := by simp only [Device.hbmCount, Device.bump_sx]
@[simp] theorem Device.hbmCount_free : (d.hbmCount s k n).free = d.free := by simp only [Device.hbmCount, Device.bump_free]

@[simp] theorem Device.setChurn_chart (on : Bool) : (d.setChurn s b on).chart = d.chart := rfl
@[simp] theorem Device.setChurn_queueStore (on : Bool) : (d.setChurn s b on).queueStore = d.queueStore := rfl
@[simp] theorem Device.setChurn_mgmt (on : Bool) : (d.setChurn s b on).mgmt = d.mgmt := rfl
@[simp] theorem Device.setChurn_wq (on : Bool) : (d.setChurn s b on).wq = d.wq := rfl
@[simp] theorem Device.setChurn_ports (on : Bool) : (d.setChurn s b on).ports = d.ports := rfl
@[simp] theorem Device.setChurn_sl (on : Bool) : (d.setChurn s b on).sl = d.sl := rfl
@[simp] theorem Device.setChurn_tbl (on : Bool) : (d.setChurn s b on).tbl = d.tbl := rfl
@[simp] theorem Device.setChurn_eng (on : Bool) : (d.setChurn s b on).eng = d.eng := rfl
@[simp] theorem Device.setChurn_img (on : Bool) : (d.setChurn s b on).img = d.img := rfl
@[simp] theorem Device.setChurn_buf (on : Bool) : (d.setChurn s b on).buf = d.buf := rfl
@[simp] theorem Device.setChurn_tm (on : Bool) : (d.setChurn s b on).tm = d.tm := rfl
@[simp] theorem Device.setChurn_time (on : Bool) : (d.setChurn s b on).time = d.time := rfl
@[simp] theorem Device.setChurn_look (on : Bool) : (d.setChurn s b on).look = d.look := rfl
@[simp] theorem Device.setChurn_cross (on : Bool) : (d.setChurn s b on).cross = d.cross := rfl
@[simp] theorem Device.setChurn_log (on : Bool) : (d.setChurn s b on).log = d.log := rfl
@[simp] theorem Device.setChurn_pwr (on : Bool) : (d.setChurn s b on).pwr = d.pwr := rfl
@[simp] theorem Device.setChurn_sx (on : Bool) : (d.setChurn s b on).sx = d.sx := rfl
@[simp] theorem Device.setChurn_free (on : Bool) : (d.setChurn s b on).free = d.free := rfl

@[simp] theorem Device.setOwed_chart : (d.setOwed pc n).chart = d.chart := rfl
@[simp] theorem Device.setOwed_queueStore : (d.setOwed pc n).queueStore = d.queueStore := rfl
@[simp] theorem Device.setOwed_mgmt : (d.setOwed pc n).mgmt = d.mgmt := rfl
@[simp] theorem Device.setOwed_wq : (d.setOwed pc n).wq = d.wq := rfl
@[simp] theorem Device.setOwed_ports : (d.setOwed pc n).ports = d.ports := rfl
@[simp] theorem Device.setOwed_sl : (d.setOwed pc n).sl = d.sl := rfl
@[simp] theorem Device.setOwed_tbl : (d.setOwed pc n).tbl = d.tbl := rfl
@[simp] theorem Device.setOwed_eng : (d.setOwed pc n).eng = d.eng := rfl
@[simp] theorem Device.setOwed_img : (d.setOwed pc n).img = d.img := rfl
@[simp] theorem Device.setOwed_buf : (d.setOwed pc n).buf = d.buf := rfl
@[simp] theorem Device.setOwed_tm : (d.setOwed pc n).tm = d.tm := rfl
@[simp] theorem Device.setOwed_time : (d.setOwed pc n).time = d.time := rfl
@[simp] theorem Device.setOwed_look : (d.setOwed pc n).look = d.look := rfl
@[simp] theorem Device.setOwed_cross : (d.setOwed pc n).cross = d.cross := rfl
@[simp] theorem Device.setOwed_log : (d.setOwed pc n).log = d.log := rfl
@[simp] theorem Device.setOwed_pwr : (d.setOwed pc n).pwr = d.pwr := rfl
@[simp] theorem Device.setOwed_sx : (d.setOwed pc n).sx = d.sx := rfl
@[simp] theorem Device.setOwed_free : (d.setOwed pc n).free = d.free := rfl

@[simp] theorem Device.refreshFor_queueStore : (d.refreshFor c pc n).queueStore = d.queueStore := by simp only [Device.refreshFor, Device.hbmCount_queueStore]
@[simp] theorem Device.refreshFor_mgmt : (d.refreshFor c pc n).mgmt = d.mgmt := by simp only [Device.refreshFor, Device.hbmCount_mgmt]
@[simp] theorem Device.refreshFor_wq : (d.refreshFor c pc n).wq = d.wq := by simp only [Device.refreshFor, Device.hbmCount_wq]
@[simp] theorem Device.refreshFor_ports : (d.refreshFor c pc n).ports = d.ports := by simp only [Device.refreshFor, Device.hbmCount_ports]
@[simp] theorem Device.refreshFor_sl : (d.refreshFor c pc n).sl = d.sl := by simp only [Device.refreshFor, Device.hbmCount_sl]
@[simp] theorem Device.refreshFor_tbl : (d.refreshFor c pc n).tbl = d.tbl := by simp only [Device.refreshFor, Device.hbmCount_tbl]
@[simp] theorem Device.refreshFor_eng : (d.refreshFor c pc n).eng = d.eng := by simp only [Device.refreshFor, Device.hbmCount_eng]
@[simp] theorem Device.refreshFor_img : (d.refreshFor c pc n).img = d.img := by simp only [Device.refreshFor, Device.hbmCount_img]
@[simp] theorem Device.refreshFor_buf : (d.refreshFor c pc n).buf = d.buf := by simp only [Device.refreshFor, Device.hbmCount_buf]
@[simp] theorem Device.refreshFor_tm : (d.refreshFor c pc n).tm = d.tm := by simp only [Device.refreshFor, Device.hbmCount_tm]
@[simp] theorem Device.refreshFor_time : (d.refreshFor c pc n).time = d.time := by simp only [Device.refreshFor, Device.hbmCount_time]
@[simp] theorem Device.refreshFor_look : (d.refreshFor c pc n).look = d.look := by simp only [Device.refreshFor, Device.hbmCount_look]
@[simp] theorem Device.refreshFor_cross : (d.refreshFor c pc n).cross = d.cross := by simp only [Device.refreshFor, Device.hbmCount_cross]
@[simp] theorem Device.refreshFor_log : (d.refreshFor c pc n).log = d.log := by simp only [Device.refreshFor, Device.hbmCount_log]
@[simp] theorem Device.refreshFor_pwr : (d.refreshFor c pc n).pwr = d.pwr := by simp only [Device.refreshFor, Device.hbmCount_pwr]
@[simp] theorem Device.refreshFor_sx : (d.refreshFor c pc n).sx = d.sx := by simp only [Device.refreshFor, Device.hbmCount_sx]
@[simp] theorem Device.refreshFor_free : (d.refreshFor c pc n).free = d.free := by simp only [Device.refreshFor, Device.hbmCount_free]

@[simp] theorem Device.setTask_chart (x : Option StackTask) : (d.setTask s x).chart = d.chart := rfl
@[simp] theorem Device.setTask_queueStore (x : Option StackTask) : (d.setTask s x).queueStore = d.queueStore := rfl
@[simp] theorem Device.setTask_mgmt (x : Option StackTask) : (d.setTask s x).mgmt = d.mgmt := rfl
@[simp] theorem Device.setTask_wq (x : Option StackTask) : (d.setTask s x).wq = d.wq := rfl
@[simp] theorem Device.setTask_ports (x : Option StackTask) : (d.setTask s x).ports = d.ports := rfl
@[simp] theorem Device.setTask_sl (x : Option StackTask) : (d.setTask s x).sl = d.sl := rfl
@[simp] theorem Device.setTask_tbl (x : Option StackTask) : (d.setTask s x).tbl = d.tbl := rfl
@[simp] theorem Device.setTask_eng (x : Option StackTask) : (d.setTask s x).eng = d.eng := rfl
@[simp] theorem Device.setTask_img (x : Option StackTask) : (d.setTask s x).img = d.img := rfl
@[simp] theorem Device.setTask_buf (x : Option StackTask) : (d.setTask s x).buf = d.buf := rfl
@[simp] theorem Device.setTask_tm (x : Option StackTask) : (d.setTask s x).tm = d.tm := rfl
@[simp] theorem Device.setTask_time (x : Option StackTask) : (d.setTask s x).time = d.time := rfl
@[simp] theorem Device.setTask_look (x : Option StackTask) : (d.setTask s x).look = d.look := rfl
@[simp] theorem Device.setTask_cross (x : Option StackTask) : (d.setTask s x).cross = d.cross := rfl
@[simp] theorem Device.setTask_log (x : Option StackTask) : (d.setTask s x).log = d.log := rfl
@[simp] theorem Device.setTask_pwr (x : Option StackTask) : (d.setTask s x).pwr = d.pwr := rfl
@[simp] theorem Device.setTask_sx (x : Option StackTask) : (d.setTask s x).sx = d.sx := rfl
@[simp] theorem Device.setTask_free (x : Option StackTask) : (d.setTask s x).free = d.free := rfl

@[simp] theorem Device.stackState_setStack : (d.setStack c s n).stackState s = n % 256 := by
  simp [Device.setStack, Device.stackState]

@[simp] theorem Device.churnSet_setChurn (on : Bool) : (d.setChurn s b on).churnSet s b = on := by
  cases on <;> simp [Device.setChurn, Device.churnSet, setTo]

theorem Device.churnSet_setChurn_other (on : Bool) (h : blockKey s b ≠ blockKey t k) :
    (d.setChurn s b on).churnSet t k = d.churnSet t k := by
  cases on <;> simp [Device.setChurn, Device.churnSet, setTo, setHas_setAdd_other _ _ _ h, setHas_setDel_other _ _ _ h]

@[simp] theorem Device.owed_setOwed : (d.setOwed pc n).owed pc = n := by simp [Device.setOwed, Device.owed]

theorem Device.owed_setOwed_other (h : pc ≠ k) : (d.setOwed pc n).owed k = d.owed k := by
  simp [Device.setOwed, Device.owed, mapGet_mapSet_other _ _ _ _ _ _ h]

@[simp] theorem Device.owed_refreshFor : (d.refreshFor c pc n).owed k = d.owed k := by simp [Device.refreshFor, Device.owed]

/-- A write of a whole block leaves no poison on it and no copy of it waiting (R267). -/
theorem Device.unpoison_clears (p : Nat) :
    (d.unpoison (p, b)).poisoned (p, b) = false ∧ setHas (d.unpoison (p, b)).hbm.waitHeal (blockKey (p + 2) b) = false := by
  simp [Device.unpoison, Device.poisoned, Device.setCondition]

/-- A block that is poisoned is in the poison under its own key (R267). -/
theorem Device.poisonKey_poisonBlock : setHas (d.poisonBlock s b).hbm.poison (poisonKey s b) = true := by
  simp [Device.poisonBlock]

/-- A poisoned block of the mirrored tables reads as poisoned (R267). -/
theorem Device.poisoned_poisonBlock (h : logBlock b = false) : (d.poisonBlock s b).poisoned (pairOf s, b) = true := by
  simpa [poisonKey, h, Device.poisoned] using d.poisonKey_poisonBlock s b

/-- A read of blocks in which the code finds nothing leaves the device. -/
@[simp] theorem Device.readFound_nil (reads : Nat × Nat → Bool) : d.readFound c reads [] = d := rfl

/-- A block that the code finds good is left alone. -/
@[simp] theorem Device.blockFound_good (o : Bool) : d.blockFound c { stack := s, block := b, ecc := .good, otherBad := o } = d := rfl

@[simp] theorem Device.hbm_count (o e m l n : Nat) : (d.count o e m l n).hbm = d.hbm := rfl

@[simp] theorem Device.reportPc_hbm (pc : Nat) : (d.reportPc pc).hbm = d.hbm := by
  rw [Device.reportPc, Device.raise_hbm, Device.hbm_count, Device.hbmCount, Device.bump, Device.hbm_count]

@[simp] theorem Device.reportLimit_hbm (pc errors : Nat) : (d.reportLimit pc errors).hbm = d.hbm := by
  unfold Device.reportLimit
  split <;> simp

@[simp] theorem Device.unanswered_pcError (pc : Nat) : (d.pcError c pc).hbm.unanswered = d.hbm.unanswered := by
  simp [Device.pcError]

@[simp] theorem Device.unanswered_vatReadLost (a : Nat) : (d.vatReadLost a).hbm.unanswered = d.hbm.unanswered := by
  unfold Device.vatReadLost
  split
  · split
    · exact congrArg Hbm.unanswered (Device.hbm_count d Obj.bufStatus 0 127 64 1)
    · rfl
  · split <;> rfl

/-- Settling one request leaves the others. -/
@[simp] theorem Device.unanswered_settleRequest (r : HbmRequest) : (d.settleRequest c s r).hbm.unanswered = d.hbm.unanswered := by
  cases r <;> simp [Device.settleRequest, Device.setChurn]

/-- A fenced stack has no request without an answer (R342). -/
theorem Device.settleUnanswered_none : ∀ x ∈ (d.settleUnanswered c s).hbm.unanswered, x.1 ≠ s := by
  have fold : ∀ (xs : List (Nat × HbmRequest)) (e : Device),
      (xs.foldl (fun d x => d.settleRequest c s x.2) e).hbm.unanswered = e.hbm.unanswered := by
    intro xs
    induction xs with
    | nil => intro e; rfl
    | cons x xs ih => intro e; rw [List.foldl_cons, ih, Device.unanswered_settleRequest]
  intro x hx
  unfold Device.settleUnanswered at hx
  simp only [fold] at hx
  simpa using (List.mem_filter.mp hx).2

end Sys2Proof.Machine
end

