-- ==== Sys2Proof/Laws/PerInstr.lean ====
section
/-! SUPPORT. What well-formedness says of every command's operands: each unit, queue, context, bank, index and address a
well-formed command names fits in 40 bits, so a proof about one may narrow it without loss. -/

namespace Sys2Proof.Laws.wfOperands

/-- The numbers by which a command names a unit, an index or an address. -/
def operands : Instr → List Nat
  | .bdpFrameReceive port _ _ => [port]
  | .chainForwardTransmit port => [port]
  | .managementLinkChange port _ => [port]
  | .bdpRead badWords => badWords
  | .bdpWrite => []
  | .readBulk found => found.map BlockFound.block
  | .writeBulk => []
  | .helmTake => []
  | .helmGive => []
  | .injectToQueue _ => []
  | .injectToPipeline _ => []
  | .puntFrameSend => []
  | .descriptorFetch queue _ blocks => [queue] ++ blocks.map BlockFound.block
  | .tableNop queue count => [queue, count]
  | .tableInsert queue count found => [queue, count] ++ found.map BlockFound.block
  | .tableUpdate queue count found => [queue, count] ++ found.map BlockFound.block
  | .tableDelete queue count found => [queue, count] ++ found.map BlockFound.block
  | .tableSearch queue count found => [queue, count] ++ found.map BlockFound.block
  | .tableNext queue count found => [queue, count] ++ found.map BlockFound.block
  | .flushByPort queue count => [queue, count]
  | .bulkWrite queue count => [queue, count]
  | .chainRecordExecute queue count _ blocks => [queue, count] ++ blocks.map BlockFound.block
  | .fence queue count => [queue, count]
  | .fenceComplete queue count => [queue, count]
  | .flexRead queue count found => [queue, count] ++ found.map BlockFound.block
  | .tcamInsertControl queue count found => [queue, count] ++ found.map BlockFound.block
  | .tcamUpdateControl queue count found => [queue, count] ++ found.map BlockFound.block
  | .tcamDeleteControl queue count => [queue, count]
  | .tcamUpdateKey queue count found => [queue, count] ++ found.map BlockFound.block
  | .tcamSearchControl queue count => [queue, count]
  | .tcamSearchKey queue count => [queue, count]
  | .tcamSearchLookup queue count _ found => [queue, count] ++ found.map BlockFound.block
  | .completionPost queue count => [queue, count]
  | .heldCompletionMove ring => [ring]
  | .laneLockChange lane rxState => [lane, rxState]
  | .linkUp port => [port]
  | .linkDown port _ => [port]
  | .macFrameReceive port _ _ _ => [port]
  | .pauseFrameReceive port _ => [port]
  | .pauseExpiry port cls => [port, cls]
  | .pfcXoffTransmit port => [port]
  | .pauseRepeat port => [port]
  | .pauseResumeTransmit port cls => [port, cls]
  | .biasRatioReached oe source => [oe, source]
  | .laserSwapSettled oe => [oe]
  | .laserSwapFullShare oe => [oe]
  | .laserSwapComplete oe => [oe]
  | .laserSourceFailed oe source => [oe, source]
  | .spareFullPower oe source => [oe, source]
  | .biasRatioLimit oe source _ => [oe, source]
  | .parsePass slice _ _ => [slice]
  | .learnWrite slice => [slice]
  | .l2NotifyFlush slice => [slice]
  | .l2SweepVisit slice index => [slice, index]
  | .barrierRelease slice bucket => [slice, bucket]
  | .barrierTimeout slice bucket => [slice, bucket]
  | .contextDispatch cluster found => [cluster] ++ found.map BlockFound.block
  | .microwordExecute engine badCopies => [engine, badCopies]
  | .memoryAccessPerform _ _ => []
  | .loadResult context _ => [context]
  | .lookupResultArrive context slot _ found => [context, slot] ++ found.map BlockFound.block
  | .policeResult contexts => contexts
  | .cstoreCopyRewrite cluster address => [cluster, address]
  | .watchdogExpiry context => [context]
  | .packetRelease cluster bucket => [cluster, bucket]
  | .clusterIdle cluster => [cluster]
  | .clusterWakeDone cluster => [cluster]
  | .clusterHang cluster => [cluster]
  | .stageVerifyDone slot => [slot]
  | .imageLoadStart => []
  | .imageLoadDone _ _ => []
  | .pilotRestart => []
  | .pilotRevert => []
  | .separatorEvaluate queue => [queue]
  | .stackClosed stack => [stack]
  | .bufferSegmentRetired segment => [segment]
  | .hbmTrainingComplete stack _ => [stack]
  | .driftTrack stack _ => [stack]
  | .marginCheck stack => [stack]
  | .refreshInterval pc _ => [pc]
  | .hbmTempSample stack _ => [stack]
  | .drainTimeout stack => [stack]
  | .parkPrepare stack => [stack]
  | .parkCommit stack => [stack]
  | .retrainSweepDone stack _ => [stack]
  | .wakeRelock stack => [stack]
  | .replayComplete stack => [stack]
  | .hbmScrubVisit found => [found.stack, found.block]
  | .pcRetired pc => [pc]
  | .hbmResponseTimeout stack _ => [stack]
  | .schedulerSelect inst => [inst]
  | .shaperRefill => []
  | .flushComplete => []
  | .tasChangeTime port => [port]
  | .gateEntryStart port => [port]
  | .frameTransmitStart port _ => [port]
  | .frameTransmitEnd port => [port]
  | .ppsOutRise => []
  | .ppsOutFall => []
  | .ppsCapture => []
  | .lookoutEventAccept => []
  | .reactionShadowEnd target => [target]
  | .copyMismatch => []
  | .lookoutParity => []
  | .dumpStart => []
  | .onChipDumpDone => []
  | .hbmDumpDone => []
  | .tcamScrubVisit slice row component _ => [slice, row, component]
  | .crossingAccessTimeout crossing object => [crossing, object]
  | .lateAcknowledge crossing => [crossing]
  | .crossingPulse crossing signal _ _ => [crossing, signal]
  | .reference _ => []
  | .pilotLockstep => []
  | .pilotMemory => []
  | .pilotWatchdog => []
  | .pllUnlock domain => [domain]
  | .pllRelock domain => [domain]
  | .loglineCycle => []
  | .snapshotTake => []
  | .snapshotDone => []
  | .flexWriteback slice counter found => [slice, counter] ++ found.map BlockFound.block
  | .powerGood => []
  | .powerFailReset => []
  | .vauxLoss => []
  | .resetReleaseBoot straps => [straps]
  | .pilotSelfTestDone => []
  | .trainingEnd => []
  | .opticsSettled => []
  | .deviceRestartBegin => []
  | .restartResetEntry => []
  | .restartResetRelease straps => [straps]
  | .resetNAssert _ => []
  | .resetNRelease straps => [straps]
  | .regulatorPhaseFail rail => [rail]
  | .supply code _ => [code]
  | .coreTrimUpdate die _ => [die]
  | .thermalSample _ _ _ => []
  | .thermalTrip => []
  | .tapReset _ => []
  | .tapIdcode => []
  | .tapBypass code => [code]
  | .sxNop op f => [op, f.unit, f.context, f.space, f.address, f.count]
  | .sxHalt f => [f.unit, f.context, f.space, f.address, f.count]
  | .sxResume f => [f.unit, f.context, f.space, f.address, f.count]
  | .sxStep f => [f.unit, f.context, f.space, f.address, f.count]
  | .sxRead f _ blocks => [f.unit, f.context, f.space, f.address, f.count] ++ blocks.map BlockFound.block
  | .sxWrite f => [f.unit, f.context, f.space, f.address, f.count]
  | .sxBlockRead f => [f.unit, f.context, f.space, f.address, f.count]
  | .sxBlockWrite f => [f.unit, f.context, f.space, f.address, f.count]
  | .sxSetPoint f => [f.unit, f.context, f.space, f.address, f.count]
  | .sxClearPoint f => [f.unit, f.context, f.space, f.address, f.count]
  | .sxStart f => [f.unit, f.context, f.space, f.address, f.count]
  | .sxHaltAll f => [f.unit, f.context, f.space, f.address, f.count]
  | .sxResumeAll f => [f.unit, f.context, f.space, f.address, f.count]
  | .sxCommandComplete _ blocks => blocks.map BlockFound.block
  | .sxResultCapture => []
  | .sxStreamWrite _ => []
  | .sxStreamRead => []
  | .debugClockAbsent => []
  | .timeTick => []
  | .cachePrefetch queue blocks => [queue] ++ blocks.map BlockFound.block
  | .countPerformed context found => [context] ++ found.map BlockFound.block
  | .replayBlockCopy stack found => [stack] ++ found.map BlockFound.block
  | .pilotRestartEnd => []
  | .vauxPresent => []
  | .instructionSelect code => [code]

/-- Every number by which a well-formed command names something fits in 40 bits. -/
def Statement (i : Instr) : Prop := i.wf = true → ∀ n ∈ operands i, n < 2 ^ 40

theorem one_operand {x b : Nat} (h : decide (x < b) = true) (hb : b ≤ 2 ^ 40) : ∀ n ∈ [x], n < 2 ^ 40 := by
  simp at *; omega

theorem two_operands {x y b c : Nat} (h : decide (x < b ∧ y < c) = true) (hb : b ≤ 2 ^ 40) (hc : c ≤ 2 ^ 40) :
    ∀ n ∈ [x, y], n < 2 ^ 40 := by
  simp at *; omega

theorem three_operands {x y z b c d : Nat} (h : decide (x < b ∧ y < c ∧ z < d) = true) (hb : b ≤ 2 ^ 40)
    (hc : c ≤ 2 ^ 40) (hd : d ≤ 2 ^ 40) : ∀ n ∈ [x, y, z], n < 2 ^ 40 := by
  simp at *; omega

theorem one_and_length {x b m k : Nat} (h : decide (x < b ∧ m = k) = true) (hb : b ≤ 2 ^ 40) : ∀ n ∈ [x], n < 2 ^ 40 := by
  simp at *; omega

theorem desc_operands {queue count : Nat} (h : wfDesc queue count = true) : ∀ n ∈ [queue, count], n < 2 ^ 40 := by
  simp [wfDesc] at *; omega

/-- The blocks in which an event finds errors. -/
theorem found_operands {found : List BlockFound} (h : found.all BlockFound.wf = true) :
    ∀ n ∈ found.map BlockFound.block, n < 2 ^ 40 := by
  intro n hn
  obtain ⟨x, hx, rfl⟩ := List.mem_map.mp hn
  have := List.all_eq_true.mp h x hx
  simp [BlockFound.wf] at this
  omega

theorem with_found {p : Bool} {xs : List Nat} {found : List BlockFound} (hp : p = true → ∀ n ∈ xs, n < 2 ^ 40)
    (h : (p && found.all BlockFound.wf) = true) : ∀ n ∈ xs ++ found.map BlockFound.block, n < 2 ^ 40 := by
  rw [Bool.and_eq_true] at h
  intro n hn
  rcases List.mem_append.mp hn with hn | hn
  · exact hp h.1 n hn
  · exact found_operands h.2 n hn

theorem sx_operands {f : SxFields} (h : f.wf = true) :
    ∀ n ∈ [f.unit, f.context, f.space, f.address, f.count], n < 2 ^ 40 := by
  simp [SxFields.wf] at *; omega

theorem sxNop_operands {op : Nat} {f : SxFields} (h : (decide (op < 256) && f.wf) = true) :
    ∀ n ∈ [op, f.unit, f.context, f.space, f.address, f.count], n < 2 ^ 40 := by
  simp [SxFields.wf] at *; omega

theorem bdpFrameReceive (port : Nat) (frame : Bytes) (fcsOk : Bool) : Statement (.bdpFrameReceive port frame fcsOk) := fun h => one_operand h (by decide)

theorem chainForwardTransmit (port : Nat) : Statement (.chainForwardTransmit port) := fun h => one_operand h (by decide)

theorem managementLinkChange (port : Nat) (up : Bool) : Statement (.managementLinkChange port up) := fun h => one_operand h (by decide)

theorem bdpRead (badWords : List Nat) : Statement (.bdpRead badWords) := by
  simp [Statement, operands, Instr.wf]; intro h n hn; have := h n hn; omega

theorem bdpWrite : Statement (.bdpWrite) := fun _ _ h => nomatch h

theorem readBulk (found : List BlockFound) : Statement (.readBulk found) := found_operands

theorem writeBulk : Statement (.writeBulk) := fun _ _ h => nomatch h

theorem helmTake : Statement (.helmTake) := fun _ _ h => nomatch h

theorem helmGive : Statement (.helmGive) := fun _ _ h => nomatch h

theorem injectToQueue (aboveRate : Bool) : Statement (.injectToQueue aboveRate) := fun _ _ h => nomatch h

theorem injectToPipeline (aboveRate : Bool) : Statement (.injectToPipeline aboveRate) := fun _ _ h => nomatch h

theorem puntFrameSend : Statement (.puntFrameSend) := fun _ _ h => nomatch h

theorem descriptorFetch (queue : Nat) (found : FetchEnd) (blocks : List BlockFound) : Statement (.descriptorFetch queue found blocks) := with_found (fun h => one_operand h (by decide))

theorem tableNop (queue count : Nat) : Statement (.tableNop queue count) := desc_operands

theorem tableInsert (queue count : Nat) (found : List BlockFound) : Statement (.tableInsert queue count found) := with_found desc_operands

theorem tableUpdate (queue count : Nat) (found : List BlockFound) : Statement (.tableUpdate queue count found) := with_found desc_operands

theorem tableDelete (queue count : Nat) (found : List BlockFound) : Statement (.tableDelete queue count found) := with_found desc_operands

theorem tableSearch (queue count : Nat) (found : List BlockFound) : Statement (.tableSearch queue count found) := with_found desc_operands

theorem tableNext (queue count : Nat) (found : List BlockFound) : Statement (.tableNext queue count found) := with_found desc_operands

theorem flushByPort (queue count : Nat) : Statement (.flushByPort queue count) := desc_operands

theorem bulkWrite (queue count : Nat) : Statement (.bulkWrite queue count) := desc_operands

theorem chainRecordExecute (queue count : Nat) (found : FetchEnd) (blocks : List BlockFound) : Statement (.chainRecordExecute queue count found blocks) := with_found desc_operands

theorem fence (queue count : Nat) : Statement (.fence queue count) := desc_operands

theorem fenceComplete (queue count : Nat) : Statement (.fenceComplete queue count) := desc_operands

theorem flexRead (queue count : Nat) (found : List BlockFound) : Statement (.flexRead queue count found) := with_found desc_operands

theorem tcamInsertControl (queue count : Nat) (found : List BlockFound) : Statement (.tcamInsertControl queue count found) := with_found desc_operands

theorem tcamUpdateControl (queue count : Nat) (found : List BlockFound) : Statement (.tcamUpdateControl queue count found) := with_found desc_operands

theorem tcamDeleteControl (queue count : Nat) : Statement (.tcamDeleteControl queue count) := desc_operands

theorem tcamUpdateKey (queue count : Nat) (found : List BlockFound) : Statement (.tcamUpdateKey queue count found) := with_found desc_operands

theorem tcamSearchControl (queue count : Nat) : Statement (.tcamSearchControl queue count) := desc_operands

theorem tcamSearchKey (queue count : Nat) : Statement (.tcamSearchKey queue count) := desc_operands

theorem tcamSearchLookup (queue count : Nat) (winner : WinnerCheck) (found : List BlockFound) : Statement (.tcamSearchLookup queue count winner found) := with_found desc_operands

theorem completionPost (queue count : Nat) : Statement (.completionPost queue count) := desc_operands

theorem heldCompletionMove (ring : Nat) : Statement (.heldCompletionMove ring) := fun h => one_operand h (by decide)

theorem laneLockChange (lane rxState : Nat) : Statement (.laneLockChange lane rxState) := fun h => two_operands h (by decide) (by decide)

theorem linkUp (port : Nat) : Statement (.linkUp port) := fun h => one_operand h (by decide)

theorem linkDown (port : Nat) (why : LinkLoss) : Statement (.linkDown port why) := fun h => one_operand h (by decide)

theorem macFrameReceive (port : Nat) (frame : Bytes) (fcsOk bufferBad : Bool) : Statement (.macFrameReceive port frame fcsOk bufferBad) := fun h => one_operand h (by decide)

theorem pauseFrameReceive (port : Nat) (frame : Bytes) : Statement (.pauseFrameReceive port frame) := fun h => one_operand h (by decide)

theorem pauseExpiry (port cls : Nat) : Statement (.pauseExpiry port cls) := fun h => two_operands h (by decide) (by decide)

theorem pfcXoffTransmit (port : Nat) : Statement (.pfcXoffTransmit port) := fun h => one_operand h (by decide)

theorem pauseRepeat (port : Nat) : Statement (.pauseRepeat port) := fun h => one_operand h (by decide)

theorem pauseResumeTransmit (port cls : Nat) : Statement (.pauseResumeTransmit port cls) := fun h => two_operands h (by decide) (by decide)

theorem biasRatioReached (oe source : Nat) : Statement (.biasRatioReached oe source) := fun h => two_operands h (by decide) (by decide)

theorem laserSwapSettled (oe : Nat) : Statement (.laserSwapSettled oe) := fun h => one_operand h (by decide)

theorem laserSwapFullShare (oe : Nat) : Statement (.laserSwapFullShare oe) := fun h => one_operand h (by decide)

theorem laserSwapComplete (oe : Nat) : Statement (.laserSwapComplete oe) := fun h => one_operand h (by decide)

theorem laserSourceFailed (oe source : Nat) : Statement (.laserSourceFailed oe source) := fun h => two_operands h (by decide) (by decide)

theorem spareFullPower (oe source : Nat) : Statement (.spareFullPower oe source) := fun h => two_operands h (by decide) (by decide)

theorem biasRatioLimit (oe source : Nat) (held : Bool) : Statement (.biasRatioLimit oe source held) := fun h => two_operands h (by decide) (by decide)

theorem parsePass (slice : Nat) (src : PassSource) (winners : NMap WinnerCheck) : Statement (.parsePass slice src winners) := fun h => one_operand h (by decide)

theorem learnWrite (slice : Nat) : Statement (.learnWrite slice) := fun h => one_operand h (by decide)

theorem l2NotifyFlush (slice : Nat) : Statement (.l2NotifyFlush slice) := fun h => one_operand h (by decide)

theorem l2SweepVisit (slice index : Nat) : Statement (.l2SweepVisit slice index) := fun h => two_operands h (by decide) (by decide)

theorem barrierRelease (slice bucket : Nat) : Statement (.barrierRelease slice bucket) := fun h => two_operands h (by decide) (by decide)

theorem barrierTimeout (slice bucket : Nat) : Statement (.barrierTimeout slice bucket) := fun h => two_operands h (by decide) (by decide)

theorem contextDispatch (cluster : Nat) (found : List BlockFound) : Statement (.contextDispatch cluster found) := with_found (fun h => one_operand h (by decide))

theorem microwordExecute (engine badCopies : Nat) : Statement (.microwordExecute engine badCopies) := fun h => two_operands h (by decide) (by decide)

theorem memoryAccessPerform (accesses : List (Nat × Nat)) (ecc : Ecc) : Statement (.memoryAccessPerform accesses ecc) := fun _ _ h => nomatch h

theorem loadResult (context access : Nat) : Statement (.loadResult context access) := fun h => one_operand h (by decide)

theorem lookupResultArrive (context slot : Nat) (winner : WinnerCheck) (found : List BlockFound) : Statement (.lookupResultArrive context slot winner found) := with_found (fun h => two_operands h (by decide) (by decide))

theorem policeResult (contexts : List Nat) : Statement (.policeResult contexts) := by
  simp [Statement, operands, Instr.wf]; intro h n hn; have := h n hn; omega

theorem cstoreCopyRewrite (cluster address : Nat) : Statement (.cstoreCopyRewrite cluster address) := fun h => two_operands h (by decide) (by decide)

theorem watchdogExpiry (context : Nat) : Statement (.watchdogExpiry context) := fun h => one_operand h (by decide)

theorem packetRelease (cluster bucket : Nat) : Statement (.packetRelease cluster bucket) := fun h => two_operands h (by decide) (by decide)

theorem clusterIdle (cluster : Nat) : Statement (.clusterIdle cluster) := fun h => one_operand h (by decide)

theorem clusterWakeDone (cluster : Nat) : Statement (.clusterWakeDone cluster) := fun h => one_operand h (by decide)

theorem clusterHang (cluster : Nat) : Statement (.clusterHang cluster) := fun h => one_operand h (by decide)

theorem stageVerifyDone (slot : Nat) : Statement (.stageVerifyDone slot) := fun h => one_operand h (by decide)

theorem imageLoadStart : Statement (.imageLoadStart) := fun _ _ h => nomatch h

theorem imageLoadDone (firstBad secondBad : Bool) : Statement (.imageLoadDone firstBad secondBad) := fun _ _ h => nomatch h

theorem pilotRestart : Statement (.pilotRestart) := fun _ _ h => nomatch h

theorem pilotRevert : Statement (.pilotRevert) := fun _ _ h => nomatch h

theorem separatorEvaluate (queue : Nat) : Statement (.separatorEvaluate queue) := fun h => one_operand h (by decide)

theorem stackClosed (stack : Nat) : Statement (.stackClosed stack) := fun h => one_operand h (by decide)

theorem bufferSegmentRetired (segment : Nat) : Statement (.bufferSegmentRetired segment) := fun h => one_operand h (by decide)

theorem hbmTrainingComplete (stack : Nat) (sweep : List (List LaneWindow)) : Statement (.hbmTrainingComplete stack sweep) := fun h => one_and_length (Bool.and_eq_true _ _ ▸ h).1 (by decide)

theorem driftTrack (stack : Nat) (trims : List (List LaneTrim)) : Statement (.driftTrack stack trims) := fun h => one_and_length h (by decide)

theorem marginCheck (stack : Nat) : Statement (.marginCheck stack) := fun h => one_operand h (by decide)

theorem refreshInterval (pc : Nat) (requestsWaiting : Bool) : Statement (.refreshInterval pc requestsWaiting) := fun h => one_operand h (by decide)

theorem hbmTempSample (stack : Nat) (tenths : Int) : Statement (.hbmTempSample stack tenths) := fun h => one_operand h (by decide)

theorem drainTimeout (stack : Nat) : Statement (.drainTimeout stack) := fun h => one_operand h (by decide)

theorem parkPrepare (stack : Nat) : Statement (.parkPrepare stack) := fun h => one_operand h (by decide)

theorem parkCommit (stack : Nat) : Statement (.parkCommit stack) := fun h => one_operand h (by decide)

theorem retrainSweepDone (stack : Nat) (sweep : List (List LaneWindow)) : Statement (.retrainSweepDone stack sweep) := fun h => one_and_length (Bool.and_eq_true _ _ ▸ h).1 (by decide)

theorem wakeRelock (stack : Nat) : Statement (.wakeRelock stack) := fun h => one_operand h (by decide)

theorem replayComplete (stack : Nat) : Statement (.replayComplete stack) := fun h => one_operand h (by decide)

theorem hbmScrubVisit (found : BlockFound) : Statement (.hbmScrubVisit found) := by
  simp [Statement, operands, Instr.wf, BlockFound.wf]; omega

theorem pcRetired (pc : Nat) : Statement (.pcRetired pc) := fun h => one_operand h (by decide)

theorem hbmResponseTimeout (stack : Nat) (request : HbmRequest) : Statement (.hbmResponseTimeout stack request) := by
  simp [Statement, operands, Instr.wf]; omega

theorem schedulerSelect (inst : Nat) : Statement (.schedulerSelect inst) := fun h => one_operand h (by decide)

theorem shaperRefill : Statement (.shaperRefill) := fun _ _ h => nomatch h

theorem flushComplete : Statement (.flushComplete) := fun _ _ h => nomatch h

theorem tasChangeTime (port : Nat) : Statement (.tasChangeTime port) := fun h => one_operand h (by decide)

theorem gateEntryStart (port : Nat) : Statement (.gateEntryStart port) := fun h => one_operand h (by decide)

theorem frameTransmitStart (port : Nat) (found : List CellFinding) : Statement (.frameTransmitStart port found) := fun h => one_operand h (by decide)

theorem frameTransmitEnd (port : Nat) : Statement (.frameTransmitEnd port) := fun h => one_operand h (by decide)

theorem ppsOutRise : Statement (.ppsOutRise) := fun _ _ h => nomatch h

theorem ppsOutFall : Statement (.ppsOutFall) := fun _ _ h => nomatch h

theorem ppsCapture : Statement (.ppsCapture) := fun _ _ h => nomatch h

theorem lookoutEventAccept : Statement (.lookoutEventAccept) := fun _ _ h => nomatch h

theorem reactionShadowEnd (target : Nat) : Statement (.reactionShadowEnd target) := fun h => one_operand h (by decide)

theorem copyMismatch : Statement (.copyMismatch) := fun _ _ h => nomatch h

theorem lookoutParity : Statement (.lookoutParity) := fun _ _ h => nomatch h

theorem dumpStart : Statement (.dumpStart) := fun _ _ h => nomatch h

theorem onChipDumpDone : Statement (.onChipDumpDone) := fun _ _ h => nomatch h

theorem hbmDumpDone : Statement (.hbmDumpDone) := fun _ _ h => nomatch h

theorem tcamScrubVisit (slice row component : Nat) (found : RowFinding) : Statement (.tcamScrubVisit slice row component found) := fun h => three_operands h (by decide) (by decide) (by decide)

theorem crossingAccessTimeout (crossing object : Nat) : Statement (.crossingAccessTimeout crossing object) := by
  simp [Statement, operands, Instr.wf, fabricCrossing]; omega

theorem lateAcknowledge (crossing : Nat) : Statement (.lateAcknowledge crossing) := by
  simp [Statement, operands, Instr.wf, fabricCrossing]; omega

theorem crossingPulse (crossing signal : Nat) (acknowledged arrived : Bool) : Statement (.crossingPulse crossing signal acknowledged arrived) := by
  simp [Statement, operands, Instr.wf]; omega

theorem reference (present : Bool) : Statement (.reference present) := fun _ _ h => nomatch h

theorem pilotLockstep : Statement (.pilotLockstep) := fun _ _ h => nomatch h

theorem pilotMemory : Statement (.pilotMemory) := fun _ _ h => nomatch h

theorem pilotWatchdog : Statement (.pilotWatchdog) := fun _ _ h => nomatch h

theorem pllUnlock (domain : Nat) : Statement (.pllUnlock domain) := fun h => one_operand h (by decide)

theorem pllRelock (domain : Nat) : Statement (.pllRelock domain) := fun h => one_operand h (by decide)

theorem loglineCycle : Statement (.loglineCycle) := fun _ _ h => nomatch h

theorem snapshotTake : Statement (.snapshotTake) := fun _ _ h => nomatch h

theorem snapshotDone : Statement (.snapshotDone) := fun _ _ h => nomatch h

theorem flexWriteback (slice counter : Nat) (found : List BlockFound) : Statement (.flexWriteback slice counter found) := with_found (fun h => two_operands h (by decide) (by decide))

theorem powerGood : Statement (.powerGood) := fun _ _ h => nomatch h

theorem powerFailReset : Statement (.powerFailReset) := fun _ _ h => nomatch h

theorem vauxLoss : Statement (.vauxLoss) := fun _ _ h => nomatch h

theorem resetReleaseBoot (straps : Nat) : Statement (.resetReleaseBoot straps) := fun h => one_operand h (by decide)

theorem pilotSelfTestDone : Statement (.pilotSelfTestDone) := fun _ _ h => nomatch h

theorem trainingEnd : Statement (.trainingEnd) := fun _ _ h => nomatch h

theorem opticsSettled : Statement (.opticsSettled) := fun _ _ h => nomatch h

theorem deviceRestartBegin : Statement (.deviceRestartBegin) := fun _ _ h => nomatch h

theorem restartResetEntry : Statement (.restartResetEntry) := fun _ _ h => nomatch h

theorem restartResetRelease (straps : Nat) : Statement (.restartResetRelease straps) := fun h => one_operand h (by decide)

theorem resetNAssert (lowNs : Nat) : Statement (.resetNAssert lowNs) := fun _ _ h => nomatch h

theorem resetNRelease (straps : Nat) : Statement (.resetNRelease straps) := fun h => one_operand h (by decide)

theorem regulatorPhaseFail (rail : Nat) : Statement (.regulatorPhaseFail rail) := fun h => one_operand h (by decide)

theorem supply (code : Nat) (present : Bool) : Statement (.supply code present) := by
  simp [Statement, operands, Instr.wf]; omega

theorem coreTrimUpdate (die needed : Nat) : Statement (.coreTrimUpdate die needed) := fun h => one_operand h (by decide)

theorem thermalSample (die0 die1 optics : Int) : Statement (.thermalSample die0 die1 optics) := fun _ _ h => nomatch h

theorem thermalTrip : Statement (.thermalTrip) := fun _ _ h => nomatch h

theorem tapReset (byPin : Bool) : Statement (.tapReset byPin) := fun _ _ h => nomatch h

theorem tapIdcode : Statement (.tapIdcode) := fun _ _ h => nomatch h

theorem tapBypass (code : Nat) : Statement (.tapBypass code) := fun h => one_operand h (by decide)

theorem sxNop (op : Nat) (fields : SxFields) : Statement (.sxNop op fields) := sxNop_operands

theorem sxHalt (fields : SxFields) : Statement (.sxHalt fields) := sx_operands

theorem sxResume (fields : SxFields) : Statement (.sxResume fields) := sx_operands

theorem sxStep (fields : SxFields) : Statement (.sxStep fields) := sx_operands

theorem sxRead (fields : SxFields) (ecc : Ecc) (blocks : List BlockFound) : Statement (.sxRead fields ecc blocks) := with_found sx_operands

theorem sxWrite (fields : SxFields) : Statement (.sxWrite fields) := sx_operands

theorem sxBlockRead (fields : SxFields) : Statement (.sxBlockRead fields) := sx_operands

theorem sxBlockWrite (fields : SxFields) : Statement (.sxBlockWrite fields) := sx_operands

theorem sxSetPoint (fields : SxFields) : Statement (.sxSetPoint fields) := sx_operands

theorem sxClearPoint (fields : SxFields) : Statement (.sxClearPoint fields) := sx_operands

theorem sxStart (fields : SxFields) : Statement (.sxStart fields) := sx_operands

theorem sxHaltAll (fields : SxFields) : Statement (.sxHaltAll fields) := sx_operands

theorem sxResumeAll (fields : SxFields) : Statement (.sxResumeAll fields) := sx_operands

theorem sxCommandComplete (words : NMap Ecc) (blocks : List BlockFound) : Statement (.sxCommandComplete words blocks) := found_operands

theorem sxResultCapture : Statement (.sxResultCapture) := fun _ _ h => nomatch h

theorem sxStreamWrite (word : Word) : Statement (.sxStreamWrite word) := fun _ _ h => nomatch h

theorem sxStreamRead : Statement (.sxStreamRead) := fun _ _ h => nomatch h

theorem debugClockAbsent : Statement (.debugClockAbsent) := fun _ _ h => nomatch h

theorem timeTick : Statement (.timeTick) := fun _ _ h => nomatch h

theorem cachePrefetch (queue : Nat) (blocks : List BlockFound) : Statement (.cachePrefetch queue blocks) := with_found (fun h => one_operand h (by decide))

theorem countPerformed (context : Nat) (found : List BlockFound) : Statement (.countPerformed context found) := with_found (fun h => one_operand h (by decide))

theorem replayBlockCopy (stack : Nat) (found : List BlockFound) : Statement (.replayBlockCopy stack found) := with_found (fun h => one_operand h (by decide))

theorem pilotRestartEnd : Statement (.pilotRestartEnd) := fun _ _ h => nomatch h

theorem vauxPresent : Statement (.vauxPresent) := fun _ _ h => nomatch h

theorem instructionSelect (code : Nat) : Statement (.instructionSelect code) := fun h => one_operand h (by decide)

end Sys2Proof.Laws.wfOperands
end

