-- ==== Sys2Proof/Tests/Slice0.lean ====
section
/-! SUPPORT. Tests of the model: ill-formed commands are stopped by name, single commands give what the
spec's tables say, and every hypothesis of every statement is met by a concrete state and operands (the theorems named wit_…). -/

namespace Sys2Proof.Tests

open Sys2Proof Sys2Proof.Machine

set_option Elab.async false

/-! ### Small states -/

/-- A state with a device, at time 0. -/
def st (d : Device) : State := { clk := Clk.reset, dev := d, pending := [] }

/-- One second and five nanoseconds. -/
def later : Clk := { sec := 1, ns := 5, frac := 0, ticks := 1250006 }

/-- A device under power whose Pilot runs, in a state of Table 2.4, with both management links up, RING set and device number 2. -/
def dev (state : Nat) : Device :=
  (({ Device.reset with
      pwr := { Device.reset.pwr with vaux := true, good := true, hold := .none, pilot := .running }
      mgmt := { Device.reset.mgmt with linkUp := [0, 1] }
      ports := { Device.reset.ports with lit := true } } : Device).set Obj.devState 0 state).set Obj.devStraps 0 0x82

/-- A device with its four stacks ACTIVE. -/
def stacked (d : Device) : Device := (List.range 4).foldl (fun d k => d.setFld Obj.hbmStackStatus k 255 248 1) d

/-- The next state of a command, or the state itself where there is none. -/
def after (i : Instr) (s : State) : State :=
  match exec i s with
  | .next t => t
  | _ => s

/-- A BDP frame (Table 2.7) from a host: source address 0x0A, with its payload. -/
def bdp (target dir orig hop op seq count : Nat) (payload : Bytes) : Bytes :=
  natBe 6 0x02 ++ natBe 6 0x0A ++ natBe 2 0x88B5 ++ natBe 1 1 ++ natBe 1 target ++ natBe 1 0xFF ++ natBe 1 (dir * 128 + orig)
    ++ natBe 1 hop ++ natBe 1 op ++ natBe 2 seq ++ natBe 2 count ++ natBe 2 payload.length ++ natBe 4 0 ++ padTo 30 payload

/-- An object item's header (Table 2.8) and value. -/
def item (object element count ty length : Nat) (value : Bytes) : Bytes :=
  natBe 2 object ++ natBe 2 element ++ natBe 2 count ++ natBe 1 0 ++ natBe 1 ty ++ natBe 2 length ++ natBe 2 0 ++ value

/-- A device with one request at the head of its queue, arrived on MP0. -/
def asked (d : Device) (f : Bytes) : Device := d.setMgmt { d.mgmt with requests := [(0, f)] }

theorem fresh_of_none {α : Type} {m : NMap (Nat × α)} {k a : Nat} (h : mapGet? m k = none) : ∀ r, mapGet? m k ≠ some (a, r) := by
  intro r; rw [h]; exact nofun

/-- The command stops because it names a unit the device does not have. -/
def stops (i : Instr) : Bool :=
  match exec i State.reset with
  | .fault .noSuchUnit => true
  | _ => false

/-! ### Ill-formed commands (log 3) -/

theorem test_ill_formed_management :
    stops (.bdpFrameReceive 2 [] true) = true ∧ stops (.descriptorFetch 32 .ok []) = true
      ∧ stops (.tableNop 0 (2 ^ 32)) = true ∧ stops (.heldCompletionMove 16) = true := by
  decide +kernel

theorem test_ill_formed_ports :
    stops (.laneLockChange 256 2) = true ∧ stops (.laneLockChange 0 3) = true
      ∧ stops (.pauseExpiry 0 8) = true ∧ stops (.laserSourceFailed 0 10) = true
      ∧ stops (.laserSwapSettled 8) = true := by
  decide +kernel

theorem test_ill_formed_slices :
    stops (.learnWrite 4) = true ∧ stops (.l2SweepVisit 0 262144) = true
      ∧ stops (.barrierRelease 0 4096) = true ∧ stops (.tcamScrubVisit 0 24576 0 .clean) = true
      ∧ stops (.flexWriteback 0 67108864 []) = true := by
  decide +kernel

theorem test_ill_formed_engines :
    stops (.contextDispatch 64 []) = true ∧ stops (.microwordExecute 1024 0) = true
      ∧ stops (.microwordExecute 0 5) = true ∧ stops (.loadResult 8192 0) = true
      ∧ stops (.cstoreCopyRewrite 0 4096) = true ∧ stops (.stageVerifyDone 6) = true := by
  decide +kernel

theorem test_ill_formed_memory :
    stops (.separatorEvaluate 262144) = true ∧ stops (.bufferSegmentRetired 48) = true
      ∧ stops (.hbmTrainingComplete 0 []) = true ∧ stops (.pcRetired 128) = true
      ∧ stops (.schedulerSelect 8) = true := by
  decide +kernel

theorem test_ill_formed_rest :
    stops (.reactionShadowEnd 4096) = true ∧ stops (.crossingAccessTimeout 9 0) = true
      ∧ stops (.crossingPulse 0x1F 0 false true) = true ∧ stops (.pllUnlock 9) = true
      ∧ stops (.resetReleaseBoot 512) = true ∧ stops (.supply 12 true) = true
      ∧ stops (.coreTrimUpdate 2 0) = true ∧ stops (.tapBypass 256) = true
      ∧ stops (.sxHalt { unit := 0, context := 8, space := 0, address := 0, count := 0, data := 0 }) = true := by
  decide +kernel

/-! ### The block as a whole -/

theorem wit_StepRunsFrontCommand :
    ({ State.reset with pending := [Instr.timeTick] } : State).pending = Instr.timeTick :: [] ∧ State.reset.pending = [] := by decide

theorem wit_EveryCommandAnswers : (Instr.linkUp 255).wf = true ∧ (Instr.linkUp 256).wf = false := by decide

theorem wit_DeviceTimeStaysLegal :
    (∃ t, step { st (dev 6) with pending := [Instr.timeTick] } = .next t)
      ∧ ((st (dev 6)).clk.sec < 2 ^ 48 ∧ (st (dev 6)).clk.ns < 1000000000 ∧ (st (dev 6)).clk.frac < 2 ^ 32) :=
  ⟨⟨_, rfl⟩, by decide +kernel⟩

theorem wit_WhatChangesDeviceTime : ∃ t, exec (.tapReset false) (st (dev 6)) = .next t := ⟨_, rfl⟩

/-! ### Management plane -/

/-- A READ request from supervisor 0 for element 0 of an object. -/
def readFrame (o : Nat) : Bytes := bdp 2 0 0 1 opRead 7 1 (item o 0 1 0 0 [])

theorem wit_ChainForwarding_own :
    let f := readFrame Obj.helmTimeout
    let s := st (dev 6)
    s.dev.mgmtOn = true ∧ setHas s.dev.mgmt.linkUp 1 = true ∧ 64 ≤ frameBytes f ∧ frameBytes f ≤ 9000 ∧ beAt f 12 2 = 0x88B5
      ∧ bHop f ≠ 0 ∧ bDir f = 0 ∧ bTarget f = s.dev.devnum ∧ s.dev.state ≠ St.reset ∧ bit (s.dev.get Obj.bdpSupervisorPort 0) 1 = true
      ∧ bOrig f < 2 ∧ bOpcode f ≠ opInject ∧ unexecutable f = 0 ∧ s.dev.mgmt.requests = [] := by decide +kernel

theorem wit_ChainForwarding_forward :
    let f := bdp 3 0 0 2 opRead 7 1 (item Obj.helmTimeout 0 1 0 0 [])
    let g := bdp 0xFE 1 0 2 opRead 7 1 (item Obj.helmTimeout 0 1 0 0 [])
    let s := st (dev 6)
    s.dev.mgmtOn = true ∧ setHas s.dev.mgmt.linkUp 0 = true ∧ setHas s.dev.mgmt.linkUp (1 - 0) = true ∧ 64 ≤ frameBytes f
      ∧ frameBytes f ≤ 9000 ∧ beAt f 12 2 = 0x88B5 ∧ 1 < bHop f ∧ bit (s.dev.get Obj.devStraps 0) 7 = true
      ∧ bDir f = 0 ∧ bTarget f < 0x40 ∧ bTarget f ≠ s.dev.devnum
      ∧ ((s.dev.mgmt.forward.filter fun x => x.1 == 1 - 0).map fun x => frameBytes x.2).sum + frameBytes f ≤ 65536
      ∧ bDir g = 1 ∧ bResponder g ≠ s.dev.devnum ∧ 1 < bHop g ∧ 64 ≤ frameBytes g := by decide +kernel

theorem wit_ChainForwarding_transmit :
    let f := readFrame Obj.helmTimeout
    let d := (dev 6).setMgmt { (dev 6).mgmt with forward := [(1, f)] }
    d.mgmtOn = true ∧ takeFirst 1 d.mgmt.forward = some (f, []) ∧ d.mgmt.own = [] := by decide +kernel

/-- Each discard of R34, R35 and R37 has a frame that it meets. -/
theorem wit_ChainForwarding_discards :
    let s := st (dev 6)
    let ok (f : Bytes) : Bool := decide (64 ≤ frameBytes f ∧ frameBytes f ≤ 9000 ∧ beAt f 12 2 = 0x88B5)
    let other := bdp 3 0 0 1 opRead 7 1 []
    s.dev.mgmtOn = true ∧ setHas s.dev.mgmt.linkUp 1 = true
      ∧ frameBytes [] < 64
      ∧ 64 ≤ frameBytes (natBe 60 0) ∧ beAt (natBe 60 0) 12 2 ≠ 0x88B5
      ∧ ok (bdp 2 0 0 0 1 7 1 []) = true ∧ bHop (bdp 2 0 0 0 1 7 1 []) = 0
      ∧ bit ((dev 6).set Obj.devStraps 0 2 |>.get Obj.devStraps 0) 7 = false
      ∧ ((dev 6).set Obj.devStraps 0 2).mgmtOn = true ∧ setHas ((dev 6).set Obj.devStraps 0 2).mgmt.linkUp 1 = true
      ∧ ok other = true ∧ bHop other = 1 ∧ bDir other = 0 ∧ bTarget other < 0x40 ∧ bTarget other ≠ s.dev.devnum
      ∧ (let g := overwrite (bdp 0xFE 1 0 2 1 7 1 []) 16 (natBe 1 2)
         ok g = true ∧ bDir g = 1 ∧ bit (s.dev.get Obj.devStraps 0) 7 = true ∧ bResponder g = s.dev.devnum)
      ∧ 0x40 ≤ bTarget (bdp 0xFE 0 0 2 1 7 1 []) ∧ bTarget (bdp 0xFE 0 0 2 1 7 1 []) ≤ 0xFE
      ∧ bit (((dev 6).set Obj.bdpSupervisorPort 0 1).get Obj.bdpSupervisorPort 0) 1 = false := by decide +kernel

/-- A READ of HELM.Timeout meets every hypothesis of the statement on READ requests. -/
theorem wit_ReadRequest :
    let f := readFrame Obj.helmTimeout
    let s := st (asked (dev 6) f)
    let it : ObjItem := { object := Obj.helmTimeout, element := 0, count := 1, ty := 0, length := 0, value := [] }
    let d0 := s.dev.begun s.clk 0 f []
    s.dev.Ready opRead itemsFormed 0 f [] ∧ s.dev.Settled ∧ parseItems (bCount f) (bPayload f) = some [it]
      ∧ (∃ r, objInfo? it.object = some r ∧ responseBytes (12 + roundUp 4 r.size) ≤ 9000) ∧ d0.readCheck s.clk (bOrig f) it = 0
      ∧ d0.stalled it.object it.element = none ∧ it.object ≠ Obj.memData
      ∧ d0.readElement s.clk it.object it.element = .ok (d0.get Obj.helmTimeout 0, d0) := by
  refine ⟨⟨by decide +kernel, by decide +kernel, by decide +kernel, by decide +kernel, by decide +kernel, by decide +kernel,
    by decide +kernel, by decide +kernel, fresh_of_none (by decide +kernel)⟩, Or.inl (by decide +kernel), by decide +kernel,
    ⟨_, rfl, by decide +kernel⟩, by decide +kernel, by decide +kernel, by decide, rfl⟩

/-- A device whose MEM.Address names the first word of the scratchpads, with a READ of MEM.Data[0] waiting. -/
def memAsked : Device := asked ((dev 6).set Obj.memAddress 0 0x1000000) (readFrame Obj.memData)

theorem wit_ReadRequest_memory :
    let f := readFrame Obj.memData
    let s := st memAsked
    let it : ObjItem := { object := Obj.memData, element := 0, count := 1, ty := 0, length := 0, value := [] }
    let d0 := s.dev.begun s.clk 0 f []
    s.dev.Ready opRead itemsFormed 0 f [] ∧ parseItems (bCount f) (bPayload f) = some [it]
      ∧ (∃ r, objInfo? it.object = some r ∧ responseBytes (12 + roundUp 4 r.size) ≤ 9000) ∧ d0.readCheck s.clk (bOrig f) it = 0
      ∧ d0.stalled it.object it.element = none ∧ it.element ∈ [0] ∧ s.dev.state ≠ St.reset
      ∧ d0.readElement s.clk it.object it.element = .ok (d0.word 0, d0) := by
  refine ⟨⟨by decide +kernel, by decide +kernel, by decide +kernel, by decide +kernel, by decide +kernel, by decide +kernel,
    by decide +kernel, by decide +kernel, fresh_of_none (by decide +kernel)⟩, by decide +kernel,
    ⟨_, rfl, by decide +kernel⟩, by decide +kernel, by decide +kernel, by decide, by decide +kernel, rfl⟩

/-- The frame of a WRITE of HELM.Timeout, 200 ms, type U32. -/
def writeFrame : Bytes := bdp 2 0 0 1 opWrite 8 1 (item Obj.helmTimeout 0 1 4 4 (natBe 4 200))

theorem wit_WriteRequest :
    let f := writeFrame
    let s := st (asked (dev 6) f)
    let d0 := s.dev.begun s.clk 0 f []
    s.dev.Ready opWrite itemsFormed 0 f [] ∧ ∃ it r, parseItems (bCount f) (bPayload f) = some [it] ∧ it.count = 1
      ∧ objInfo? it.object = some r ∧ d0.writeCheck s.clk (bOrig f) it = 0 ∧ d0.stalled it.object it.element = none
      ∧ r.number = it.object := by
  refine ⟨⟨by decide +kernel, by decide +kernel, by decide +kernel, by decide +kernel, by decide +kernel, by decide +kernel,
    by decide +kernel, by decide +kernel, fresh_of_none (by decide +kernel)⟩,
    { object := Obj.helmTimeout, element := 0, count := 1, ty := 4, length := 4, value := natBe 4 200 }, _, by decide +kernel, rfl, rfl,
    by decide +kernel, by decide +kernel, by decide +kernel⟩
/-- A free token, one held by the taker, one whose holder is silent, and one with a live holder. -/
theorem wit_HelmTokens :
    let d := ((dev 6).set Obj.helmToken 1 0).set Obj.helmToken 2 1
    let live := d.setMgmt { d.mgmt with heard := [(1, 0)] }
    d.holder 0 = 0xFF ∧ d.holder 1 = 0 ∧ d.get Obj.helmTimeout 0 ≤ d.lastHeard later (d.holder 2)
      ∧ live.holder 2 ≠ 0xFF ∧ live.holder 2 ≠ 0 ∧ live.lastHeard Clk.reset (live.holder 2) < live.get Obj.helmTimeout 0 := by
  decide +kernel

theorem wit_HelmTokens_requests :
    let f := bdp 2 0 0 1 opHelmTake 8 1 (item Obj.helmToken 15 1 0 0 [])
    let g := bdp 2 0 0 1 opHelmGive 8 1 (item Obj.helmToken 15 1 0 0 [])
    let it : ObjItem := { object := Obj.helmToken, element := 15, count := 1, ty := 0, length := 0, value := [] }
    (asked (dev 6) f).Ready opHelmTake itemsFormed 0 f [] ∧ (asked (dev 6) g).Ready opHelmGive itemsFormed 0 g []
      ∧ parseItems (bCount f) (bPayload f) = some [it] ∧ parseItems (bCount g) (bPayload g) = some [it] ∧ it.element < 16 := by
  refine ⟨⟨by decide +kernel, by decide +kernel, by decide +kernel, by decide +kernel, by decide +kernel, by decide +kernel,
    by decide +kernel, by decide +kernel, fresh_of_none (by decide +kernel)⟩,
    ⟨by decide +kernel, by decide +kernel, by decide +kernel, by decide +kernel, by decide +kernel, by decide +kernel,
    by decide +kernel, by decide +kernel, fresh_of_none (by decide +kernel)⟩, by decide +kernel, by decide +kernel, by decide⟩

/-- The last four bytes of the queue store, written and read. -/
theorem wit_BulkRequests :
    let head := natBe 1 1 ++ natBe 1 0 ++ natBe 2 4 ++ natBe 4 8388604 ++ natBe 4 0
    let f := bdp 2 0 0 1 opWriteBulk 8 1 (head ++ natBe 4 0x01020304)
    let g := bdp 2 0 0 1 opReadBulk 9 1 head
    let s := st (asked (dev 6) f)
    let r := st (asked (dev 6) g)
    s.dev.Settled ∧ s.dev.Ready opWriteBulk (bulkFormed true) 0 f [] ∧ r.dev.Ready opReadBulk (bulkFormed false) 0 g []
      ∧ (∃ it, parseBulk true (bCount f) (bPayload f) = some [it] ∧ it.region = 1 ∧ it.data.length = it.length
          ∧ (s.dev.begun s.clk 0 f []).bulkCheck true it = 0)
      ∧ ∃ it, parseBulk false (bCount g) (bPayload g) = some [it] ∧ it.region = 1 ∧ (r.dev.begun r.clk 0 g []).bulkCheck false it = 0 := by
  refine ⟨Or.inl (by decide +kernel), ⟨by decide +kernel, by decide +kernel, by decide +kernel, by decide +kernel, by decide +kernel,
    by decide +kernel, by decide +kernel, by decide +kernel, fresh_of_none (by decide +kernel)⟩,
    ⟨by decide +kernel, by decide +kernel, by decide +kernel, by decide +kernel, by decide +kernel, by decide +kernel,
    by decide +kernel, by decide +kernel, fresh_of_none (by decide +kernel)⟩,
    ⟨{ region := 1, length := 4, offset := 8388604, data := natBe 4 0x01020304 }, by decide +kernel, rfl, rfl, by decide +kernel⟩,
    ⟨{ region := 1, length := 4, offset := 8388604, data := [] }, by decide +kernel, rfl, by decide +kernel⟩⟩

/-- The device with the WRITE request waiting again, its response kept. -/
def askedAgain : Device := (asked (dev 6) writeFrame).setMgmt { (asked (dev 6) writeFrame).mgmt with kept := [(0, (8, natBe 60 0))] }

theorem wit_RepeatedRequest :
    let f := writeFrame
    let d := askedAgain
    d.pilotRuns = true ∧ unexecutable f = 0 ∧ bOpcode f = opWrite ∧ bOverrun f = false ∧ bCount f ≠ 0 ∧ itemsFormed f = true
      ∧ bOrig f < 2 ∧ mapGet? d.mgmt.kept (bOrig f) = some (bSequence f, natBe 60 0) ∧ d.state ≠ St.awaitImage
      ∧ setHas d.mgmt.linkUp 0 = true ∧ d.mgmt.forward = [] := by decide +kernel

/-- An INJECT frame (Table 2.15): mode, pool, port, queue and a packet of 60 bytes. -/
def injectFrame (mode pool port queue : Nat) : Bytes :=
  bdp 2 0 0 1 0x12 1 0 (natBe 1 mode ++ natBe 1 pool ++ natBe 2 port ++ natBe 4 queue ++ natBe 8 0 ++ natBe 60 0)

theorem wit_InjectAndPunt_inject :
    let f := injectFrame 1 12 255 0
    let g := injectFrame 0 15 0 262143
    let d := (dev 6).setFld Obj.portConfig 255 127 120 1
    d.injectOk f = true ∧ iMode f = 1 ∧ d.injectOk g = true ∧ iMode g = 0 ∧ iMode (injectFrame 1 11 255 0) = 1
      ∧ d.injectOk (injectFrame 1 11 255 0) = false ∧ (iPacket f).length ≤ 65536 := by decide +kernel

theorem wit_InjectAndPunt_punt :
    let e : QEntry := { cells := [], pool := 0, headroom := false, port := none, copy := false, record := 0, packet := natBe 60 0 }
    let d0 : Device := { dev 6 with buf := { (dev 6).buf with queues := [(puntPath, [e])] } }
    let d := d0.setMgmt { d0.mgmt with routes := [(0, (0, 0x0A))] }
    d.forwarding = true ∧ d.queue puntPath = [e] ∧ d.reachable (d.get Obj.bdpPuntTarget 0) = some (0, 0x0A)
      ∧ setHas d.mgmt.linkUp 0 = true ∧ d.mgmt.forward = [] := by decide +kernel

/-! ### Work queues and tables -/

/-- Work queue 31 in the queue store: enabled, 2^6 entries at offset 0, limit 1; and TCAM table 0 of slice 0 enabled, one bank wide. -/
def wqDev : Device :=
  ((((dev 6).set Obj.wqEnable 31 1).set Obj.wqConfig 31 (at_ 111 104 6 + at_ 95 80 1)).set Obj.wqDoorbell 31 1).set Obj.tcamTable 0
    (2 ^ 63 + at_ 61 60 1 + at_ 59 48 1)

/-- A descriptor's raw value with an opcode in bits 511:504. -/
def desc (op table scope index : Nat) : Nat := at_ 511 504 op + at_ 479 472 table + at_ 471 464 scope + at_ 447 416 index

/-- A result buffer at offset 0 of the queue store; and an operand of `n` bytes at offset 0 of it. -/
def result : Nat := at_ 319 312 1
def indirect (n : Nat) : Nat := at_ 500 500 1 + at_ 463 448 n + at_ 383 376 1

/-- The device with one descriptor fetched in queue 31 at count 0. -/
def fetched (v : Nat) (stage : Stage) : Device := { wqDev with wq := { wqDev.wq with fetched := [(31, [{ count := 0, raw := v, stage := stage }])] } }

theorem wit_DescriptorFetch :
    wqDev.mayFetch 31 = true ∧ wqDev.cached 31 0 = none ∧ wqDev.regionOk (wqDev.wqRegion 31) (wqDev.entryAt 31 0) 64 = true
      ∧ FetchEnd.uncorrectable ≠ .ok ∧ FetchEnd.timeout ≠ .ok := by
  decide +kernel

theorem wit_DescriptorFetch_prefetch :
    let d := wqDev.setFld Obj.wqConfig 31 119 112 1
    d.pilotRuns = true ∧ d.get Obj.wqEnable 31 = 1 ∧ d.wqCached 31 = true ∧ d.state ≠ St.safe ∧ d.nextPrefetch 31 = some 1
      ∧ d.regionOk (d.wqRegion 31) (d.entryAt 31 1) 64 = true
      ∧ ({ d with wq := { d.wq with cache := [(31, [(0, 5)])] } } : Device).cached 31 0 = some 5 := by decide +kernel

theorem wit_DescriptorFetch_order :
    (fetched (desc 0 0 0 0) .waiting).startable 31 0 = some { count := 0, raw := desc 0 0 0 0, stage := .waiting } ∧ dOp (desc 0 0 0 0) = 0
      ∧ (fetched (desc 8 0 0 0) .waiting).startable 31 0 = some { count := 0, raw := desc 8 0 0 0, stage := .waiting } ∧ dOp (desc 8 0 0 0) = 8
      ∧ (fetched (desc 7 0 0 0) .waiting).startable 31 0 = some { count := 0, raw := desc 7 0 0 0, stage := .waiting }
      ∧ dOp (desc 7 0 0 0) = 7 := by
  decide +kernel

theorem sole_fetched (v : Nat) (stage : Stage) : (fetched v stage).Sole 31 0 { count := 0, raw := v, stage := stage } := by
  have h : (fetched v stage).wqFetched 31 = [{ count := 0, raw := v, stage := stage }] := rfl
  unfold Device.Sole
  rw [h]
  exact ⟨by simp, rfl, by simp⟩

theorem wit_DescriptorFetch_fence :
    (fetched (desc 8 0 0 0) (.fencing [])).Sole 31 0 { count := 0, raw := desc 8 0 0 0, stage := .fencing [] }
      ∧ ∀ f ∈ (fetched (desc 8 0 0 0) (.fencing [])).sl.flights, f.id ∈ ([] : List Nat) → f.lost = true :=
  ⟨sole_fetched _ _, by simp⟩

/-- A running chain's record that is linked on, and one that ends the chain, the last and a parked one. -/
theorem wit_ChainRecord :
    let next := at_ 470 448 64
    let last := 2 ^ 511 + 2 ^ 510
    (fetched (desc 7 0 0 0) (.running 0 0 0)).Sole 31 0 { count := 0, raw := desc 7 0 0 0, stage := .running 0 0 0 }
      ∧ rEnd next = false ∧ rNext next % 64 = 0 ∧ rEnd last = true ∧ rLast last = true ∧ rEnd (2 ^ 511) = true
      ∧ rLast (2 ^ 511) = false :=
  ⟨sole_fetched _ _, by decide +kernel⟩

/-- What lets a descriptor with inline operands start in queue 31 when its reads find nothing, and carries what it then does. -/
def mayStart (v : Nat) : Bool :=
  let d := fetched v .waiting
  decide (d.startable 31 0 = some { count := 0, raw := v, stage := .waiting }) && (d.firstBlocked (d.operandCrossings v)).isNone
    && (List.range 11).all (fun st => (d.firstBlocked (d.cmdCrossings v st (2 ^ 48))).isNone) && d.operandRead v && operandFits d v

theorem seen_nothing (d : Device) (c : Clk) (x : Fetched) : d.seen c x [] = d := rfl

theorem starts_fetched {v : Nat} (c : Clk) (h : mayStart v = true) :
    (fetched v .waiting).Starts c 31 0 { count := 0, raw := v, stage := .waiting } [] := by
  simp only [mayStart, Bool.and_eq_true, decide_eq_true_eq, Option.isNone_iff_eq_none] at h
  exact ⟨h.1.1.1.1, h.1.1.1.2, by simp, by rw [seen_nothing]; exact h.1.2, by rw [seen_nothing]; exact h.2⟩

/-- A descriptor of every entry command starts in queue 31. -/
theorem wit_EntryCommands :
    (∀ op ∈ [1, 2, 3, 4], let v := desc op 5 0xFF 0 + if op = 4 then result else 0
      mayStart v = true ∧ isTable op v = true)
    ∧ (mayStart (desc 5 5 0xFF 0 + at_ 415 384 1 + result) = true ∧ mayStart (desc 6 1 0 255) = true
        ∧ mayStart (desc 0x10 0x20 0xFF 67108863 + at_ 415 384 1 + result) = true)
    ∧ (∀ op ∈ [1, 2, 3, 4], let v := desc op 0x10 0 2047 + if op = 4 then result else 0
      mayStart v = true ∧ isPart op 0 v = true)
    ∧ (let v := desc 2 0x10 0 (at_ 31 30 1) + indirect 40
       mayStart v = true ∧ isPart 2 1 v = true)
    ∧ (let v := desc 4 0x10 0 (at_ 31 30 1) + result
       mayStart v = true ∧ isPart 4 1 v = true)
    ∧ (let v := desc 4 0x10 0 (at_ 31 30 3) + indirect 20 + result
       mayStart v = true ∧ isPart 4 3 v = true) := by decide +kernel

/-- Table 5's entry 0 held, and row 0 of a TCAM table valid under an all-zero mask. -/
def filled (d : Device) : Device :=
  let d1 := d.set Obj.tcamTable 0 (2 ^ 63 + at_ 61 60 1 + at_ 59 48 1)
  { d1 with tbl := { d1.tbl with
      direct := [(5 * 2 ^ 24, { key := 0, data := 9, changed := 0 })]
      tcam := [(0, { value := 0, mask := 0, written := true, valid := true, priority := 1, data := 7, changed := 0 })] } }

theorem wit_EntryCommands_reads :
    (filled Device.reset).tblSearch 5 0 0 0 = .ok 0 ∧ ((filled Device.reset).imageAt 5 0 0).isSome = true
      ∧ (filled Device.reset).fenceBlocks 0 0 = false ∧ bit ((filled Device.reset).tcamTable 0 0) 63 = true
      ∧ ((filled Device.reset).winner 0 0 0).isSome = true
      ∧ (∃ bs, (filled Device.reset).tcRead 0 0 = .ok bs) ∧ (∃ bs, (filled Device.reset).tcRead 0 (at_ 31 30 1) = .ok bs)
      ∧ (stacked Device.reset).blockBad (flexBlock 0) = false ∧ Device.reset.blockBad (flexBlock 0) = true := by
  refine ⟨rfl, by decide +kernel, by decide +kernel, by decide +kernel, by decide +kernel, ⟨_, rfl⟩,
    ⟨_, rfl⟩, by decide +kernel, by decide +kernel⟩

/-- What can be found of a winning row; and INSERTs whose operand lies in a region that no stack serves, whose data is out of range, and
whose crossing is STALLED or RESETTING. -/
theorem wit_EntryCommands_refused :
    let far := desc 1 5 0xFF 0 + 2 ^ 500 + at_ 463 448 16 + at_ 383 376 2
    let bad := desc 1 7 0xFF 0
    let v := desc 1 5 0xFF 0
    let starts (d : Device) (v : Nat) : Bool := decide (d.startable 31 0 = some { count := 0, raw := v, stage := .waiting }) && isTable 1 v
    let shut := (fetched v .waiting).setFld Obj.crossStatus 0 63 56 2
    let held := (fetched v .waiting).setFld Obj.crossStatus 0 63 56 3
    winnerFault 1 0 (.parity 0) ≠ none ∧ winnerFault 1 0 .data ≠ none
      ∧ starts (fetched far .waiting) far = true ∧ (fetched far .waiting).operandRead far = false
      ∧ starts (fetched bad .waiting) bad = true ∧ (fetched bad .waiting).operandRead bad = true
      ∧ operandFits (fetched bad .waiting) bad = false
      ∧ starts shut v = true ∧ shut.operandRead v = true ∧ operandFits shut v = true
      ∧ shut.firstBlocked (shut.cmdCrossings v 0 0) = some 0 ∧ shut.crossState 0 = 2
      ∧ held.firstBlocked (held.cmdCrossings v 0 0) = some 0 ∧ held.crossState 0 = 3 := by
  decide +kernel

theorem wit_DirectTables :
    Device.reset.direct 5 (directSize 5 - 1) = none ∧ directSize 5 - 1 < directSize 5 ∧ (filled Device.reset).direct 5 0 = some { key := 0, data := 9, changed := 0 } := by
  decide +kernel

/-- A free key, one held in its first slot, one held in its second, one whose slots are held for good, and one whose slots are not served. -/
theorem wit_FlowInsert :
    let e : Entry := { key := 3, data := 0, changed := 0 }
    let o : Entry := { key := 4, data := 0, changed := 0 }
    let d := stacked Device.reset
    let first : Device := { d with tbl := { d.tbl with flow := [((flowSlots 3).1, e)] } }
    let second : Device := { d with tbl := { d.tbl with flow := [((flowSlots 3).2, e)] } }
    let full : Device := { d with tbl := { d.tbl with
      flow := [((flowSlots 3).1, o), ((flowSlots 3).2, o), ((flowSlots 4).1, o), ((flowSlots 4).2, o)] } }
    d.slotFenced (flowSlots 3).1 = false ∧ d.slotFenced (flowSlots 3).2 = false
      ∧ d.slotHas (flowSlots 3).1 3 = false ∧ d.slotHas (flowSlots 3).2 3 = false ∧ d.slotFree (flowSlots 3).1 = true
      ∧ first.slotHas (flowSlots 3).1 3 = true ∧ first.slotFenced (flowSlots 3).1 = false ∧ first.poisoned (flowBlock (flowSlots 3).1) = false
      ∧ second.slotHas (flowSlots 3).1 3 = false ∧ second.slotHas (flowSlots 3).2 3 = true
      ∧ second.poisoned (flowBlock (flowSlots 3).2) = false
      ∧ full.slotHas (flowSlots 3).1 3 = false ∧ full.slotHas (flowSlots 3).2 3 = false
      ∧ full.flowPath 16 (flowSlots 3).1 = none ∧ full.flowPath 16 (flowSlots 3).2 = none
      ∧ Device.reset.slotFenced (flowSlots 3).1 = true := by decide +kernel

/-- A row that is written and not valid, one that is valid, and one whose bank the scrub visits. -/
theorem wit_TcamRows :
    let d := filled Device.reset
    let x : TcamRow := { value := 0, mask := 0, written := true, valid := false, priority := 0, data := 0, changed := 0 }
    let w : Device := { d with tbl := { d.tbl with tcam := [(2047, x)] } }
    w.groupFenced 0 0 = false ∧ (w.tcamRow 0 0 2047).valid = false ∧ w.keyComplete 0 0 2047 = true
      ∧ (d.tcamRow 0 0 0).valid = true ∧ d.bankTable 0 0 ≠ none ∧ 0 % d.bankWidth 0 0 = 0 ∧ 0 < d.bankWidth 0 0
      ∧ 0 + d.bankWidth 0 0 ≤ 12 ∧ (0 : Nat) / 2048 + 11 < 12 := by decide +kernel

/-- A finished descriptor whose ring has room, one whose ring is full, and a held completion. -/
theorem wit_Completions :
    let v := desc 0 0 0 0
    let d := (fetched v (.finished 0 0)).set Obj.cqConfig 8 (at_ 119 112 4)
    let full := d.set Obj.cqProducer 8 16
    let held : Device := { d with wq := { d.wq with held := [(8, [5])] } }
    let stale : Device := { held with wq := { held.wq with stale := [8] } }
    d.pilotRuns = true ∧ d.wqFetched 31 = [{ count := 0, raw := v, stage := .finished 0 0 }] ∧ d.wqRing 31 = 8 ∧ d.viewHeld 8 = 0
      ∧ d.cqUsed 8 < d.cqEntries 8 ∧ full.cqEntries 8 ≤ full.cqUsed 8 ∧ mapGet held.wq.held 8 [] = [5] ∧ held.cqUsed 8 < held.cqEntries 8
      ∧ held.viewHeld 8 ≠ 0 ∧ held.pilotRuns = true ∧ setHas held.wq.stale 8 = false ∧ (mapGet held.wq.held 8 []).length ≤ 256
      ∧ held.cqEntries 8 ≤ 65536 ∧ held.get Obj.cqProducer 8 < 2 ^ 32 ∧ setHas stale.wq.stale 8 = true := by decide +kernel

theorem nextFree_none_used (n fuel i : Nat) : nextFree (fun _ => false) n (fuel + 1) i = some (i % n) := rfl

theorem wit_LearningAndAging :
    let l : Learn := { key := 5, port := 1, action := 0 }
    let d : Device := { dev 6 with sl := { (dev 6).sl with learn := [(3, [l])], events := [(3, [1, 2])] } }
    let e : L2Entry := { key := 5, data := 0, hit := false, strikes := 0, learned := true, changed := 0 }
    let old : Device := { d with tbl := { d.tbl with l2 := [(3 * 262144 + l2Set 5 * 4, e)] } }
    old.l2Find 3 5 = some (l2Set 5 * 4, e) ∧ mapGet old.sl.learn 3 [] = l :: [] ∧ mapGet d.sl.learn 3 [] = l :: [] ∧ d.l2Find 3 5 = none ∧ (∃ i, d.l2Free 3 5 = some i) ∧ mapGet d.sl.events 3 [] = 1 :: [2] := by
  refine ⟨by decide +kernel, rfl, rfl, by decide +kernel, ⟨l2Set 5 * 4 + Config.freeValue 0 % 4, ?_⟩, rfl⟩
  exact congrArg (Option.map _) (nextFree_none_used 4 3 (Config.freeValue 0))

theorem wit_LearningAndAging_sweep :
    let e : L2Entry := { key := 5, data := 0, hit := true, strikes := 0, learned := true, changed := 0 }
    let d : Device := { dev 6 with tbl := { (dev 6).tbl with l2 := [(3 * 262144 + 262143, e)] } }
    d.forwarding = true ∧ d.get Obj.l2AgePeriod 3 ≠ 0 ∧ mapGet? d.tbl.l2 (3 * 262144 + 262143) = some e := by decide +kernel

/-! ### Ports and lasers -/

/-- Port 0 of 100 Gb/s on one lane, enabled, its lane locked; and with its link up. -/
def port (up : Bool) : Device :=
  (((dev 6).setFld Obj.portConfig 0 127 120 1).set Obj.portEnable 0 1).set Obj.portStatus 0 (if up then 2 ^ 127 else 0)

/-- The same port with its lane locked, and its locks shown. -/
def locked (up : Bool) : Device :=
  ((port up).setFld Obj.laneStatus 0 63 56 2).set Obj.portStatus 0 (3 * 2 ^ 123 + if up then 2 ^ 127 else 0)

theorem wit_LinkState :
    (port false).opticsOn = true ∧ (port false).laneFenced 255 = false ∧ (port false).portOf 0 = some 0
      ∧ (locked false).groupLocked 0 = true ∧ (locked false).get Obj.portEnable 0 = 1 ∧ (locked false).portFenced 0 = false
      ∧ (∀ l ∈ (locked false).group 0, (locked false).laneDark l = false) ∧ (locked false).group 0 = [0]
      ∧ (locked false).link 0 = false ∧ (locked false).state ≠ St.safe ∧ (locked false).pwr.hold = .none
      ∧ bit ((locked false).get Obj.portStatus 0) 124 = true ∧ bit ((locked false).get Obj.portStatus 0) 123 = true
      ∧ bit ((locked false).get Obj.portStatus 0) 126 = false ∧ bit ((locked false).get Obj.portStatus 0) 125 = false
      ∧ (locked true).link 0 = true ∧ (locked true).groupLocked 0 = true ∧ LinkLoss.pcsLock ≠ .faultEnds := by decide +kernel

/-- Frames of 60 and 59 bytes before the FCS, one longer than MaxFrame, and a PFC and a pause frame. -/
theorem wit_ReceptionAndPause_receive :
    let f := natBe 60 0
    let pfc := natBe 12 0 ++ natBe 2 0x8808 ++ natBe 2 0x0101 ++ natBe 2 0x80 ++ natBe 16 5 ++ natBe 26 0
    let pause := natBe 12 0 ++ natBe 2 0x8808 ++ natBe 2 1 ++ natBe 2 5 ++ natBe 42 0
    let full : Device := { port true with ports := { (port true).ports with fifo := [(0, [{ frame := natBe 2048 0, stamp := 0 }])] } }
    (port true).portUp 0 = true ∧ 64 ≤ f.length + 4 ∧ f.length + 4 ≤ (port true).rd Obj.portConfig 0 79 64 ∧ beAt f 12 2 ≠ 0x8808
      ∧ (port true).fifoFull 0 f = false ∧ (natBe 59 0).length + 4 < 64
      ∧ ((port true).setFld Obj.portConfig 0 79 64 64).rd Obj.portConfig 0 79 64 < (natBe 61 0).length + 4
      ∧ full.portUp 0 = true ∧ full.fifoFull 0 f = true
      ∧ beAt pfc 12 2 = 0x8808 ∧ ((port true).setFld Obj.portConfig 0 111 104 2).rd Obj.portConfig 0 111 104 = 2 ∧ beAt pfc 14 2 = 0x0101
      ∧ bit (beAt pfc 16 2) 7 = true
      ∧ beAt pause 12 2 = 0x8808 ∧ ((port true).setFld Obj.portConfig 0 111 104 1).rd Obj.portConfig 0 111 104 = 1 ∧ beAt pause 14 2 = 0x0001 := by
  decide +kernel

/-- A port of class-7 PFC whose pair has closed, before and after the XOFF, and with the pair open again; and one of link-level pause. -/
theorem wit_ReceptionAndPause_send :
    let d := ((port true).setFld Obj.portConfig 0 111 104 2).setFld Obj.portConfig 0 103 96 0x80
    let shut := d.setFld Obj.bufPairState 0 7 7 1
    let told : Device := { shut with ports := { shut.ports with xoff := [7] } }
    let openAgain : Device := { d with ports := { d.ports with reopened := [7] } }
    let link : Device := (openAgain.setFld Obj.portConfig 0 111 104 1).setFld Obj.portConfig 0 103 96 0
    shut.mayPause 0 = true ∧ 7 ∈ shut.closedClasses 0 ∧ setHas shut.ports.xoff 7 = false
      ∧ told.mayPause 0 = true ∧ 7 ∈ told.closedClasses 0 ∧ setHas told.ports.xoff 7 = true
      ∧ openAgain.mayPause 0 = true ∧ setHas openAgain.ports.reopened 7 = true ∧ openAgain.pauses 0 7 = false
      ∧ openAgain.rd Obj.portConfig 0 111 104 ≠ 1
      ∧ link.mayPause 0 = true ∧ setHas link.ports.reopened 7 = true ∧ link.pauses 0 7 = false ∧ link.rd Obj.portConfig 0 111 104 = 1
      ∧ link.closedClasses 0 = [] := by decide +kernel

/-- Optical engine 7 with the source of group 7 in a state, source 8 retired, and source 9 its one unused spare. -/
def laser (state : Nat) : Device :=
  (((dev 6).setFld Obj.laserStatus 77 63 56 state).setFld Obj.laserStatus 78 63 56 4).set Obj.laserSparesLeft 7 1

/-- The same with a swap at a stage. -/
def swapping (stage : SwapStage) : Device :=
  { laser 3 with ports := { (laser 3).ports with swap := [(7, { group := 7, old := 77, spare := 79, stage := stage })] } }

theorem wit_LaserSources_swap :
    (laser 0).opticsOn = true ∧ (laser 0).laserState 77 = 0 ∧ (laser 0).sparesLeft 7 ≠ 0 ∧ mapGet? (laser 0).ports.swap 7 = none
      ∧ (laser 0).unusedSpare 7 = some 79 ∧ (laser 0).sourceOf 7 ((laser 0).laserGroup 77) = some 77
      ∧ (∀ stage ∈ [SwapStage.started, .settled, .fullShare],
          mapGet? (swapping stage).ports.swap 7 = some { group := 7, old := 77, spare := 79, stage := stage })
      ∧ mapGet (swapping .fullShare).ports.swapWait 7 [] = [] := by decide +kernel

theorem wit_LaserSources_failure :
    let w : Swap := { group := 7, old := 77, spare := 79, stage := .failed }
    let lit : Device := { laser 5 with ports := { (laser 5).ports with swap := [(16 + 79, w)], feedDark := [63] } }
    let last := ((laser 0).set Obj.laserSparesLeft 7 0).setFld Obj.laserStatus 79 63 56 2
    let none_ := (laser 0).setFld Obj.laserStatus 79 63 56 4
    (laser 0).laserState 77 = 0 ∧ (laser 0).unusedSpare 7 = some 79 ∧ none_.laserState 77 = 0 ∧ none_.unusedSpare 7 = none
      ∧ none_.opticsOn = true ∧ lit.swapInOf 79 = some (16 + 79, w) ∧ mapGet lit.ports.swapWait 7 [] = []
      ∧ last.opticsOn = true ∧ last.laserState 77 = 0 ∧ last.sparesLeft 7 = 0 := by decide +kernel

/-! ### Slices and engines -/

/-- A packet in flight in slice 0, bucket 0, cluster 0. -/
def flight (place : Place) (verdict : Option (Nat × Nat)) : Flight :=
  { id := 1, slice := 0, bucket := 0, seq := 0, cluster := 0, place := place, arrived := 0, record := 0, bytes := natBe 60 0, parser := 0, tail := 0
    slots := [], flowKey := none, flowLost := none, mirrors := [], verdict := verdict, pool := none, barred := false }

/-- The device with that packet. -/
def holding (place : Place) (verdict : Option (Nat × Nat)) : Device :=
  { dev 6 with sl := { (dev 6).sl with flights := [flight place verdict], nextId := 2 } }

theorem wit_ParsePass :
    let d : Device := { port true with ports := { (port true).ports with fifo := [(255, [{ frame := natBe 60 0, stamp := 0 }])] } }
    let x : Inject := { port := 255, pool := 12, packet := natBe 60 0 }
    let e : Device := { dev 6 with mgmt := { (dev 6).mgmt with pipeline := [x] } }
    d.forwarding = true ∧ d.recircReady later 3 = false ∧ e.recircReady later 3 = false
      ∧ mapGet (holding .recirc (some (3, 0))).sl.recircFree 0 0 ≤ later.ticks * 160
      ∧ mapGet d.ports.fifo 255 [] = [{ frame := natBe 60 0, stamp := 0 }] ∧ 255 / 64 = 3 ∧ tailCells (natBe 60 0) = 0
      ∧ e.forwarding = true ∧ e.mgmt.pipeline = [x]
      ∧ (holding .recirc (some (3, 0))).forwarding = true ∧ (holding .recirc (some (3, 0))).recircHead 0 = some (flight .recirc (some (3, 0))) := by
  decide +kernel

/-- Bucket 16383 of slice 3, steered to a cluster of it; its barrier raised, with a packet still awaited and with none. -/
theorem wit_RemapBarriers :
    let d := ((dev 6).set Obj.steerIndirection 16383 48).set Obj.clFence 49 0
    let b (w : List Nat) : Barrier := { slice := 0, bucket := 0, old := 0, cluster := 1, waitFor := w }
    let up (w : List Nat) : Device := { holding .input none with sl := { (holding .input none).sl with barriers := [b w] } }
    d.bucketCluster (16383 / 4096) (16383 % 4096) < 64 ∧ 63 / 16 = 16383 / 4096 ∧ 47 / 16 ≠ 16383 / 4096
      ∧ d.clusterFenced 49 = false ∧ d.get Obj.steerBarrierPending 16383 ≠ 1 ∧ d.bucketCluster (16383 / 4096) (16383 % 4096) ≠ 49
      ∧ (d.set Obj.clFence 49 1).clusterFenced 49 = true ∧ (d.set Obj.steerBarrierPending 16383 1).get Obj.steerBarrierPending 16383 = 1
      ∧ (up [9]).barrier? 0 0 = some (b [9]) ∧ (up [9]).stillWaits (b [9]) = []
      ∧ (up [1]).barrier? 0 0 = some (b [1]) ∧ (up [1]).stillWaits (b [1]) ≠ [] ∧ (up [1]).state ≠ St.reset := by decide +kernel

theorem wit_ContextDispatch :
    let d : Device := { (holding .input none).set Obj.clFence 0 0 with eng := { (dev 6).eng with clState := [(0, 0)] } }
    let ready := d.set Obj.clDispatch 0 0x8000
    d.enginesRun = true ∧ d.clusterFenced 0 = false ∧ d.clusterPower 0 = 0 ∧ d.firstArrived 0 = some (flight .input none)
      ∧ bit (d.get Obj.clDispatch (0 * 256 + fld (flight .input none).record 511 504)) 15 = false
      ∧ bit (ready.get Obj.clDispatch (0 * 256 + fld (flight .input none).record 511 504)) 15 = true
      ∧ ready.chooseEngine 0 = some 0 ∧ ready.firstArrived 0 = some (flight .input none) := by decide +kernel

/-- Context 0's pass: it holds the packet and runs from address 0. -/
def pass : Ctx :=
  { flight := 1, pc := 0, regs := [], pending := [], flags := 0, stack := [], window := natBe 60 0, tail := [], record := 0, parser := 0
    slots := [], lookups := [], verdict := none, mirrors := [], order := 1, waitMask := 0, barrier := false, halted := false
    stepping := false, passed := false, debug := false }

/-- The device with that pass in context 0 and a microword at address 0 of cluster 0. -/
def running (word : Nat) : Device :=
  { (holding (.context 0) none).set Obj.clFence 0 0 with
    eng := { (dev 6).eng with ctx := [(0, pass)], clState := [(0, 0)], control := [(0, word)] } }

/-- The word's run has an outcome that neither ends, waits, touches another unit nor issues an access. -/
def plain (word : Nat) : Bool :=
  let d := running word
  let m := d.nextWord 0 pass
  match startTrap (d.wordEnv later 0 pass) m, runWord (d.wordEnv later 0 pass) { pass with barrier := false, waitMask := 0 } m with
  | none, .ok o => !o.ended && o.touched == [] && o.issue == none && m.lop != 1
  | _, _ => false

/-- Word 0 does nothing and goes on (SEQ NEXT); SEQ 10 is reserved and traps. -/
theorem wit_MicrowordExecutes :
    (running 0).enginesRun = true ∧ (running 0).chooseCtx later 0 = some (0, pass) ∧ (running 0).atBreakpoint 0 pass = false
      ∧ pass.halted = false ∧ pass.stepping = false ∧ pass.debug = false ∧ plain 0 = true
      ∧ (running (at_ 191 188 10)).chooseCtx later 0 = some (0, pass)
      ∧ startTrap ((running (at_ 191 188 10)).wordEnv later 0 pass) ((running (at_ 191 188 10)).nextWord 0 pass) = some (2, 10) := by
  decide +kernel

/-- One access of context 0. -/
def access (op : AccessOp) (addr : Nat) (done : Option Nat) : Access :=
  { id := 1, context := 0, pass := 1, flight := 1, op := op, addr := addr, data := 5, new := 0, reg := 3, done := done }

/-- The device with that access under way. -/
def accessing (op : AccessOp) (addr : Nat) (done : Option Nat) : Device :=
  { running 0 with eng := { (running 0).eng with accesses := [access op addr done] } }

theorem wit_MemoryAccess :
    (accessing .store 0 none).reaching [(0, 1)] = [access .store 0 none]
      ∧ (accessing .load 0x2EFFFF8 none).reaching [(0, 1)] = [access .load 0x2EFFFF8 none] ∧ Ecc.good ≠ Ecc.double
      ∧ (accessing .store 0 none).state ≠ St.safe ∧ (dev St.safe).state = St.safe
      ∧ ((accessing .load 0 (some 9)).eng.accesses.find? fun a => a.id == 1 && a.context == 0) = some (access .load 0 (some 9))
      ∧ (accessing .load 0 (some 9)).ctx? 0 = some pass ∧ pass.order = (access .load 0 (some 9)).pass := by decide +kernel

theorem wit_UnitResults :
    let l (table : Nat) (a : Option Nat) : Lookup := { table := table, key := 0, engine := true, answer := a, lost := none }
    let x (table : Nat) (a : Option Nat) : Ctx := { pass with lookups := [(7, l table a)] }
    let d (table : Nat) (a : Option Nat) : Device := { running 0 with eng := { (running 0).eng with ctx := [(0, x table a)] } }
    let p : Police := { context := 0, pass := 1, flight := 1, policer := 0, bytes := 64, colour := 0, reg := 3 }
    let n : CountOp := { context := 0, flight := 1, counter := 0, bytes := 64, slice := 0 }
    let e : Device := { running 0 with eng := { (running 0).eng with polices := [p], counts := [n] } }
    (d 5 (some 1)).ctx? 0 = some (x 5 (some 1)) ∧ mapGet? (x 5 (some 1)).lookups 7 = some (l 5 (some 1))
      ∧ (d 5 none).ctx? 0 = some (x 5 none) ∧ mapGet? (x 5 none).lookups 7 = some (l 5 none)
      ∧ (d 9 none).ctx? 0 = some (x 9 none) ∧ mapGet? (x 9 none).lookups 7 = some (l 9 none)
      ∧ (e.eng.polices.find? fun p => p.context == 0) = some p ∧ e.ctx? 0 = some pass ∧ pass.order = p.pass
      ∧ (e.eng.counts.find? fun p => p.context == 0) = some n := by decide +kernel

theorem wit_EngineUpkeep :
    let bad : Device := { dev 6 with eng := { (dev 6).eng with copyBad := [63 * 4096 + 4095] } }
    let idle : Device := { (dev 6).set Obj.clFence 63 0 with eng := { (dev 6).eng with clState := [(63, 0)] } }
    let none_ := idle.set Obj.steerClusterBuckets 63 0
    let wake : Device := { none_ with eng := { none_.eng with clState := [(63, 3)] } }
    setHas bad.eng.copyBad (63 * 4096 + 4095) = true ∧ bad.state ≠ St.reset
      ∧ (running 0).ctx? 0 = some pass ∧ (running 0).enginesRun = true ∧ pass.halted = false ∧ pass.verdict = none ∧ pass.debug = false
      ∧ none_.clusterFenced 63 = false ∧ none_.clusterPower 63 = 0 ∧ none_.get Obj.steerClusterBuckets 63 = 0
      ∧ (∀ f ∈ none_.sl.flights, f.cluster ≠ 63) ∧ (∀ kv ∈ none_.eng.ctx, kv.1 / 128 ≠ 63)
      ∧ wake.clusterFenced 63 = false ∧ wake.clusterPower 63 = 3
      ∧ flight .input none ∈ (holding .input none).sl.flights ∧ (flight .input none).cluster = 0 ∧ (holding .input none).state ≠ St.reset := by
  decide +kernel

theorem wit_PacketRelease :
    (holding .ended (some (4, 255))).forwarding = true
      ∧ (holding .ended (some (4, 255))).releasable 0 0 = some (flight .ended (some (4, 255))) ∧ (flight .ended (some (4, 255))).mirrors = []
      ∧ (flight .ended (some (4, 255))).verdict = some (4, 255) ∧ (flight .ended (some (4, 255))).slice < 4
      ∧ (holding .ended (some (1, 0))).releasable 0 0 = some (flight .ended (some (1, 0)))
      ∧ (flight .ended (some (1, 0))).verdict = some (1, 0) := by decide +kernel

/-! ### Images and the Pilot -/

theorem test_sha384_abc :
    sha384 (natBe 3 0x616263)
      = 0xcb00753f45a35e8bb5a03d699ac65007272c32ab0eded1631a8b605a43ff5bed8086072ba1e7cc2358baeca134c825a7 := by decide +kernel

/-- A microcode image: header (Table 10.1) and body, a P-384 public key, and a signature that verifies under it (r = s = the digest, for
which both multipliers of the check are 1). -/
def microcode : Staged :=
  { bytes := natBe 64 (at_ 511 480 0x5A505543 + at_ 479 464 1 + at_ 463 456 1 + at_ 447 432 1 + at_ 415 384 3 + at_ 383 352 0x51200C90
        + at_ 335 320 1 + at_ 287 256 600) ++ natBe 536 0
      ++ natBe 48 0x4fa89827c2560d7dedcb19fbc4ba1d1760cd7a6037ff9211c84accdee2dc7938f3398da5bff0460c261499aad9b45221
      ++ natBe 48 0x476e334d51f923e88cb37895816f750f110d5ac4c5d3273884d1f4d7abd3229d417ca53aee1006e6eced67e51518588f
      ++ natBe 48 0x4edc6eb98bfa4ff52e2032d785509ae9c5f899c872ad2e6c0fca3408f534684f32e45534881a0ee9a91f25be7547b651
      ++ natBe 48 0x4edc6eb98bfa4ff52e2032d785509ae9c5f899c872ad2e6c0fca3408f534684f32e45534881a0ee9a91f25be7547b651
    room := 8388608 }

/-- A firmware image: header (Table 10.1) and body, a P-384 public key, and a signature that verifies under it (r = s = the digest, for
which both multipliers of the check are 1). -/
def firmware : Staged :=
  { bytes := natBe 64 (at_ 511 480 0x5A505543 + at_ 479 464 1 + at_ 463 456 2 + at_ 447 432 0 + at_ 415 384 4 + at_ 383 352 0x51200C90
        + at_ 335 320 0 + at_ 287 256 68) ++ natBe 4 0
      ++ natBe 48 0xfa0e36306134e04c6e17a0c8de782cb32f5a306af40aed3b9deb13097277b8cfd90cfa7c1409831925f7a73637264020
      ++ natBe 48 0xf560b46a8897ef3af59ff526056a6ea4079739c0a218e0da30481864c19a1810a7b8c091eb27664cbc59de026b3e0e16
      ++ natBe 48 0x5ab09de8f06af3e735cddf16db95ca97763d00d560d3b2edb6892663944a2e91cd940858eaabb84e0efbed073e404e0c
      ++ natBe 48 0x5ab09de8f06af3e735cddf16db95ca97763d00d560d3b2edb6892663944a2e91cd940858eaabb84e0efbed073e404e0c
    room := 8388608 }

/-- A signature with r = s = z verifies where both multipliers are 1 and the base point plus the public key has the x coordinate z. -/
theorem ecdsa_of_sum {z x y w px py : Nat} (hz : 0 < z ∧ z < n384 ∧ 0 < z ∧ z < n384 ∧ x < p384 ∧ y < p384
      ∧ y * y % p384 = (x * x * x + (p384 - 3) * x + b384) % p384)
    (hw : invMod n384 z = w) (h1 : z * w % n384 = 1) (ha : addPoint (some g384) (some (x, y)) = some (px, py)) (hp : px % n384 = z) :
    ecdsaValid z z z x y = true := by
  have h0 : ∀ (p : Option (Nat × Nat)) n, mulPoint p n 0 = none := by
    intro p n
    induction n with
    | zero => rfl
    | succ n ih => simp [mulPoint, ih, addPoint]
  have hn : ∀ (p : Option (Nat × Nat)) n, mulPoint p (n + 1) 1 = p := by
    intro p n; simp [mulPoint, h0, addPoint]
  have hm : ∀ (p : Option (Nat × Nat)), mulPoint p 384 1 = p := fun p => hn p 383
  unfold ecdsaValid
  rw [if_pos hz]
  simp only [hw, h1, hm, ha, hp]
  simp

/-- The microcode image passes every check of R216 on a device that trusts its key. -/
theorem microcode_valid {d : Device} (hd : d.get Obj.devPartId 0 = 0x51200C90) (hs : d.get Obj.devStepping 0 = (dev 6).get Obj.devStepping 0)
    (hk : d.get Obj.ucodeKeyHash 0 = 0x4d8eca3fdb8fad25c798304e2b7819dcc147ef12f532ecee91f83ce51122872d13d43d1c8807c6158347cf59efb66491) (hp : d.img.keyPolicy = 0) :
    d.verify 1 microcode = 0 := by
  have sig : ecdsaValid microcode.digest (beAt microcode.bytes (microcode.bodyLength + 96) 48) (beAt microcode.bytes (microcode.bodyLength + 96 + 48) 48)
      (beAt (slice microcode.bytes microcode.bodyLength 96) 0 48) (beAt (slice microcode.bytes microcode.bodyLength 96) 48 48) = true := by
    rw [show microcode.digest = 0x4edc6eb98bfa4ff52e2032d785509ae9c5f899c872ad2e6c0fca3408f534684f32e45534881a0ee9a91f25be7547b651 by decide +kernel,
      show beAt microcode.bytes (microcode.bodyLength + 96) 48 = 0x4edc6eb98bfa4ff52e2032d785509ae9c5f899c872ad2e6c0fca3408f534684f32e45534881a0ee9a91f25be7547b651 by decide +kernel,
      show beAt microcode.bytes (microcode.bodyLength + 96 + 48) 48 = 0x4edc6eb98bfa4ff52e2032d785509ae9c5f899c872ad2e6c0fca3408f534684f32e45534881a0ee9a91f25be7547b651 by decide +kernel,
      show beAt (slice microcode.bytes microcode.bodyLength 96) 0 48 = 0x4fa89827c2560d7dedcb19fbc4ba1d1760cd7a6037ff9211c84accdee2dc7938f3398da5bff0460c261499aad9b45221 by decide +kernel,
      show beAt (slice microcode.bytes microcode.bodyLength 96) 48 48 = 0x476e334d51f923e88cb37895816f750f110d5ac4c5d3273884d1f4d7abd3229d417ca53aee1006e6eced67e51518588f by decide +kernel]
    exact ecdsa_of_sum (w := 0x4f0f6616d7badf81776a48214e7ab980e0a03221557934f57945cbb9d88ec4a0f0509460d794cd46a67a2d6ee04bb0ed)
      (px := 0x4edc6eb98bfa4ff52e2032d785509ae9c5f899c872ad2e6c0fca3408f534684f32e45534881a0ee9a91f25be7547b651)
      (py := 0x649d8e5e5a96539dabd7045b38c5bd2c7e7d4cf45e1afabd00174a46158da789deb6ec57fdb9a5badf88b3b1779005c1)
      (by decide +kernel) (by decide +kernel) (by decide +kernel) (by decide +kernel) (by decide +kernel)
  unfold Device.verify
  rw [if_neg (by decide +kernel), if_neg (by rw [hd, hs]; decide +kernel), if_neg (by decide +kernel), if_neg (by decide +kernel),
    if_neg (by rw [show fld microcode.header 455 448 = 0 by decide +kernel, hk, hp,
      show sha384 (slice microcode.bytes microcode.bodyLength 96) = 0x4d8eca3fdb8fad25c798304e2b7819dcc147ef12f532ecee91f83ce51122872d13d43d1c8807c6158347cf59efb66491 by decide +kernel]; simp [bit]), if_neg (by rw [sig]; simp),
    if_neg (by decide +kernel)]

/-- The firmware image passes every check of R216 on a device that trusts its key. -/
theorem firmware_valid {d : Device} (hd : d.get Obj.devPartId 0 = 0x51200C90) (hs : d.get Obj.devStepping 0 = (dev 6).get Obj.devStepping 0)
    (hk : d.get Obj.ucodeKeyHash 0 = 0xc5882268b4fe8747d7d1c2244fd7521f7939db848a5a82cc64329b7258a38fa4a8c8e0d69121c0ffcc72b16960ee4847) (hp : d.img.keyPolicy = 0) :
    d.verify 2 firmware = 0 := by
  have sig : ecdsaValid firmware.digest (beAt firmware.bytes (firmware.bodyLength + 96) 48) (beAt firmware.bytes (firmware.bodyLength + 96 + 48) 48)
      (beAt (slice firmware.bytes firmware.bodyLength 96) 0 48) (beAt (slice firmware.bytes firmware.bodyLength 96) 48 48) = true := by
    rw [show firmware.digest = 0x5ab09de8f06af3e735cddf16db95ca97763d00d560d3b2edb6892663944a2e91cd940858eaabb84e0efbed073e404e0c by decide +kernel,
      show beAt firmware.bytes (firmware.bodyLength + 96) 48 = 0x5ab09de8f06af3e735cddf16db95ca97763d00d560d3b2edb6892663944a2e91cd940858eaabb84e0efbed073e404e0c by decide +kernel,
      show beAt firmware.bytes (firmware.bodyLength + 96 + 48) 48 = 0x5ab09de8f06af3e735cddf16db95ca97763d00d560d3b2edb6892663944a2e91cd940858eaabb84e0efbed073e404e0c by decide +kernel,
      show beAt (slice firmware.bytes firmware.bodyLength 96) 0 48 = 0xfa0e36306134e04c6e17a0c8de782cb32f5a306af40aed3b9deb13097277b8cfd90cfa7c1409831925f7a73637264020 by decide +kernel,
      show beAt (slice firmware.bytes firmware.bodyLength 96) 48 48 = 0xf560b46a8897ef3af59ff526056a6ea4079739c0a218e0da30481864c19a1810a7b8c091eb27664cbc59de026b3e0e16 by decide +kernel]
    exact ecdsa_of_sum (w := 0xfb8dece6e85c68f77a6c8e82c9d9580d6586536d0d750076793cc1eee69901c47f2c89d354439f1a3146055cc79e1726)
      (px := 0x5ab09de8f06af3e735cddf16db95ca97763d00d560d3b2edb6892663944a2e91cd940858eaabb84e0efbed073e404e0c)
      (py := 0xc2e96e84717fdb52da95d60f054757665ba42c911f3dbe77b822e8f1137edc03a84d491cd8a606917fd0ad6effd92672)
      (by decide +kernel) (by decide +kernel) (by decide +kernel) (by decide +kernel) (by decide +kernel)
  unfold Device.verify
  rw [if_neg (by decide +kernel), if_neg (by rw [hd, hs]; decide +kernel), if_neg (by decide +kernel), if_neg (by decide +kernel),
    if_neg (by rw [show fld firmware.header 455 448 = 0 by decide +kernel, hk, hp,
      show sha384 (slice firmware.bytes firmware.bodyLength 96) = 0xc5882268b4fe8747d7d1c2244fd7521f7939db848a5a82cc64329b7258a38fa4a8c8e0d69121c0ffcc72b16960ee4847 by decide +kernel]; simp [bit]), if_neg (by rw [sig]; simp),
    if_neg (by decide +kernel)]

/-- A device whose trusted key of slot 0 has a hash. -/
def trusting (hash : Nat) (d : Device) : Device := { d with chart := mapPut d.chart (chartKey Obj.ucodeKeyHash 0) hash }

/-- Stage slot 3 and Pilot bank 1 hold those images, and the device trusts their keys. -/
def stagedDev : Device :=
  trusting 0x4d8eca3fdb8fad25c798304e2b7819dcc147ef12f532ecee91f83ce51122872d13d43d1c8807c6158347cf59efb66491
    { (dev 6).setFld Obj.ucodeStageStatus 3 191 184 1 with img := { (dev 6).img with slots := [(3, microcode)] } }
def bankedDev : Device :=
  trusting 0xc5882268b4fe8747d7d1c2244fd7521f7939db848a5a82cc64329b7258a38fa4a8c8e0d69121c0ffcc72b16960ee4847
    { (dev 6).setBank 1 1 0 with img := { (dev 6).img with banks := [(1, firmware)] } }

theorem wit_Images_verify :
    mapGet? stagedDev.img.slots 3 = some microcode ∧ stagedDev.stageState 3 = 1 ∧ stagedDev.verify 1 microcode = 0
      ∧ mapGet? bankedDev.img.banks 1 = some firmware ∧ bankedDev.bankState 1 = 1 ∧ bankedDev.verify 2 firmware = 0
      ∧ stagedDev.pwr.pilot = .running ∧ stagedDev.sx.pilotHalted = false ∧ bankedDev.pwr.pilot = .running
      ∧ bankedDev.sx.pilotHalted = false :=
  ⟨rfl, by decide +kernel, microcode_valid (by decide +kernel) (by decide +kernel) (by decide +kernel) rfl,
    rfl, by decide +kernel, firmware_valid (by decide +kernel) (by decide +kernel) (by decide +kernel) rfl, rfl, rfl, rfl, rfl⟩

/-- An image with a wrong magic number fails. -/
theorem wit_Images_fails :
    stagedDev.verify 1 { bytes := natBe 64 0, room := 64 } ≠ 0 ∧ bankedDev.verify 2 { bytes := natBe 64 0, room := 64 } ≠ 0 := by
  decide +kernel

theorem wit_Images_load :
    let d : Device := { (dev 6).setFld Obj.ucodeLoadStatus 63 55 48 3 with
      img := { (dev 6).img with slots := [(3, microcode)], loads := [63] } }
    let l : Device := { d with img := { d.img with loading := true } }
    d.img.loads = [63] ∧ d.img.loading = false ∧ l.img.loading = true ∧ l.img.loads = [63]
      ∧ mapGet? l.img.slots (l.rd Obj.ucodeLoadStatus 63 55 48) = some microcode ∧ microcode.words ≤ 4096 ∧ l.state ≠ St.reset := by
  decide +kernel

theorem wit_PilotRestarts :
    let d : Device := { dev 6 with img := { (dev 6).img with switch := some 2, loads := [63] } }
    let r : Device := { dev 6 with pwr := { (dev 6).pwr with requested := some 1 } }
    let v : Device := { (dev 6).setFld Obj.pilotStatus 0 127 120 2 with img := { (dev 6).img with previous := some 0 } }
    let e : Device := { dev 6 with pwr := { (dev 6).pwr with pilot := .restarting } }
    d.pwr.pilot = .running ∧ d.img.switch.isSome = true ∧ d.img.switch = some 2 ∧ 63 ∈ d.img.loads
      ∧ r.pwr.pilot = .running ∧ r.pwr.requested = some 1 ∧ r.img.switch = none
      ∧ v.img.previous = some 0 ∧ v.running = 2 ∧ e.pwr.pilot = .restarting := by decide +kernel

/-! ### The shared buffer and the HBM stacks -/

/-- The device with stack `k` and its sister in states of Table 12.4. -/
def sisters (k own other : Nat) : Device := ((dev 6).setFld Obj.hbmStackStatus k 255 248 own).setFld Obj.hbmStackStatus (sister k) 255 248 other

/-- One packet that stands in queue 262143 with a cell on the chip. -/
def queued : Device :=
  let e : QEntry := { cells := [3], pool := 11, headroom := false, port := none, copy := false, record := 0, packet := natBe 60 0 }
  { dev 6 with buf := { (dev 6).buf with cells := [3], queues := [(262143, [e])] } }

/-- A queue to be steered (its residence is above SteerAfter and an OPEN stack has room), and one to be released. -/
theorem wit_SeparatorAndSegments :
    let on := ((queued.set Obj.sepConfig 0 (2 ^ 127 + at_ 95 64 10000 + at_ 63 32 5000)).setFld Obj.bufPoolConfig 11 79 53 100).setFld
      Obj.sepStack 3 95 64 3500000
    let steered : Device := { dev 6 with buf := { (dev 6).buf with steered := [(262143, 0)] } }
    on.forwarding = true ∧ mapGet? on.buf.steered 262143 = none ∧ bit (on.get Obj.sepConfig 0) 127 = true
      ∧ fld (on.get Obj.sepConfig 0) 95 64 < residenceShown (on.residenceOf Clk.reset 262143) ∧ on.heldPool 262143 < 12
      ∧ 0 < on.poolVatSize (on.heldPool 262143)
      ∧ on.steeredRate10 Clk.reset + 10 * on.arrivalRate Clk.reset 262143 ≤ on.budgetLimit10
      ∧ on.poolStack Clk.reset (on.heldPool 262143) 1 = some 3
      ∧ (mapGet? steered.buf.steered 262143).isSome = true
      ∧ residenceShown (steered.residenceOf Clk.reset 262143) < fld (steered.get Obj.sepConfig 0) 63 32
      ∧ bit ((queued.set Obj.sepConfig 0 0).get Obj.sepConfig 0) 127 = false := by decide +kernel

theorem wit_SeparatorAndSegments_units :
    let closing := (dev 6).setFld Obj.sepStack 3 127 120 1
    let retiring := (dev 6).set Obj.bufSegmentState 47 1
    let used := queued.set Obj.bufSegmentState 0 1
    closing.sepState 3 = 1 ∧ closing.vatInUse 3 = 0 ∧ retiring.get Obj.bufSegmentState 47 = 1
      ∧ (∀ a ∈ retiring.buf.cells, a < onChipCells → a / segmentCells ≠ 47)
      ∧ used.get Obj.bufSegmentState 0 = 1 ∧ (∃ a ∈ used.buf.cells, a < onChipCells ∧ a / segmentCells = 0) := by decide +kernel

/-- A sweep with seven and one with eight failing pseudo-channels, in TRAINING and in a retraining stack; a retiring pseudo-channel. -/
theorem wit_StackTraining :
    let lane (w : Nat) : List LaneWindow := [{ readFirst := 0, readSteps := w, writeFirst := 44, writeSteps := 20 }]
    let sweep (n : Nat) : List (List LaneWindow) := List.replicate n (lane 7) ++ List.replicate (32 - n) (lane 8)
    let bad (n : Nat) := ((sweep n).filter fun ls => (narrowLane ls).isSome).length
    let cell := 2 ^ 27 + 3 * 2 ^ 25 + 31
    let gone := (dev 6).setFld Obj.hbmPcStatus 127 63 56 1
    let used : Device := { gone with buf := { gone.buf with cells := [cell] } }
    (sweep 7).length = 32 ∧ (∀ ls ∈ sweep 8, ∀ w ∈ ls, w.wf = true) ∧ bad 7 < 8 ∧ 8 ≤ bad 8 ∧ (sweep 8).length = 32
      ∧ (∃ w ∈ lane 7, w.readSteps < 8 ∨ w.writeSteps < 8) ∧ (sweep 7)[6]? = some (lane 7)
      ∧ (dev 2).state = St.training ∧ (dev 2).stackState 3 = 0 ∧ (sisters 3 5 1).stackState 3 = 5
      ∧ gone.pcState (127 / 32) (127 % 32) = 1 ∧ (∀ a ∈ gone.buf.cells, cellHbm a = true → cellStack a = 3 → cellIndex a % 32 ≠ 31)
      ∧ used.pcState 3 31 = 1 ∧ (∃ a ∈ used.buf.cells, cellHbm a = true ∧ cellStack a = 3 ∧ cellIndex a % 32 = 31) := by decide +kernel

theorem wit_StackParking :
    let shut := (sisters 3 2 1).setFld Obj.sepStack 3 127 120 2
    let task (s : Nat) : Device := { sisters 3 s 1 with hbm := { (sisters 3 s 1).hbm with task := [(3, .retrain)] } }
    let dirty : Device := { sisters 3 7 1 with
      hbm := { (sisters 3 7 1).hbm with churn := [blockKey 3 5], churnB := [blockKey 3 5, blockKey 3 6], cursor := [(3, 0)], returning := [127] } }
    (sisters 3 2 1).stackState 3 = 2 ∧ (sisters 3 2 1).sepState 3 ≠ 2 ∧ shut.stackState 3 = 2 ∧ shut.sepState 3 = 2
      ∧ (sisters 3 3 1).stackState 3 = 3 ∧ (task 3).stackState 3 = 3 ∧ mapGet? (task 3).hbm.task 3 = some .retrain
      ∧ mapGet? (sisters 3 3 1).hbm.task 3 ≠ some .retrain ∧ (task 6).stackState 3 = 6 ∧ mapGet? (task 6).hbm.task 3 = some .retrain
      ∧ (sisters 3 6 1).stackState 3 = 6 ∧ dirty.stackState 3 = 7 ∧ dirty.dirty 3 = [5, 6] ∧ 5 < 2 ^ 26
      ∧ dirty.hbm.churn.Pairwise (· < ·) ∧ (sisters 3 7 1).stackState 3 = 7 ∧ (sisters 3 7 1).dirty 3 = [] ∧ 127 ∈ dirty.hbm.returning
      ∧ exec (.drainTimeout 3) (st (sisters 3 2 1)) = .next (after (.drainTimeout 3) (st (sisters 3 2 1))) := by
  refine ⟨?_, ?_, ?_, ?_, ?_, ?_, ?_, ?_, ?_, ?_, ?_, ?_, ?_, ?_, ?_, ?_, ?_, ?_, rfl⟩ <;> decide +kernel

/-- Margins tracked above and below the limit, where the stack may park and where its sister is not ACTIVE. -/
theorem wit_MarginsAndRefresh :
    let ts (m : Nat) : List (List LaneTrim) := List.replicate 32 [{ readDelay := 0, writeDelay := 0, readMargin := m, writeMargin := m }]
    let d := (sisters 3 1 1).setFld Obj.hbmConfig 0 87 80 20
    let off := d.setFld Obj.hbmConfig 0 127 127 0
    let alone := (sisters 3 1 4).setFld Obj.hbmConfig 0 87 80 20
    let known : Device := { d with hbm := { d.hbm with low := [3], watch := [3] } }
    (ts 20).length = 32 ∧ d.stackTrims 3 = true ∧ (d.setTrims 3 (ts 20)).marginLow 3 = false
      ∧ (d.setTrims 3 (ts 19)).marginLow 3 = true ∧ setHas d.hbm.low 3 = false ∧ setHas known.hbm.low 3 = true
      ∧ (known.setTrims 3 (ts 19)).marginLow 3 = true ∧ known.stackTrims 3 = true
      ∧ bit ((d.setFld Obj.hbmConfig 0 127 127 1).get Obj.hbmConfig 0) 127 = true ∧ d.mayPark 3 = true
      ∧ bit (off.get Obj.hbmConfig 0) 127 = false ∧ alone.mayPark 3 = false ∧ alone.stackTrims 3 = true ∧ alone.state ≠ St.reset
      ∧ setHas known.hbm.watch 3 = true ∧ (known.setTrims 3 (ts 20)).marginLow 3 = false
      ∧ setHas (known.setTrims 3 (ts 19)).hbm.watch 3 = true ∧ (known.setTrims 3 (ts 19)).mayPark 3 = true := by decide +kernel

/-- Intervals owed below and at the limit, with room in the refresh group and without; a stack that is cool, and one that is hot. -/
theorem wit_MarginsAndRefresh_heat :
    let d := sisters 3 1 1
    let owing (n : Nat) (busy : NMap Nat) : Device := { d with hbm := { d.hbm with owed := [(127, n)], refreshing := busy } }
    let held : Device := { d with hbm := { d.hbm with groupWait := [127] } }
    let hot := d.setFld Obj.hbmStackStatus 3 239 239 1
    d.stackRefreshes (127 / 32) = true ∧ d.pcState (127 / 32) (127 % 32) = 0 ∧ ¬ (8 ≤ d.owed 127 + 1) ∧ setHas d.hbm.groupWait 127 = false
      ∧ 8 ≤ (owing 7 []).owed 127 + 1 ∧ (owing 7 []).refreshRoom Clk.reset 127 = true
      ∧ (owing 7 [(120, 4100)]).refreshRoom Clk.reset 127 = false ∧ (owing 8 [(120, 4100)]).refreshRoom Clk.reset 127 = false
      ∧ setHas held.hbm.groupWait 127 = true ∧ (refreshGroup 126).filter (fun k => setHas held.hbm.groupWait k) = [127]
      ∧ d.stackRefreshes 3 = true ∧ bit (d.get Obj.hbmStackStatus 3) 239 = false ∧ (850 : Int) < 851 ∧ (850 : Int) ≤ 850
      ∧ bit (hot.get Obj.hbmStackStatus 3) 239 = true ∧ (819 : Int) < 820 ∧ (820 : Int) ≤ 820 ∧ hot.stackRefreshes 3 = true := by
  decide +kernel

/-- The block found bad at the last address of segment 0 and in the churn log; its sister ACTIVE, PARKED, FENCED or with a stale copy. -/
theorem wit_HbmErrors :
    let found (b : Nat) (e : Ecc) : BlockFound := { stack := 3, block := b, ecc := e, otherBad := false }
    let d := sisters 3 1 1
    let log := 0x38000000 / 64
    let stale : Device := { d with hbm := { d.hbm with churn := [blockKey 1 5] } }
    let lost : Device := { d with hbm := { d.hbm with poison := [blockKey 1 5] } }
    (found 50331647 .double).wf = true ∧ d.blockWritten 3 5 = true ∧ d.blockWritten 3 50331647 = false ∧ d.copyServes 3 5 = true
      ∧ (sisters 3 4 1).copyServes 3 5 = false ∧ d.poisoned (pairOf 3, 5) = false ∧ lost.poisoned (pairOf 3, 5) = true ∧ d.state ≠ St.reset
      ∧ logBlock 5 = false ∧ logBlock log = true ∧ d.blockWritten 3 log = true ∧ d.copyServes 3 log = true
      ∧ d.churnSet (sister 3) 5 = false ∧ d.pcState (sister 3) (blockPc 5) = 0 ∧ d.stackState (sister 3) = 1
      ∧ (sisters 3 1 4).stackState (sister 3) = 4 ∧ (sisters 3 1 4).copyServes 3 5 = true ∧ (sisters 3 1 4).churnSet (sister 3) 5 = false
      ∧ (sisters 3 1 8).stackState (sister 3) = 8 ∧ (sisters 3 1 8).copyServes 3 5 = true
      ∧ stale.churnSet (sister 3) 5 = true ∧ stale.copyServes 3 5 = true := by decide +kernel

/-- Requests without response, of an ACTIVE stack and of a fenced one. -/
theorem wit_HbmErrors_unanswered :
    let d : Device := { sisters 3 1 1 with hbm := { (sisters 3 1 1).hbm with unanswered := [(3, .tableWrite 50331647)] } }
    (HbmRequest.tableWrite 50331647).wf = true ∧ (HbmRequest.vatRead 22020095).wf = true ∧ d.stackState 3 ≠ 8
      ∧ (sisters 3 8 1).stackState 3 = 8 ∧ d.state ≠ St.reset ∧ (3, HbmRequest.tableWrite 50331647) ∈ d.hbm.unanswered := by decide +kernel

/-! ### The traffic manager and transmission -/

/-- A flush in progress; the last policer enabled, and not. -/
theorem wit_BucketsAndPolicing :
    let d : Device := { dev 6 with tm := { (dev 6).tm with flush := some [(0, 7)] } }
    let on := d.set (Obj.polConfig0 + 3) 32767 (2 ^ 191)
    d.tm.flush = some [(0, 7)] ∧ (2 : Nat) ≤ 2 ∧ (0 : Int) < 1 ∧ (0 : Int) ≤ 0
      ∧ bit (on.node (recKey kPolicer 131071)) 191 = true ∧ bit (d.node (recKey kPolicer 131071)) 191 = false := by decide +kernel

/-- Queue 262136 of subscriber 32767, bound through service node 0 to port 0, which is up; one packet of 60 bytes stands in it. -/
def scheduling : Device :=
  let e : QEntry := { cells := [3], pool := 0, headroom := false, port := none, copy := false, record := 0, packet := natBe 60 0 }
  let d := ((port true).setFld Obj.tmSubscriber 32767 191 191 1).setFld Obj.tmService 0 191 191 1
  { d with buf := { d.buf with cells := [3], queues := [(262136, [e])] } }

theorem wit_SchedulerSelection :
    scheduling.eligible later 0 ≠ [] ∧ (dev 6).eligible later 7 = []
      ∧ (scheduling.choosePath later 0).map (fun x => (x.1, x.2.1, x.2.2.1)) = some (262136, 0, 0)
      ∧ (scheduling.queue 262136).length = 1 := by decide +kernel

/-- A gate list that is pending after and before its ChangeTime, and one that operates. -/
theorem wit_Gates :
    let default_ : QEntry := { cells := [3], pool := 0, headroom := false, port := none, copy := false, record := 0, packet := natBe 60 0 }
    let g : GateList := { entries := [(1, 500000), (254, 500000)], cycle := 1000000, change := 1000000005 }
    let d : Device := { dev 6 with tm := { (dev 6).tm with gatePending := [(255, g)], gateOper := [(255, g)] } }
    let cut : Device := { d with tm := { d.tm with transmit := [(255, { queue := 7, entry := default_, good := true })], gates := [(255, 1)] } }
    mapGet? cut.tm.transmit 255 = some { queue := 7, entry := default_, good := true } ∧ bit (cut.gatesNow 255 later.nsTotal) (7 % 8) = false
      ∧ mapGet? d.tm.gatePending 255 = some g ∧ Clk.reset.nsTotal < g.change ∧ g.change ≤ later.nsTotal
      ∧ mapGet? d.tm.gateOper 255 = some g
      ∧ bit (d.gatesNow 255 later.nsTotal &&& (255 - mapGet d.tm.gates 255 255 % 256)) 0 = false := by decide +kernel

/-- A selected frame on a port that is up, on one that is down, and with its class paused; and a frame on its way out. -/
theorem wit_Transmission :
    let e : QEntry := { cells := [3, 4], pool := 0, headroom := false, port := none, copy := false, record := 0, packet := natBe 60 0 }
    let x : Selected := { queue := 7, entry := e }
    let put (d : Device) : Device := { d with tm := { d.tm with egress := [(0, [x])] } }
    let paused : Device := { put ((port true).setFld Obj.portConfig 0 111 104 2) with ports := { (port true).ports with paused := [(7, 5)] } }
    let y : Transmit := { queue := 7, entry := e, good := true }
    let sending : Device := { port true with tm := { (port true).tm with transmit := [(0, y)] } }
    mapGet (put (port true)).tm.egress 0 [] = x :: [] ∧ mapGet? (put (port true)).tm.transmit 0 = none
      ∧ (put (port true)).portUp 0 = true ∧ (put (port true)).classPaused 0 (x.queue % 8) = false
      ∧ (put (port false)).portUp 0 = false ∧ paused.classPaused 0 (x.queue % 8) = true ∧ x.entry.cells[1]? = some 4
      ∧ fld x.entry.record 255 254 = 0 ∧ (put (port true)).state ≠ St.reset ∧ mapGet? sending.tm.transmit 0 = some y
      ∧ sending.state ≠ St.safe ∧ (sending.set Obj.devState 0 8).state = St.safe
      ∧ mapGet? (sending.set Obj.devState 0 8).tm.transmit 0 = some y
      ∧ ¬ (Ecc.single = .double ∧ Ecc.double = .double) := by decide +kernel

/-! ### Device time -/

theorem wit_TimeTick :
    let d := dev 6
    let pps := d.set Obj.ppsOutConfig 0 (2 ^ 31)
    let due : Device := { pps with time := { pps.time with ppsDue := true } }
    let high : Device := { pps with time := { pps.time with ppsOut := true } }
    let soon : Device := { d with time := { d.time with ppsLast := some 1250005 } }
    d.timeRuns = true ∧ (Clk.reset.sec < 2 ^ 48 ∧ Clk.reset.ns < 1000000000 ∧ Clk.reset.frac < 2 ^ 32)
      ∧ d.get Obj.timeIncrement 0 < 1000000000 * 2 ^ 32 ∧ pps.ppsEnabled = true ∧ (d.set Obj.ppsOutConfig 0 0).ppsEnabled = false ∧ (dev 0).timeRuns = false
      ∧ due.time.ppsDue = true ∧ due.ppsEnabled = true ∧ high.time.ppsOut = true
      ∧ d.state ≠ St.reset ∧ soon.ppsTooSoon later = true ∧ d.ppsTooSoon later = false := by decide +kernel

/-- The two ends of the range of R297, the values just outside it, and the row of TIME.Increment. -/
theorem wit_TimeIncrement :
    (objInfo? Obj.timeIncrement).isSome = true ∧ (3434255849 : Nat) < 3434255850 ∧ (3437691824 : Nat) < 3437691825
      ∧ ((dev 6).set Obj.timeIncrement 0 3437691824).timeRuns = true
      ∧ ((dev 6).set Obj.timeIncrement 0 3437691824).get Obj.timeIncrement 0 = 3437691824
      ∧ ((dev 6).set Obj.timeIncrement 0 3434255850).get Obj.timeIncrement 0 = 3434255850 := by decide +kernel

theorem wit_TimeSteps :
    let d := dev 6
    let limit := d.get Obj.timeJumpLimit 0
    ((limit : Nat) : Int).natAbs ≤ limit ∧ limit < (((limit + 1 : Nat) : Int)).natAbs ∧ d.state ≠ St.reset
      ∧ fld 999999999 31 0 < 1000000000 ∧ bit (d.get Obj.timeStatus 0) 0 = false
      ∧ bit ((d.set Obj.timeStatus 0 1).get Obj.timeStatus 0) 0 = true
      ∧ (objInfo? Obj.timeJumpRefused).isSome = true ∧ (d.set Obj.timeJumpRefused 0 1).get Obj.timeJumpRefused 0 = 1 := by decide +kernel

/-- Hash 2 of profile 63 in slice 3, enabled with segment 39 and with none. -/
theorem wit_KeysAndHashes :
    let e := 3 * 192 + 63 * 3 + 2
    let d := (dev 6).set Obj.keyHash e (2 ^ 63 + 2 ^ 55)
    let none_ := (dev 6).set Obj.keyHash e (2 ^ 63)
    (List.replicate 40 ((5, true) : Nat × Bool)).length = 40 ∧ bit (d.get Obj.keyHash e) 63 = true
      ∧ (∃ k, k < 40 ∧ bit (d.get Obj.keyHash e) (16 + k) = true)
      ∧ (∀ k, k < 40 → bit (none_.get Obj.keyHash e) (16 + k) = false) ∧ bit ((dev 6).get Obj.keyHash 0) 63 = false := by
  refine ⟨rfl, by decide +kernel, ⟨39, by decide +kernel⟩, ?_, by decide +kernel⟩
  decide +kernel

/-! ### The Lookout -/

/-- One event waiting, with the severity of its source set. -/
def event (source target sev : Nat) : Device :=
  { (dev 6).set Obj.lookSeverity source sev with look := { (dev 6).look with
      waiting := [{ source := source, target := target, detector := target, code := 1, count := 2 }] } }

/-- Its severity as the Lookout rates it. -/
def rated (d : Device) : Option Nat :=
  match d.look.waiting with
  | r :: rest => some (({ d with look := { d.look with waiting := rest } } : Device).pruneReactions.rate later r).1
  | [] => none

theorem wit_EventHandling :
    let once : Device := { event 0x20 0xB1F 1 with look := { (event 0x20 0xB1F 1).look with latest := [(0xB1F, (0, 1250000))] } }
    let shown := (once.setFld Obj.lookHistory 0 215 214 1).setFld Obj.lookStatus 0 63 32 1
    rated (event 0x20 0xB1F 0) = some 0 ∧ rated (event 0x20 0xB1F 1) = some 1 ∧ (event 0x20 0xB1F 1).recordOf later 0xB1F = none
      ∧ targetKnown 0xB1F = true ∧ rated shown = some 1 ∧ shown.recordOf later 0xB1F = some 0
      ∧ 1 ≤ shown.rd Obj.lookHistory (0 % 32) 215 214 ∧ (event 0x20 0xB1F 1).state ≠ St.reset := by decide +kernel

theorem wit_ReactionsAndSafe :
    rated (event 0x20 0xB1F 2) = some 2 ∧ (event 0x20 0xB1F 2).recordOf later 0xB1F = none ∧ (event 0x20 0xB1F 2).get Obj.wqFenced 31 = 0
      ∧ rated (event 0x20 0xB1F 3) = some 3 ∧ (event 0x20 0xB1F 3).state ≠ St.reset ∧ (event 0x20 0xB1F 3).state ≠ St.safe
      ∧ (dev 8).state = St.safe ∧ (0xB00 + 31 : Nat) = 0xB1F := by decide +kernel

theorem wit_StatusesAndShadows :
    let d := (dev 6).set Obj.lookSourceStatus 0x29 3
    let present : Device := { d with look := { d.look with conditions := [0x29 * 65536] } }
    let blamed := (dev 6).set Obj.lookUnitStatus 0xB1F 2
    d.get Obj.lookSourceStatus 0x29 < 4 ∧ (bit (d.get Obj.lookSourceStatus 0x29) 0 && bit 1 0) = true
      ∧ present.sourceCondition later 0x29 = true ∧ d.sourceCondition later 0x29 = false
      ∧ unfences (unitOf 0).1 = false ∧ unfences (unitOf 0xB1F).1 = true ∧ blamed.blamed 0xB1F = true
      ∧ (dev 6).unfenceBusy 0xB1F = false ∧ (dev 6).unitFenced 0xB1F = false := by decide +kernel

/-- A dump asked for, one being written and stopped, one being written, and its second copy. -/
theorem wit_StateDump :
    let x (onChip stopped : Bool) : Dumping := { safe := false, time := 0, cause := 0, onChip := onChip, hbm := true, stopped := stopped }
    let d (onChip stopped : Bool) : Device := { dev 6 with look := { (dev 6).look with dump := some (x onChip stopped) } }
    let first (stopped : Bool) := (d false stopped).setFld Obj.dumpStatus 0 127 120 1
    let second (stopped : Bool) := (d true stopped).setFld Obj.dumpStatus 0 119 112 1
    (d false false).pilotRuns = true ∧ (d false false).dumpWaits = some (x false false)
      ∧ (first false).dumpState false = 1 ∧ (first true).dumpState false = 1 ∧ (x false true).stopped = true ∧ (x false false).stopped = false
      ∧ (second false).dumpState true = 1 ∧ (x true false).onChip = true ∧ (second true).dumpState true = 1 ∧ (second true).pilotRuns = true := by
  decide +kernel

/-! ### Clocks, crossings and counters -/

theorem wit_CrossingsAndClocks :
    let stalled := (dev 6).setFld Obj.crossStatus 0x17 63 56 2
    let k := 0x39 * 256 + 255
    let out (p : Nat) : Device := { dev 6 with cross := { (dev 6).cross with outstanding := [(k, p)] } }
    fabricCrossing 0 = true ∧ fabricCrossing 0x17 = true ∧ stalled.crossState 0x17 = 2 ∧ (dev 6).crossState 0x17 ≠ 2
      ∧ mapGet? (dev 6).cross.outstanding k = none ∧ mapGet? (out 6).cross.outstanding k = some 6 ∧ mapGet? (out 7).cross.outstanding k = some 7
      ∧ mapGet? (out 0).cross.outstanding k = some 0 ∧ mapGet? (out 1).cross.outstanding k = some 1 ∧ (dev 6).state ≠ St.reset
      ∧ (65535 : Nat) < 65536 ∧ ({ dev 6 with sx := { (dev 6).sx with running := some (0, ⟨0, 0, 0, 0, 0, 0⟩) } } : Device).sx.running.isSome = true := by
  decide +kernel

theorem wit_CrossingsAndClocks_clocks :
    let unlocked := (dev 6).setFld Obj.clkStatus 8 63 56 1
    let halted : Device := { dev 6 with sx := { (dev 6).sx with pilotHalted := true } }
    let restarting : Device := { dev 6 with pwr := { (dev 6).pwr with pilot := .restarting } }
    unlocked.clockState 8 = 1 ∧ ((dev 6).setFld Obj.clkStatus 8 63 56 0).clockState 8 ≠ 1 ∧ (dev 6).condition 0x29 0 = false
      ∧ (dev 6).pwr.pilot = .running ∧ restarting.pwr.pilot ≠ .running ∧ restarting.pwr.pilot ≠ .off ∧ (dev 6).sx.pilotHalted = false
      ∧ halted.sx.pilotHalted = true ∧ halted.state ≠ St.reset := by decide +kernel

theorem wit_CounterImages :
    let asked1 := (dev 6).setFld Obj.cntSnapshotStatus 0 255 248 1
    let later1 := asked1.setFld Obj.cntSnapshotStatus 0 207 128 (2 ^ 32)
    let taken := (dev 6).setFld Obj.cntSnapshotStatus 0 255 248 2
    let pend : Device := { dev 6 with eng := { (dev 6).eng with flexPending := [(flexKey 3 67108863, (1, 64))] } }
    let bad : Device := { pend with hbm := { pend.hbm with poison := [blockKey (flexBlock 67108863).1 (flexBlock 67108863).2] } }
    let pending : Device := { dev 6 with hbm := { (dev 6).hbm with waitHeal := [blockKey 3 5] } }
    5 ≤ (dev 6).way ∧ (dev 4).way < 5 ∧ (∀ k ∈ [1, 3], setHas pend.hbm.waitHeal (blockKey k (flexBlock 67108863).2) = false)
      ∧ setHas pending.hbm.waitHeal (blockKey 3 5) = true ∧ asked1.snapState = 1 ∧ ns80 (asked1.rd Obj.cntSnapshotStatus 0 207 128) ≤ later.nsTotal
      ∧ Clk.reset.nsTotal < ns80 (later1.rd Obj.cntSnapshotStatus 0 207 128) ∧ taken.snapState = 2
      ∧ mapGet? pend.eng.flexPending (flexKey 3 67108863) = some (1, 64) ∧ pend.poisoned (flexBlock 67108863) = false
      ∧ mapGet? bad.eng.flexPending (flexKey 3 67108863) = some (1, 64) ∧ bad.poisoned (flexBlock 67108863) = true := by decide +kernel

/-! ### Start-up, restarts, power and heat -/

/-- The device with its power part changed. -/
def powered (state : Nat) (f : Power → Power) : Device := { dev state with pwr := f (dev state).pwr }

theorem wit_StartUp :
    let on := powered 0 fun p => { p with good := false }
    let ready := powered 0 fun p => { p with hold := .powerOn }
    let trained := powered 2 fun p => { p with trained := [0, 1, 2, 3] }
    Device.reset.pwr.vaux = false ∧ on.pwr.vaux = true ∧ on.pwr.good = false ∧ on.pwr.tripped = false
      ∧ ready.pwr.good = true ∧ ready.pwr.resetLow = false ∧ ready.pwr.hold = .powerOn
      ∧ (dev 1).pwr.hold = .none ∧ (dev 1).state = St.bootRom ∧ trained.state = St.training
      ∧ (∀ k, k < 4 → setHas trained.pwr.trained k = true) ∧ (dev 2).state = St.training ∧ setHas (dev 2).pwr.trained 3 = false
      ∧ (dev 3).state = St.opticsUp ∧ (dev 4).state ≠ St.opticsUp := by decide +kernel

/-- OPTICS_UP with nothing to wait for; with a lane that acquires, and without any, before 2 s have passed; and after them. -/
theorem wit_StartUp_optics :
    let up (since : Option Nat) := powered 3 fun p => { p with opticsAt := since }
    let acquiring := (up (some 0)).setFld Obj.laneStatus 255 63 56 1
    (up none).state = St.opticsUp ∧ (up none).pwr.opticsAt = none
      ∧ acquiring.pwr.opticsAt = some 0 ∧ ¬ (0 + 2500000000 ≤ later.ticks) ∧ acquiring.laneFenced 255 = false ∧ acquiring.rxState 255 = 1
      ∧ 0 + 2500000000 ≤ ({ later with ticks := 2500000000 } : Clk).ticks
      ∧ (up (some 0)).pwr.opticsAt = some 0 ∧ ∀ l, l < 256 → (up (some 0)).rxState l ≠ 1 := by decide +kernel

theorem wit_Restarts :
    let asked (n : Nat) := powered 6 fun p => { p with requested := some n }
    let held (k : RestartKind) := powered 0 fun p => { p with hold := .held k }
    (dev 6).pwr.hold = .none ∧ (asked 2).pwr.hold = .none ∧ (asked 2).pwr.requested = some 2 ∧ (asked 3).pwr.requested = some 3
      ∧ (dev 6).pwr.requested ≠ some 2 ∧ (dev 6).pwr.requested ≠ some 3
      ∧ (powered 6 fun p => { p with hold := .begun .device }).pwr.hold = .begun .device
      ∧ (held .device).pwr.hold = .held .device ∧ (held .full).pwr.hold = .held .full ∧ (held .full).pwr.resetLow = false
      ∧ (powered 0 fun p => { p with hold := .held .full, resetLow := true }).pwr.resetLow = true
      ∧ (499 : Nat) < 500 ∧ (520 : Nat) ≤ 520 ∧ (dev 6).pwr.resetLow = false
      ∧ (powered 0 fun p => { p with hold := .powerOn }).pwr.hold = .powerOn
      ∧ (held .resetN).pwr.hold = .held .resetN ∧ (held .full).pwr.hold ≠ .held .resetN
      ∧ (powered 6 fun p => { p with hold := .begun .full, supply := [0xFF] }).vinOut = true
      ∧ (powered 6 fun p => { p with hold := .begun .full, supply := [0xFF] }).pwr.hold = .begun .full := by decide +kernel

theorem wit_PowerAndHeat :
    let bad := powered 6 fun p => { p with supply := [0xFF] }
    (dev 6).pwr.vaux = true ∧ (dev 6).pwr.good = true ∧ setHas (dev 6).pwr.supply 11 = false ∧ (dev 6).state ≠ St.reset
      ∧ bad.pwr.supply = [0xFF] ∧ bad.pwr.good = true ∧ setHas (dev 6).pwr.supply 1 = false ∧ (850 : Nat) < 851
      ∧ 280 ≤ trimStep (((dev 6).setFld Obj.pwrRail 1 95 80 700).rd Obj.pwrRail 1 95 80)
      ∧ trimStep (((dev 6).setFld Obj.pwrRail 1 95 80 700).rd Obj.pwrRail 1 95 80) ≤ 340
      ∧ (1000 : Int) < max 1001 0 ∧ max (969 : Int) 0 < 970 ∧ (970 : Int) ≤ max 970 0 ∧ max (1000 : Int) 0 ≤ 1000 := by decide +kernel

/-! ### The Sextant -/

/-- The device with SX_CMD selected and every part of DBG.Enable set. -/
def debugging (d : Device) : Device := { d.set Obj.dbgEnable 0 7 with sx := { d.sx with ir := 0x10 } }

/-- The fields of an SX_CMD scan. -/
def fields (unit context space address count data : Nat) : SxFields :=
  { unit := unit, context := context, space := space, address := address, count := count, data := data }

theorem issues {d : Device} {op : Nat} {f : SxFields}
    (h : d.pwr.good = true ∧ d.sx.ir = 0x10 ∧ d.sx.running = none ∧ d.sxBlocked = false ∧ d.sxRefused op f = none ∧ f.wf = true
      ∧ d.firstBlocked (d.sxCrossings op f) = none) : d.Issues op f := by
  exact ⟨h.1, h.2.1, h.2.2.1, h.2.2.2.1, h.2.2.2.2.2.2, h.2.2.2.2.1, h.2.2.2.2.2.1⟩

theorem wit_DebugTap :
    let stream : Device := { dev 6 with sx := { (dev 6).sx with ir := 0x12 } }
    let result : Device := { dev 6 with sx := { (dev 6).sx with ir := 0x11 } }
    (dev 6).pwr.good = true ∧ tapRegister 0xFF = false ∧ stream.pwr.good = true ∧ stream.sx.ir = 0x12
      ∧ result.sx.ir = 0x11 ∧ result.sx.running = none ∧ Device.reset.pwr.good = false ∧ (dev 6).state ≠ St.reset := by decide +kernel

/-- TCK present; absent for less than 100 ms, and for 100 ms. -/
theorem wit_DebugTap_clock :
    let absent : Device := { dev 6 with sx := { (dev 6).sx with absentAt := some 5 } }
    (dev 6).sx.absentAt = none ∧ absent.sx.absentAt = some 5 ∧ later.ticks < 5 + 125000000
      ∧ 5 + 125000000 ≤ ({ later with ticks := 125000005 } : Clk).ticks := by decide +kernel

/-- Context 0 running, halted, and FREE and halted, of a cluster in MAINTENANCE. -/
def debugCtx (halted : Bool) : Device :=
  debugging { dev 7 with eng := { (dev 7).eng with ctx := [(0, { pass with halted := halted })] } }
def debugIdle : Device := debugging { dev 7 with sx := { (dev 7).sx with idle := [(8191, pass)] } }

theorem wit_DebugContexts :
    (debugCtx false).Issues 1 (fields 0x400 0 0 0 0 0) ∧ (debugCtx false).Issues 1 (fields 1 0 0 0 0 0)
      ∧ (debugCtx true).Issues 2 (fields 0x400 0 0 0 0 0) ∧ (debugCtx true).Issues 3 (fields 0x400 0 0 0 0 0)
      ∧ debugIdle.Issues 0xA (fields 0x7FF 7 0 4095 0 0) ∧ (debugCtx false).Issues 0xB (fields 0 0 0 0 0 0)
      ∧ (debugCtx true).Issues 0xC (fields 0 0 0 0 0 0) :=
  ⟨issues (by decide +kernel), issues (by decide +kernel), issues (by decide +kernel), issues (by decide +kernel),
    issues (by decide +kernel), issues (by decide +kernel), issues (by decide +kernel)⟩

theorem wit_DebugContexts_states :
    sxCtx (fields 0x400 0 0 0 0 0) = some 0 ∧ sxCtx (fields 0x7FF 7 0 4095 0 0) = some 8191 ∧ (debugCtx false).state = St.maintenance
      ∧ (debugCtx false).sxAllowed 0 = true ∧ (debugCtx false).ctx? 0 = some pass ∧ (debugCtx false).pwr.pilot = .running
      ∧ (debugCtx true).ctx? 0 = some { pass with halted := true } ∧ mapGet? debugIdle.sx.idle 8191 = some pass
      ∧ debugIdle.sxAllowed (8191 / 128) = true := by decide +kernel

/-- NOP, a control-store READ of the last word, a WRITE of the last dispatch entry, block commands of 8 bytes and 64 KiB, and points. -/
theorem wit_DebugAccess :
    (debugging (dev 6)).Issues 0 (fields 0 0 0 0 0 0) ∧ (debugging (dev 6)).Issues 4 (fields 0x13F 0 2 16382 0 0)
      ∧ (debugging (dev 6)).Issues 5 (fields 0x13F 0 3 255 0 0x8000) ∧ (debugging (dev 6)).Issues 6 (fields 0 0 6 8388600 8 0)
      ∧ (debugging (dev 6)).Issues 7 (fields 0x100 0 2 0 65536 0) ∧ (debugging (dev 7)).Issues 8 (fields 0x13F 0 0 9 0 (2 ^ 32))
      ∧ (debugging (dev 6)).Issues 9 (fields 0x100 0 0 0 0 0) :=
  ⟨issues (by decide +kernel), issues (by decide +kernel), issues (by decide +kernel), issues (by decide +kernel),
    issues (by decide +kernel), issues (by decide +kernel), issues (by decide +kernel)⟩

/-- A READ of a context's scratchpad word; an SX_CMD word of the last Op and fields. -/
theorem wit_DebugAccess_memory :
    (debugging (dev 6)).Issues 4 (fields 0x7FF 7 0 0x3FFF8 0 0) ∧ sxCtx (fields 0x7FF 7 0 0x3FFF8 0 0) = some 8191
      ∧ whereWord (locate (8191 / 128) 0x3FFF8) = some 0xFFFFF8 ∧ (debugging (dev 6)).wordOn later 0xFFFFF8 = true
      ∧ (fields 0xFFFF 7 31 (2 ^ 40 - 1) 0xFFFFFF (2 ^ 64 - 1)).wf = true :=
  ⟨issues (by decide +kernel), by decide +kernel, by decide +kernel, by decide +kernel, by decide +kernel⟩

theorem wit_DebugAccess_states :
    let run (staged : Option (Nat × Option Nat)) (f : SxFields) : Device :=
      { dev 6 with sx := { (dev 6).sx with running := some (6, f), staged := staged } }
    let f := fields 0 0 6 8388600 8 0
    sxCluster (fields 0x13F 0 2 16382 0 0) = some 63 ∧ 16382 % 4 ≠ 3 ∧ ((dev 6).set Obj.clFence 63 1).clusterFenced 63 = true
      ∧ ((dev 6).set Obj.clFence 63 0).clusterFenced 63 = false ∧ sxPoint (fields 0x13F 0 0 9 0 (2 ^ 32)) = some (63, 9)
      ∧ (pointOf 9 (2 ^ 32)).isSome = true ∧ (dev 7).sxAllowed 63 = true ∧ sxPoint (fields 0x100 0 0 0 0 0) = some (0, 0)
      ∧ (run (some (0, some 5)) f).sx.running = some (6, f) ∧ (run (some (0, some 5)) f).sx.staged = some (0, some 5)
      ∧ (run (some (0, none)) f).sx.staged = some (0, none) ∧ (run none f).sx.staged = none ∧ f.space = 6 ∧ f.address % 8 = 0
      ∧ f.address + f.count ≤ 8388608 ∧ (run none f).crossState 8 ≠ 2 := by decide +kernel

/-! ### Single commands against the spec's tables -/

/-- Table 20.3: the IDCODE register holds 0x1512_09A7. -/
theorem test_tapIdcode : (after .tapIdcode (st (dev 6))).dev.sx.shifted = 0x151209A7 := by decide +kernel

/-- Table 18.2: FAULT_N is driven low once VAUX is present. -/
theorem test_vauxPresent : (after .vauxPresent State.reset).dev.look.faultN = .low := by decide +kernel

/-- R296: one tick of 0.8 ns is 3,435,973,837 units of 2^-32 ns. -/
theorem test_timeTick :
    (after .timeTick (st (dev 6))).clk.total = 3435973837 := by decide +kernel

/-- R296: a tick at the last moment of a second carries. -/
theorem test_timeTick_carry :
    let s : State := { st (dev 6) with clk := { sec := 7, ns := 999999999, frac := 2 ^ 32 - 1, ticks := 0 } }
    (after .timeTick s).clk.sec = 8 ∧ (after .timeTick s).clk.ns = 0 := by decide +kernel

/-- Table 2.6: a frame whose FCS fails is counted as code 1 of its port. -/
theorem test_bdpFrameReceive_fcs : (after (.bdpFrameReceive 1 (natBe 60 0) false) (st (dev 6))).dev.get Obj.bdpCount 17 = 1 := by
  decide +kernel

/-- R38: a taken token names its holder. -/
theorem test_helmTake :
    let f := bdp 2 0 1 1 opHelmTake 8 1 (item Obj.helmToken 15 1 0 0 [])
    (after .helmTake (st (asked (dev 6) f))).dev.get Obj.helmToken 15 = 1 := by decide +kernel

/-- R341: a timed-out access leaves its crossing STALLED (2) with the object it went to. -/
theorem test_crossingAccessTimeout :
    let t := after (.crossingAccessTimeout 3 0x7001) (st (dev 6))
    t.dev.crossState 3 = 2 ∧ t.dev.rd Obj.crossStatus 3 47 32 = 0x7001 := by decide +kernel

/-- Table 12.4 and R259: a stack whose drain takes too long is ACTIVE again and counts the abort. -/
theorem test_drainTimeout :
    let t := after (.drainTimeout 3) (st (sisters 3 2 1))
    t.dev.stackState 3 = 1 ∧ t.dev.rd Obj.hbmCounters 3 127 64 = 1 := by decide +kernel

/-- Table 19.12: above 100.0 degrees the retention rule is in force; ABOVE_LIMIT only above 105.0. -/
theorem test_thermalSample :
    let t := after (.thermalSample 1001 0 0) (st (dev 6))
    bit (t.dev.get Obj.thermStatus 0) 47 = true ∧ bit (t.dev.get Obj.thermStatus 0) 46 = false := by decide +kernel

/-- R205: the greatest word plus one is zero with carry and without signed overflow. -/
theorem test_alu_add : aluResult 3 (-1) 1 0 = 0 ∧ aluFlags 3 (-1) 1 0 = 5 := by decide +kernel

/-- R103: CRC-32C of the nine ASCII digits is 0xE3069283. -/
theorem test_crc32c : crc32c (natBe 9 0x313233343536373839) = 0xE3069283 := by decide +kernel

/-! ### Refusals, broadcasts and other forms -/

/-- What makes a request at the head of the queue ready to execute. -/
def readyB (d : Device) (op : Nat) (formed : Bytes → Bool) (f : Bytes) : Bool :=
  decide (d.pilotRuns = true ∧ d.mgmt.requests = [(0, f)] ∧ unexecutable f = 0 ∧ bOpcode f = op ∧ bOverrun f = false ∧ bCount f ≠ 0
    ∧ formed f = true ∧ (bOrig f < 2 ∨ op = opRead) ∧ mapGet? d.mgmt.kept (bOrig f) = none)

theorem ready_of {d : Device} {op : Nat} {formed : Bytes → Bool} {f : Bytes} (h : readyB d op formed f = true) :
    d.Ready op formed 0 f [] := by
  obtain ⟨h1, h2, h3, h4, h5, h6, h7, h8, h9⟩ := of_decide_eq_true h
  exact ⟨h1, h2, h3, h4, h5, h6, h7, h8, fresh_of_none h9⟩

theorem wit_ResetStateAndMemories :
    ((st (dev 6)).dev.MemsWf ∧ memWf [(5, 1)] = true ∧ memWf [(5, 0)] = false ∧ memWf [(6, 1), (5, 1)] = false)
      ∧ ∃ t, step { st (dev 6) with pending := [Instr.timeTick] } = .next t :=
  ⟨⟨by unfold Device.MemsWf; decide +kernel, by decide +kernel⟩, ⟨_, rfl⟩⟩

/-- A broadcast frame on a ring; a full request queue; a full forwarding buffer; a link that is down. -/
theorem wit_ChainForwarding_forms :
    let all := bdp 0xFF 0 0 2 opRead 7 1 (item Obj.helmTimeout 0 1 0 0 [])
    let d := dev 6
    let full := d.setMgmt { d.mgmt with requests := List.replicate 32 (0, readFrame Obj.helmTimeout) }
    let big := d.setMgmt { d.mgmt with forward := List.replicate 1000 (1, natBe 74 0) }
    let down := d.setMgmt { d.mgmt with linkUp := [0] }
    bTarget all = 0xFF ∧ 1 < bHop all ∧ bDir all = 0 ∧ d.devnum ≠ 0xFF ∧ 64 ≤ frameBytes all ∧ beAt all 12 2 = 0x88B5
      ∧ unexecutable all = 0 ∧ bOpcode all ≠ opInject ∧ bit (d.get Obj.bdpSupervisorPort 0) 0 = true
      ∧ bit (d.get Obj.devStraps 0) 7 = true ∧ d.mgmt.requests = [] ∧ d.mgmt.forward = []
      ∧ 32 ≤ full.mgmt.requests.length ∧ full.mgmtOn = true
      ∧ 65536 < ((big.mgmt.forward.filter fun x => x.1 == 1 - 0).map fun x => frameBytes x.2).sum + frameBytes all
      ∧ setHas big.mgmt.linkUp (1 - 0) = true ∧ setHas down.mgmt.linkUp (1 - 0) = false ∧ setHas down.mgmt.linkUp 0 = true := by
  decide +kernel

/-- Own and forwarded frames wait for MP1: after a forwarded one, and after an own one. -/
theorem wit_ChainForwarding_turns :
    let f := readFrame Obj.helmTimeout
    let d (n : Nat) (last : List Nat) :=
      (dev 6).setMgmt { (dev 6).mgmt with forward := List.replicate n (1, f), own := [(1, f)], lastForwarded := last }
    takeFirst 1 (d 2 []).mgmt.forward = some (f, [(1, f)]) ∧ takeFirst 1 (d 2 []).mgmt.own = some (f, [])
      ∧ setHas (d 2 [1]).mgmt.lastForwarded 1 = true ∧ setHas (d 2 []).mgmt.lastForwarded 1 = false
      ∧ ([(1, f)].any fun x => x.1 == 1) = true ∧ takeFirst 1 (d 1 []).mgmt.forward = some (f, []) ∧ (d 1 []).mgmtOn = true := by
  decide +kernel

/-- READ items that R28 refuses: an object and an element that are not there, a write-only object, an observer's read, a type, an area
not served. -/
theorem wit_ReadRefusals :
    let it (o e ty : Nat) : ObjItem := { object := o, element := e, count := 1, ty := ty, length := 0, value := [] }
    let f (orig o e ty : Nat) : Bytes := bdp 2 0 orig 1 opRead 7 1 (item o e 1 ty 0 [])
    (∀ x ∈ [(0, 0x0FFF, 0, 0), (0, 0x0101, 1, 0), (0, 0x0020, 0, 0), (2, 0x5010, 0, 0), (0, 0x0101, 0, 4)],
        readyB (asked (dev 6) (f x.1 x.2.1 x.2.2.1 x.2.2.2)) opRead itemsFormed (f x.1 x.2.1 x.2.2.1 x.2.2.2) = true
          ∧ parseItems (bCount (f x.1 x.2.1 x.2.2.1 x.2.2.2)) (bPayload (f x.1 x.2.1 x.2.2.1 x.2.2.2)) = some [it x.2.1 x.2.2.1 x.2.2.2])
      ∧ objInfo? 0x0FFF = none ∧ (objInfo? 0x0101).map (fun r => (r.count, r.access == .rw)) = some (1, true)
      ∧ (objInfo? 0x0020).map (fun r => r.access == .wo) = some true ∧ (objInfo? 0x5010).map (fun r => r.obs) = some false
      ∧ readyB (asked (dev 2) (f 0 0x5011 0 0)) opRead itemsFormed (f 0 0x5011 0 0) = true ∧ (dev 2).served 5 false = false := by
  decide +kernel

/-- WRITE items that R28 refuses: read-only, barred, locked, without its token, a type, an area not served. -/
theorem wit_WriteRefusals :
    let f (o ty n v : Nat) : Bytes := bdp 2 0 0 1 opWrite 7 1 (item o 0 1 ty n (natBe 4 v))
    let d := dev 6
    let lock := d.set Obj.devChartLock 0 1
    let held := d.set Obj.helmToken 2 0
    (∀ x ∈ [(0x0FFF, 4), (0x0001, 4), (0x1012, 10), (0x0101, 4), (0x1002, 4), (0x0101, 3)],
        readyB (asked d (f x.1 x.2 4 200)) opWrite itemsFormed (f x.1 x.2 4 200) = true)
      ∧ (objInfo? 0x0001).map (fun r => r.access == .ro) = some true
      ∧ foreign 0 0xB001 31 1 = true ∧ foreign 0 0x0101 0 1 = false
      ∧ lock.locked 0x0101 = true ∧ readyB (asked lock (f 0x0101 4 4 200)) opWrite itemsFormed (f 0x0101 4 4 200) = true
      ∧ (objInfo? 0x1002).map (fun r => (r.access == .ro, d.unheld 0 r, held.unheld 0 r)) = some (false, true, false)
      ∧ (dev 2).served 5 true = false ∧ (objInfo? 0x5010).map (fun r => (dev 2).unheld 0 r) = some false
      ∧ stType ∈ d.rehearse Clk.reset 0 ⟨0x0101, 4, 1, 4, .rw, true, none, 0⟩
          { object := 0x0101, element := 0, count := 1, ty := 4, length := 4, value := natBe 4 99 } := by
  decide +kernel

/-- Requests that are answered with ERROR: a version, an opcode, lengths that disagree, and an observer's request. -/
theorem wit_UnexecutedRequests :
    let f (orig op count : Nat) : Bytes := bdp 2 0 orig 1 op 7 count (item Obj.helmToken 0 1 0 0 [])
    let bulk (w : Bool) : Bytes := bdp 2 0 0 1 (if w then opWriteBulk else opReadBulk) 7 1
      (natBe 1 1 ++ natBe 1 0 ++ natBe 2 4 ++ natBe 4 0 ++ natBe 4 0 ++ if w then natBe 4 0 else [])
    bVersion (overwrite (f 0 1 1) 14 (natBe 1 2)) ≠ 1 ∧ bVersion (f 0 7 1) = 1 ∧ 6 < bOpcode (f 0 7 1)
      ∧ (∀ op ∈ [opRead, opWrite, opHelmTake, opHelmGive], unexecutable (f 0 op 1) = 0 ∧ bOpcode (f 0 op 1) = op
          ∧ bOverrun (f 0 op 1) = false ∧ itemsFormed (f 0 op 1) = true ∧ itemsFormed (f 0 op 2) = false ∧ bOrig (f 2 op 1) = 2)
      ∧ bulkFormed true (bulk true) = true ∧ bulkFormed false (bulk false) = true ∧ bOpcode (bulk true) = opWriteBulk
      ∧ bOpcode (bulk false) = opReadBulk
      ∧ (let g := bdp 2 0 0 1 opRead 7 1 (item Obj.memData 0 512 0 0 [])
         let d := asked ((dev 6).set Obj.memAddress 0 0x1000000) g
         readyB d opRead itemsFormed g = true ∧ (dev 6).pilotRuns = true) := by
  decide +kernel

/-- A refused mode-0 inject, and an inject FIFO that is full. -/
theorem wit_InjectAndPunt_refused :
    let f := injectFrame 0 16 0 0
    let g := injectFrame 1 12 255 0
    let d := (dev 6).setFld Obj.portConfig 255 127 120 1
    let full := d.setMgmt { d.mgmt with injects := [(0, g)], pipeline := List.replicate 1000 { port := 255, pool := 12, packet := natBe 66 0 } }
    iMode f = 0 ∧ d.injectOk f = false ∧ iMode g = 1 ∧ full.injectOk g = true
      ∧ 65536 < (full.mgmt.pipeline.map fun x => x.packet.length).sum + (iPacket g).length := by decide +kernel
/-- Entries of the queue store and of HBM: one whose read fails, and one whose region no stack serves. -/
theorem wit_DescriptorFetch_fails :
    let far := wqDev.setFld Obj.wqConfig 31 127 120 1
    wqDev.entryFails 31 .ok = false ∧ wqDev.entryFails 31 .timeout = true ∧ wqDev.wqRegion 31 = 1
      ∧ far.mayFetch 31 = true ∧ far.cached 31 0 = none ∧ far.wqRegion 31 = 2 ∧ far.regionOk (far.wqRegion 31) (far.entryAt 31 0) 64 = false := by
  decide +kernel

/-- LOOKUPs in a table with a fenced bank and in one without a valid row; reads of a row that is not valid. -/
theorem wit_EntryCommands_lookups :
    let d := filled Device.reset
    let shut : Device := { d.setFld Obj.tcamTable 0 62 62 1 with tbl := { d.tbl with tcamFenced := [0] } }
    let none_ : Device := { d with tbl := { d.tbl with tcam := [] } }
    shut.fenceBlocks 0 0 = true ∧ none_.fenceBlocks 0 0 = false ∧ none_.winner 0 0 0 = none
      ∧ (match d.tcRead 0 1 with | .error _ => true | .ok _ => false) = true := by decide +kernel

/-- A group of two banks whose second is fenced, and a row whose key is not complete. -/
theorem wit_TcamRows_group :
    let d := Device.reset.set Obj.tcamTable 0 (2 ^ 63 + at_ 61 60 2 + at_ 59 48 3)
    let shut : Device := { d with tbl := { d.tbl with tcamFenced := [1] } }
    shut.groupFenced 0 0 = true ∧ shut.bankTable 0 0 ≠ none ∧ d.groupFenced 0 0 = false ∧ d.keyComplete 0 0 5 = false
      ∧ (d.tcamRow 0 0 5).valid = false ∧ 0 % d.bankWidth 0 0 = 0 ∧ 1 < d.bankWidth 0 0 ∧ 0 + d.bankWidth 0 0 ≤ 12 := by decide +kernel

/-- The word runs without a trap: what it issues to its units. -/
def runs (word : Nat) : Option WordOut :=
  let d := running word
  let m := d.nextWord 0 pass
  match startTrap (d.wordEnv later 0 pass) m, runWord (d.wordEnv later 0 pass) { pass with barrier := false, waitMask := 0 } m with
  | none, .ok o => some o
  | _, _ => none

/-- Words that load, store, COUNT, POLICE, look a flow up, and end their pass with a DISCARD and with a RECIRCULATE; one that touches a
watchpoint; and one that END traps for want of a verdict. -/
theorem wit_MicrowordExecutes_units :
    let mem (op : Nat) := at_ 74 72 op + at_ 66 62 3 + at_ 49 18 0x40
    let flow := at_ 91 88 1 + at_ 87 83 9
    let fin (v a : Nat) := at_ 191 188 9 + at_ 61 58 v + at_ 57 50 a
    let watched : Device := { running (mem 4) with eng := { (running (mem 4)).eng with
      points := [(0, { watch := true, address := 0x40, last := 0x47, engine := none, context := none, kind := 2 })] } }
    (runs (mem 1)).map (fun o => (o.issue.isSome, o.touched)) = some (true, [(0x40, 8, 1)])
      ∧ (runs (mem 4)).map (fun o => o.issue.isSome) = some true
      ∧ (runs (at_ 17 15 1)).map WordOut.count = some (some (0, 60))
      ∧ (runs (at_ 187 186 1 + at_ 17 15 2 + at_ 14 10 3)).map WordOut.police = some (some (0, 60, 0, 3))
      ∧ (runs flow).map (fun o => (mapGet? o.ctx.lookups 0).isSome) = some true
      ∧ ((running flow).nextWord 0 pass).lop = 1 ∧ ((running flow).nextWord 0 pass).ltab = 9
      ∧ (runs (fin 4 255)).map (fun o => (o.ended, o.ctx.verdict.map Prod.fst)) = some (true, some 4)
      ∧ (runs (fin 3 0)).map (fun o => (o.ended, o.ctx.verdict.map Prod.fst)) = some (true, some 3)
      ∧ (running (fin 3 0)).flight? pass.flight = some (flight (.context 0) none)
      ∧ ({ watched with chart := (watched.set Obj.devState 0 St.maintenance).chart } : Device).watchHits 0 [(0x40, 8, 2)] = 1
      ∧ runs (at_ 191 188 9) = none := by
  decide +kernel

/-- A lookup whose request was lost, and the results of two lookups whose passes have ended. -/
theorem wit_UnitResults_lost :
    let l : Lookup := { table := 9, key := 0, engine := true, answer := none, lost := some 1 }
    let x : Ctx := { pass with lookups := [(7, l)] }
    let d : Device := { running 0 with eng := { (running 0).eng with ctx := [(0, x)] } }
    let o : Orphan := { key := 5, lost := none }
    let e : Device := { running 0 with sl := { (running 0).sl with orphans := [(0, [{ key := 4, lost := some 0 }, o])] } }
    d.ctx? 0 = some x ∧ mapGet? x.lookups 7 = some l ∧ e.ctx? 0 = some pass ∧ mapGet? pass.lookups 7 = none
      ∧ ((mapGet e.sl.orphans (0 / 2048) []).find? fun o => o.lost.isNone) = some o := by decide +kernel

/-- A bucket's next packet in and beyond the verdict FIFO; a packet its slice has lost; a PUNT that the policers admit, and one that they do
not; and mirror requests to a session that is enabled and one that is not. -/
theorem wit_PacketRelease_forms :
    let v (c a : Nat) := some (c, a)
    let ahead : List Flight := (List.range 256).map fun i => { flight .ended (v 4 0) with id := i + 2, bucket := 1 }
    let behind : Device := { dev 6 with sl := { (dev 6).sl with flights := ahead ++ [flight .ended (v 4 255)] } }
    let gone : Device := { dev 6 with sl := { (dev 6).sl with flights := [flight .ended (v 0 0)] } }
    let copies : Device := { (dev 6).set Obj.mirrorSession 1 (2 ^ 63) with
      sl := { (dev 6).sl with flights := [{ flight .ended (v 4 255) with mirrors := [0, 1] }] } }
    let d := holding .ended (v 2 0)
    let poor : Device := { d with tm := { d.tm with tokens := [(recKey kPunt 0, (0, 0))] } }
    let size : Int := (min (60 : Nat) 8950 + 70 : Nat) * 1000
    (∃ g ∈ (holding .ended (v 4 255)).verdictFifo 0, g.id = 1)
      ∧ behind.releasable 0 0 = some (flight .ended (v 4 255)) ∧ (∀ g ∈ behind.verdictFifo 0, g.id ≠ 1)
      ∧ (gone.releasable 0 0).map Flight.lost = some true
      ∧ (copies.releasable 0 0).map Flight.mirrors = some [0, 1] ∧ bit (copies.get Obj.mirrorSession 0) 63 = false
      ∧ bit (copies.get Obj.mirrorSession 1) 63 = true
      ∧ d.releasable 0 0 = some (flight .ended (v 2 0)) ∧ poor.releasable 0 0 = some (flight .ended (v 2 0))
      ∧ (d.rates (recKey kPunt 0)).1 ≠ 0 ∧ size ≤ (d.tokens (recKey kPunt 0)).1 ∧ size ≤ (d.tokens (recKey kAggregate 0)).1
      ∧ ¬ size ≤ (poor.tokens (recKey kPunt 0)).1 := by decide +kernel
/-- Link pause with another class still closed; and the pause of each mode at XOFF. -/
theorem wit_ReceptionAndPause_modes :
    let d := ((port true).setFld Obj.portConfig 0 111 104 1).setFld Obj.bufPairState 0 7 7 1
    let two : Device := { d with ports := { d.ports with xoff := [7], reopened := [6] } }
    d.rd Obj.portConfig 0 111 104 = 1 ∧ d.mayPause 0 = true ∧ 7 ∈ d.closedClasses 0 ∧ setHas d.ports.xoff 7 = false
      ∧ two.closedClasses 0 ≠ [] ∧ setHas two.ports.reopened 6 = true ∧ two.pauses 0 6 = false ∧ two.mayPause 0 = true := by decide +kernel

/-- A list that operates when EN 0 is applied, with gate 7 closed; and a queue of that class. -/
theorem wit_Gates_off :
    let d : Device := { dev 6 with tm := { (dev 6).tm with gates := [(255, 127)] } }
    bit (d.get Obj.tasAdmin 255) 255 = false ∧ bit (255 - mapGet d.tm.gates 255 255 % 256) (6 % 8) = false
      ∧ bit (255 - mapGet d.tm.gates 255 255 % 256) (7 % 8) = true := by decide +kernel

/-- A selected frame one of whose cells has lost its read. -/
theorem wit_Transmission_lost :
    let e : QEntry := { cells := [hbmCell 3 5], pool := 0, headroom := false, port := none, copy := false, record := 0, packet := natBe 60 0 }
    let d : Device := { port true with tm := { (port true).tm with egress := [(0, [{ queue := 7, entry := e }])] }
                                       buf := { (port true).buf with lostReads := [hbmCell 3 5] } }
    mapGet d.tm.egress 0 [] = [{ queue := 7, entry := e }] ∧ e.cells.any (setHas d.buf.lostReads) = true ∧ d.portUp 0 = true
      ∧ d.classPaused 0 (7 % 8) = false ∧ mapGet? d.tm.transmit 0 = none := by decide +kernel

/-- A cell read of a fenced stack that is not answered, while its frame is sent; and a parity error of the command path. -/
theorem wit_HbmErrors_read :
    let e : QEntry := { cells := [hbmCell 3 5], pool := 0, headroom := false, port := none, copy := false, record := 0, packet := natBe 60 0 }
    let x : Transmit := { queue := 7, entry := e, good := true }
    let d : Device := { sisters 3 8 1 with tm := { (sisters 3 8 1).tm with transmit := [(0, x)] } }
    (HbmRequest.vatRead 5).wf = true ∧ (HbmRequest.commandParity 31).wf = true ∧ d.stackState 3 = 8 ∧ d.state ≠ St.reset
      ∧ (∀ y ∈ d.hbm.unanswered ++ d.hbm.discarded, y.1 ≠ 3) ∧ x.good = true
      ∧ (d.tm.transmit.find? fun kv => kv.2.entry.cells.contains (hbmCell 3 5)) = some (0, x) := by decide +kernel

/-- A replay whose read of the sister's copy finds an error, and a stack parked beside a fenced sister. -/
theorem wit_StackParking_found :
    let f : BlockFound := { stack := sister 3, block := 5, ecc := .single, otherBad := false }
    let dirty : Device := { sisters 3 7 1 with hbm := { (sisters 3 7 1).hbm with churn := [blockKey 3 5], churnB := [blockKey 3 5] } }
    let dead : Device := { dirty with hbm := { dirty.hbm with poison := [blockKey 1 5] } }
    f.wf = true ∧ dirty.stackState 3 = 7 ∧ dirty.dirty 3 = [5] ∧ dirty.poisoned (pairOf 3, 5) = false ∧ dead.poisoned (pairOf 3, 5) = true
      ∧ dead.dirty 3 = [5] ∧ (sisters 3 3 8).stackState 3 = 3 ∧ (sisters 3 3 8).stackState (sister 3) = 8 := by decide +kernel

/-- A READ whose crossing is STALLED. -/
theorem wit_DebugAccess_blocked :
    let f := fields 0x7FF 7 0 0x3FFF8 0 0
    let d := (debugging (dev 6)).setFld Obj.crossStatus 1 63 56 2
    d.pwr.good = true ∧ d.sx.ir = 0x10 ∧ d.sx.running = none ∧ d.sxBlocked = false ∧ f.wf = true ∧ d.sxRefused 4 f = none
      ∧ d.firstBlocked (d.sxCrossings 4 f) = some 1 := by decide +kernel


/-! ### More of what the statements' hypotheses need -/

/-- A frame for every device, of a supervisor on a port it may not use, on a ring. -/
theorem wit_ChainForwarding_barred :
    let f := bdp 0xFF 0 0 2 opRead 7 1 (item Obj.helmTimeout 0 1 0 0 [])
    let d := (dev 6).set Obj.bdpSupervisorPort 0 1
    d.mgmtOn = true ∧ setHas d.mgmt.linkUp 1 = true ∧ setHas d.mgmt.linkUp (1 - 1) = true ∧ 64 ≤ frameBytes f ∧ frameBytes f ≤ 9000
      ∧ beAt f 12 2 = 0x88B5 ∧ bit (d.get Obj.devStraps 0) 7 = true ∧ bDir f = 0 ∧ bTarget f = 0xFF ∧ d.devnum ≠ 0xFF ∧ d.state ≠ St.reset
      ∧ bOrig f < 2 ∧ bit (d.get Obj.bdpSupervisorPort (bOrig f)) 1 = false ∧ 1 < bHop f
      ∧ bHop (bdp 0xFF 0 0 1 opRead 7 1 []) = 1 := by decide +kernel

/-- A queue in HBM whose stacks' crossings can carry a fetch, and one none of whose can. -/
theorem wit_DescriptorFetch_crossings :
    let d := stacked (wqDev.set Obj.wqConfig 31 (at_ 127 120 1 + at_ 111 104 6 + at_ 95 80 1))
    let shut := (d.setFld Obj.crossStatus 2 63 56 3).setFld Obj.crossStatus 4 63 56 3
    d.wqRegion 31 = 2 ∧ d.mayFetch 31 = true ∧ d.cached 31 (d.get Obj.wqHead 31) = none ∧ d.entryCrossings 31 (d.entryAt 31 0) ≠ []
      ∧ d.firstBlocked (d.entryCrossings 31 (d.entryAt 31 0)) = none
      ∧ shut.mayFetch 31 = true ∧ shut.cached 31 (shut.get Obj.wqHead 31) = none
      ∧ (shut.firstBlocked (shut.entryCrossings 31 (shut.entryAt 31 0))).isSome = true := by decide +kernel

/-- An INSERT whose operand lies behind a crossing that a reset holds. -/
theorem wit_EntryCommands_unreached :
    let far := desc 1 5 0xFF 0 + 2 ^ 500 + at_ 463 448 16 + at_ 383 376 2
    let d := ((stacked (fetched far .waiting)).setFld Obj.crossStatus 2 63 56 3).setFld Obj.crossStatus 4 63 56 3
    d.startable 31 0 = some { count := 0, raw := far, stage := .waiting } ∧ isTable 1 far = true
      ∧ (d.firstBlocked (d.operandCrossings far)).isSome = true := by decide +kernel

/-- A Layer-2 set that is empty, one whose way 3 holds the key, and one full of other keys. -/
theorem wit_TableCommands_layer2 :
    let way (w : Nat) : Nat := 2 * 262144 + (crc32c (natBe 8 5) % 65536 * 4 + w)
    let e (key : Nat) : L2Entry := { key := key, data := 0, hit := true, strikes := 0, learned := true, changed := 0 }
    let one : NMap L2Entry := [(way 3, e 5)]
    let full : NMap L2Entry := [(way 0, e 6), (way 1, e 7), (way 2, e 8), (way 3, e 9)]
    (∀ w, w < 4 → mapGet? ([] : NMap L2Entry) (way w) = none)
      ∧ mapGet? one (way 3) = some (e 5) ∧ (∀ w, w < 3 → mapGet? one (way w) = none)
      ∧ ∀ w, w < 4 → mapGet? full (way w) ≠ none ∧ (mapGet? full (way w)).map L2Entry.key ≠ some 5 := by decide +kernel

/-- A prefix that no entry holds, with a free unit; and one that unit 5 holds. -/
theorem wit_TableCommands_lpm :
    let key := at_ 95 80 3 + at_ 79 16 (2 ^ 63) + at_ 15 8 64
    let e : LpmEntry := { v6 := true, vrf := 3, pfx := 2 ^ 63, len := 64, data := 0, second := some 7, changed := 0 }
    let d : Device := { dev 6 with tbl := { (dev 6).tbl with lpm := [(5, e)] } }
    fld key 15 8 ≤ 64 ∧ (∀ kv ∈ (dev 6).tbl.lpm, kv.2.v6 ≠ true) ∧ (dev 6).lpmInUse + 2 ≤ 2097152 ∧ (dev 6).lpmUsed 2097151 = false
      ∧ d.tbl.lpm.find? (fun kv => kv.2.v6 == true && kv.2.vrf == fld key 95 80 && kv.2.pfx == fld key 79 16 / 2 ^ (64 - 64) * 2 ^ (64 - 64)
          && kv.2.len == fld key 15 8) = some (5, e)
      ∧ mapGet? d.tbl.lpm 5 = some e := by decide +kernel

theorem lpmInUse_replicate (n : Nat) (e : LpmEntry) (he : e.v6 = false) (d : Device) (h : d.tbl.lpm = List.replicate n (0, e)) :
    d.lpmInUse = n := by
  simp [Device.lpmInUse, h, lpmUnits, he]

/-- A device all of whose units other prefixes hold. -/
theorem wit_TableCommands_lpm_full :
    let e : LpmEntry := { v6 := false, vrf := 0, pfx := 0, len := 0, data := 0, second := none, changed := 0 }
    let d : Device := { dev 6 with tbl := { (dev 6).tbl with lpm := List.replicate 2097152 (0, e) } }
    2097152 < d.lpmInUse + 1 ∧ ∀ kv ∈ d.tbl.lpm, kv.2.len ≠ 32 := by
  refine ⟨by rw [lpmInUse_replicate 2097152 _ rfl _ rfl]; omega, fun kv h => ?_⟩
  rw [List.eq_of_mem_replicate h]
  decide

/-- A walk of table 1 from a cursor of its generation, with entries on both sides of where it stops; an invalid cursor; a flow slot that
cannot be read, and none. -/
theorem wit_TableCommands_walk :
    let e : L2Entry := { key := 5, data := 0, hit := true, strikes := 0, learned := true, changed := 0 }
    let f : Entry := { key := 3, data := 0, changed := 0 }
    let d : Device := { dev 6 with tbl := { (dev 6).tbl with l2 := [(2 * 262144 + 7, e), (2 * 262144 + 262143, e)], flow := [(3, f)] } }
    let v := desc 5 1 2 0 + at_ 415 384 1 + at_ 255 208 8
    let stale := desc 5 1 2 0 + at_ 415 384 1 + at_ 255 208 (2 ^ 40 + 8)
    1 ≤ dCount v ∧ dInline v / 2 ^ 208 = 8 ∧ fld 8 47 40 = d.get Obj.l2Generation 2 ∧ d.nextHeld 1 2 0 = [7, 262143]
      ∧ (d.nextHeld 1 2 7).Pairwise (· < ·) ∧ 1 ≤ dCount stale ∧ fld (dInline stale / 2 ^ 208) 47 40 ≠ d.get Obj.l2Generation 2
      ∧ d.nextHeld 9 0 0 = [3] ∧ d.slotBad 0 = true ∧ (stacked d).slotBad 0 = false ∧ (d.tbl.lpm.map Prod.fst).Nodup := by
  decide +kernel

theorem wit_TableCommands_flush :
    let e (s : Nat) : L2Entry := { key := 5, data := at_ 47 40 255 + s * 2 ^ 55, hit := true, strikes := 0, learned := true, changed := 0 }
    let d : Device := { dev 6 with tbl := { (dev 6).tbl with l2 := [(3 * 262144, e 0), (3 * 262144 + 262143, e 1)] } }
    (d.tbl.l2.map Prod.fst).Nodup ∧ fld (e 0).data 47 40 = 255 ∧ bit (e 0).data 55 = false ∧ bit (e 1).data 55 = true
      ∧ 67108863 + 1 ≤ 67108864 := by decide +kernel

/-- Both slots of a key held by a flow whose other slot is free. -/
theorem wit_FlowInsert_path :
    let o : Entry := { key := 4, data := 0, changed := 0 }
    let d : Device := { stacked Device.reset with tbl := { Device.reset.tbl with
      flow := mapPut (mapPut [] (flowSlots 3).1 o) (flowSlots 3).2 o } }
    d.slotFenced (flowSlots 3).1 = false ∧ d.slotFenced (flowSlots 3).2 = false ∧ d.slotHas (flowSlots 3).1 3 = false
      ∧ d.slotHas (flowSlots 3).2 3 = false ∧ d.slotFree (flowSlots 3).1 = false ∧ d.slotFree (flowSlots 3).2 = false
      ∧ d.flowPath 16 (flowSlots 3).1 = some [(flowSlots 3).1, otherSlot o (flowSlots 3).1] := by decide +kernel

/-- A word that looks slot 7's key up in the flow table, and goes on. -/
theorem wit_MicrowordExecutes_flow :
    let d := running (encodeWord { decodeWord 0 with lop := 1, ltab := 9, lslot := 7 }).toNat
    let m := d.nextWord 0 pass
    d.enginesRun = true ∧ d.chooseCtx later 0 = some (0, pass) ∧ d.atBreakpoint 0 pass = false ∧ m.lop = 1 ∧ m.ltab = 9
      ∧ startTrap (d.wordEnv later 0 pass) m = none
      ∧ (match runWord (d.wordEnv later 0 pass) { pass with barrier := false, waitMask := 0 } m with
          | .ok o => !o.ended && (mapGet? o.ctx.lookups m.lslot.toNat).isSome
          | .error _ => false) = true := by decide +kernel

/-- The class of a lossless pair that stands closed, with headroom for the packet and without; a lossy packet that meets a closed queue. -/
theorem wit_Admission_closed :
    let d (head : Nat) := (((dev 6).setFld Obj.bufPoolConfig 0 127 108 8).setFld Obj.bufPoolConfig 0 107 88 head).setFld
      Obj.bufPoolConfig 0 79 53 0
    let loss (head : Nat) := (d head).setFld Obj.portConfig 3 111 104 1
    let o : Offer := { queue := 8, pool := 0, port := some 3, copy := false, punt := false, inject := false, record := 0, packet := natBe 600 0 }
    let shut (d : Device) : Bool := ((d.reclose 0).recloseOne 0 8).closed 0 8
    (d 8).pwr.hold = .none ∧ o.pool < 16 ∧ o.queue ≤ 262144 ∧ (loss 8).lossless 3 (8 % 8) = true ∧ shut (loss 8) = true
      ∧ (loss 8).headroomInUse 0 + ceilDiv o.packet.length 256 ≤ (loss 8).poolHeadroom 0 ∧ ceilDiv o.packet.length 256 ≤ (loss 8).onChipFree
      ∧ (d 8).lossless 3 (8 % 8) = false ∧ shut (d 8) = true
      ∧ ¬ ((loss 8).headroomInUse 0 + ceilDiv (natBe 6000 0).length 256 ≤ (loss 8).poolHeadroom 0) := by decide +kernel

/-- On-chip cells that suffice; too few of them in a Ladle pool; and in a Pail pool, with HBM cells for the rest and without. -/
theorem wit_Admission_cells :
    let d := (stacked (dev 6)).setFld Obj.bufPoolConfig 0 127 108 20
    let tight (vat : Nat) := (d.setFld Obj.bufPoolConfig 0 79 53 vat).setFld Obj.bufPoolStatus 0 127 108 10
    let ladle := d.setFld Obj.bufPoolConfig 12 127 108 8
    let open_ (d : Device) (pool : Nat) : Bool := !((d.reclose pool).recloseOne pool 8).closed pool 8
    let room (d : Device) (pool : Nat) : Nat :=
      min (d.poolSize pool - d.poolHeadroom pool - (d.inUse pool + d.headroomInUse pool)) d.onChipFree
    open_ d 0 = true ∧ d.depth 8 < d.colourThreshold 0 8 0 ∧ ceilDiv 600 256 ≤ room d 0
      ∧ open_ ladle 12 = true ∧ ladle.depth 8 < ladle.colourThreshold 12 8 0 ∧ room ladle 12 < ceilDiv 2600 256
      ∧ open_ (tight 100) 0 = true ∧ room (tight 100) 0 < ceilDiv 2600 256
      ∧ (((tight 100).reclose 0).recloseOne 0 8).tokensNow later 0 = 655360000
      ∧ (((tight 100).reclose 0).recloseOne 0 8 |>.vatAlloc later 0 8 1).isOk = true
      ∧ (((tight 1).reclose 0).recloseOne 0 8 |>.vatAlloc later 0 8 2).isOk = false := by decide +kernel

/-- A queue that stays backlogged after a selection; two members of a band, both in debt. -/
theorem wit_SchedulerSelection_order :
    let e (n : Nat) : QEntry := { cells := [n], pool := 0, headroom := false, port := none, copy := false, record := 0, packet := natBe 60 0 }
    let d : Device := { scheduling with buf := { scheduling.buf with cells := [3, 4], queues := [(262136, [e 3, e 4])] } }
    let b : List Member := [{ key := recKey kQueue 8, num := 8, priority := 0, weight := 1 },
      { key := recKey kQueue 9, num := 9, priority := 0, weight := 0 }]
    let owing := ((dev 6).setDeficit (recKey kQueue 8) (-65)).setDeficit (recKey kQueue 9) (-5)
    (d.choosePath later 0).map (fun x => (x.1, x.2.1, x.2.2.1)) = some (262136, 0, 0) ∧ (d.queue 262136).length = 2
      ∧ (b.map Member.key).Nodup ∧ (b.map Member.num).Nodup ∧ b ≠ [] ∧ ∀ x ∈ b, owing.deficit x.key < 0 := by decide +kernel

/-- A frame two of whose words are corrected, one of which has uncorrectable data, and one whose chain is cut at its second cell. -/
theorem wit_Transmission_found :
    let cells := [hbmCell 3 5, 7]
    let cut (f : CellFinding) : Bool := match f with
      | .link k .double .double => decide (k < cells.length)
      | _ => false
    cells[0]? = some (hbmCell 3 5) ∧ cells[1]? = some 7 ∧ [CellFinding.single 0, .single 0, .dataBad 1, .link 1 .double .good].any cut = false
      ∧ [CellFinding.single 0, .link 1 .double .double] = [CellFinding.single 0] ++ .link 1 .double .double :: []
      ∧ [CellFinding.single 0].any cut = false := by decide +kernel

/-- A set bit of LOOK.UnitStatus whose condition is present, and one whose condition is gone; a reserved target. -/
theorem wit_StatusesAndShadows_units :
    let d := (dev 6).set Obj.lookUnitStatus 0xB1F 2
    let present : Device := { d with look := { d.look with conditions := [0x29 * 65536 + 0xB1F] } }
    d.get Obj.lookUnitStatus 0xB1F < 4 ∧ (bit (d.get Obj.lookUnitStatus 0xB1F) 1 && bit 2 1) = true ∧ targetKnown 0xB1F = true
      ∧ present.targetCondition later 0xB1F = true ∧ d.targetCondition later 0xB1F = false ∧ targetKnown 0xFFFF = false := by decide +kernel

/-- A device whose restart has begun, with both dumps in a state of Table 15.17. -/
def dumped (v : Nat) : Device :=
  { Device.reset with chart := [(chartKey Obj.dumpStatus 0, at_ 127 120 v + at_ 119 112 v)]
                      pwr := { Device.reset.pwr with hold := .begun .full } }

/-- A restart that finds complete dumps, and one that finds them being written, with VIN12 in range. -/
theorem wit_Restarts_dumps :
    (dumped 2).pwr.hold = .begun .full ∧ (dumped 2).vinOut = false ∧ (dumped 2).dumpState false ≠ 1 ∧ (dumped 2).dumpState true ≠ 1
      ∧ (dumped 1).pwr.hold = .begun .full ∧ (dumped 1).vinOut = false ∧ (dumped 1).dumpState false = 1
      ∧ (dumped 1).dumpState true = 1 ∧ ∀ p, p < 2 → (dumped 2).pairLost p = false ∧ (dumped 1).pairLost p = false := by decide +kernel

/-- VIN12 out of range while a restart is under way, and while none is. -/
theorem wit_PowerAndHeat_vin :
    let d := powered 0 fun p => { p with hold := .held .full }
    d.pwr.good = true ∧ d.dumpsAtRisk = true ∧ (dev 6).dumpsAtRisk = false := by decide +kernel

/-- An access that times out while its crossing is being reset. -/
theorem wit_CrossingsAndClocks_reset :
    let d := (dev 6).setFld Obj.crossStatus 8 63 56 3
    fabricCrossing 8 = true ∧ d.crossState 8 = 3 ∧ d.sxBlocked = true := by decide +kernel

/-- A block of the churn log's first copy whose second copy fails too. -/
theorem wit_HbmErrors_log :
    let f : BlockFound := { stack := 3, block := 0x38000000 / 64, ecc := .double, otherBad := true }
    let d := sisters 3 1 1
    f.wf = true ∧ logBlock f.block = true ∧ (logBits f.block).isSome = true ∧ d.blockWritten 3 f.block = true ∧ d.copyServes 3 f.block = true
      ∧ setHas d.hbm.poison (blockKey 3 f.block) = false ∧ d.state ≠ St.reset := by decide +kernel

/-- A READ of the last word of a dispatch table, and a cluster that is LOADING. -/
theorem wit_DebugAccess_dispatch :
    (debugging (dev 6)).Issues 4 (fields 0x13F 0 3 255 0 0) ∧ sxCluster (fields 0x13F 0 3 255 0 0) = some 63
      ∧ ((debugging (dev 6)).setFld Obj.ucodeLoadStatus 63 63 56 2).rd Obj.ucodeLoadStatus 63 63 56 = 2
      ∧ (debugging (dev 6)).rd Obj.ucodeLoadStatus 63 63 56 ≠ 2 :=
  ⟨issues (by decide +kernel), by decide +kernel, by decide +kernel, by decide +kernel⟩

/-- A tick at which the power measurements are taken, of a device one of whose rails regulates. -/
theorem wit_PowerAndHeat_update :
    let s : State := { st ((dev 6).setFld Obj.pwrRail 0 95 80 850) with clk := { Clk.reset with ticks := 1249999 } }
    s.dev.pwr.good = true ∧ (s.clk.ticks + 1) % 1250000 = 0 ∧ s.dev.railState 0 ≠ 2 ∧ s.dev.rd Obj.pwrRail 0 95 80 = 850 := by decide +kernel

/-- The last four bytes of one pair of the HBM queue region and the first four of the other, whose crossings a write of both needs; and one that
cannot carry the second part. -/
theorem wit_BulkRequests_timeout :
    let it : BulkItem := { region := 2, length := 8, offset := 0x7FFFFFC, data := natBe 8 1 }
    let d := stacked (dev 6)
    let shut := d.setFld Obj.crossStatus 3 63 56 2
    d.bulkCheck true it = 0 ∧ d.bulkCrossings true it = [2, 4, 3, 5] ∧ d.bulkCrossings false it = [2, 3]
      ∧ d.firstBlocked (d.bulkCrossings true it) = none ∧ shut.firstBlocked (shut.bulkCrossings true it) = some 3
      ∧ shut.firstBlocked (shut.bulkCrossings false it) = some 3 := by decide +kernel

/-- A record that deletes an entry of table 5, whose crossing a Pilot restart holds in reset. -/
theorem wit_ChainRecord_awaits :
    let v := at_ 511 510 3 + at_ 447 440 3 + at_ 439 432 5 + at_ 431 424 0xFF
    let d : Device := { fetched (desc 7 0 0 0) (.running 0 0 0) with queueStore := memWriteAll [] 0 (natBe 64 v) }
    let held := d.setFld Obj.crossStatus 0 63 56 3
    d.recordOk (d.record 0) = true ∧ d.awaitsReset (d.recordCrossings Clk.reset (d.record 0)) = false
      ∧ held.awaitsReset (held.recordCrossings Clk.reset (held.record 0)) = true := by decide +kernel

/-- A dump that stopped in its on-chip store, its HBM dump not begun. -/
theorem wit_StateDump_unbegun :
    let x : Dumping := { safe := true, time := 0, cause := 1, onChip := true, hbm := false, stopped := true }
    let d := (({ dev 8 with look := { (dev 8).look with dump := some x } } : Device).setFld Obj.dumpStatus 0 127 120 3).setFld
      Obj.dumpStatus 0 119 112 1
    d.dumpState false = 3 ∧ d.dumpState true = 1 ∧ d.look.dump = some x := by decide +kernel

/-- Table 6.13: a command that does not end with OK writes no result buffer, and a FLEX_READ with CLEAR writes counters where it does. -/
theorem test_cmdCrossings :
    let d := stacked (dev 6)
    let search := desc 4 9 0xFF 0 + at_ 319 312 2
    let flex := desc 0x10 0x20 0xFF 0 + at_ 415 384 1 + 2 ^ 255
    d.resultCrossings search csNotFound 0 = [] ∧ d.resultCrossings search csOk 0 = [2, 4]
      ∧ d.tableCrossings flex csOk 1 = [2, 2, 4] ∧ d.tableCrossings flex csFenced 0 = [2] := by decide +kernel

/-- R347: of the accesses that reach one bank of the common store in a cycle, that of the lowest engine is served first. -/
theorem test_leadAccess :
    let a (id context addr : Nat) : Access := ⟨id, context, 0, 0, .load, addr, 0, 0, 0, none⟩
    (leadAccess (a 1 80 0x2000000) [a 2 8 0x2000200, a 3 0 0x2000008]).id = 2
      ∧ (leadAccess (a 1 80 0x1000) [a 2 8 0x1200]).id = 1 := by decide +kernel

/-- R79: a pair that has reopened after its XOFF may be told closed anew. -/
theorem test_pairReopened :
    let d : Device := { dev 6 with ports := { (dev 6).ports with xoff := [7] } }
    (d.pairReopened 7).ports.xoff = [] ∧ (d.pairReopened 7).ports.reopened = [7] := by decide +kernel

/-- R338: the Lookout's registers lie behind crossing 0x00; the dump's and the Sextant's are the Pilot's. -/
theorem test_crossing_lookout :
    chartCrossing Obj.lookHistory 0 = some 0 ∧ chartCrossing Obj.dumpStatus 0 = none ∧ chartCrossing Obj.dbgStatus 0 = none := by
  decide +kernel

/-- R406, Table 20.7: a context resumed while a load of its is under way that its next word does not need is READY; halted, it is WAITING. -/
theorem test_ctxCode :
    let d (halted : Bool) : Device := (running 0).setCtx 0 { pass with pending := [31], halted := halted }
    (d false).ctxCode Clk.reset 0 = 1 ∧ (d true).ctxCode Clk.reset 0 = 0x83 := by decide +kernel

/-- A forwarded frame waits for MP0 and a punt for its turn: after a forwarded frame, and after an own one. -/
theorem wit_InjectAndPunt_turn :
    let f := readFrame Obj.helmTimeout
    let e : QEntry := { cells := [], pool := 0, headroom := false, port := none, copy := false, record := 0, packet := natBe 60 0 }
    let d0 : Device := { dev 6 with buf := { (dev 6).buf with queues := [(puntPath, [e])] } }
    let d (last : List Nat) := d0.setMgmt { d0.mgmt with routes := [(0, (0, 0x0A))], forward := [(0, f)], lastForwarded := last }
    (d []).forwarding = true ∧ (d []).queue puntPath = [e] ∧ (d []).reachable ((d []).get Obj.bdpPuntTarget 0) = some (0, 0x0A)
      ∧ (0, f) ∈ (d []).mgmt.forward ∧ setHas (d []).mgmt.lastForwarded 0 = false ∧ (d []).mgmt.own = [] ∧ (d []).mgmtOn = true
      ∧ takeFirst 0 (d []).mgmt.forward = some (f, []) ∧ (d [0]).reachable ((d [0]).get Obj.bdpPuntTarget 0) = some (0, 0x0A)
      ∧ setHas (d [0]).mgmt.lastForwarded 0 = true ∧ (d [0]).mgmt.own = [] ∧ (dev 6).waitingPunt = none
      ∧ (d []).puntPort ≠ some 1 := by decide +kernel

/-- A second entry behind one that waits, behind a chain that addresses its entry, and behind one that does not; and with FENCE_BEFORE. -/
theorem wit_DescriptorFetch_held :
    let first (v : Nat) (stage : Stage) : Fetched := { count := 0, raw := v, stage := stage }
    let x (v : Nat) : Fetched := { count := 1, raw := v, stage := .waiting }
    let v := desc 3 5 0xFF 7
    let record := at_ 511 510 3 + at_ 447 440 3 + at_ 439 432 5 + at_ 431 424 0xFF + at_ 415 384 7
    let d (a b : Fetched) : Device := { wqDev with wq := { wqDev.wq with fetched := [(31, [a, b])] }, queueStore := memWriteAll [] 0 (natBe 64 record) }
    let chain := first (desc 7 0 0 0) (.running 0 0 0)
    let behind := d chain (x v)
    behind.wqFetched 31 = [chain] ++ x v :: [] ∧ behind.descTarget v = some (targetOf 5 0xFF 7 (behind.operand v))
      ∧ behind.chainAddresses (targetOf 5 0xFF 7 (behind.operand v)) 131072 0 = true ∧ behind.startable 31 1 = none
      ∧ (d chain (x (desc 3 5 0xFF 8))).startable 31 1 = some (x (desc 3 5 0xFF 8))
      ∧ (d (first v .waiting) (x v)).startable 31 1 = none
      ∧ dFence (v + 2 ^ 502) = true ∧ (d chain (x (v + 2 ^ 502))).startable 31 1 = none
      ∧ (fetched (desc 8 0 0 0) .waiting).wqFetched 31 = [] ++ first (desc 8 0 0 0) .waiting :: [] := by decide +kernel

/-- Two units of the LPM store are free. -/
theorem wit_TableCommands_lpm_units :
    (dev 6).lpmUsed 5 = false ∧ (dev 6).lpmUsed 2097151 = false ∧ (5 : Nat) ≠ 2097151 := by decide +kernel

/-- A key whose entry a poisoned slot still holds; its other slot free, held by another flow, and poisoned; and its slots not served. -/
theorem wit_FlowInsert_ghost :
    let a := (flowSlots 3).1
    let b := (flowSlots 3).2
    let e : Entry := { key := 3, data := 0, changed := 0 }
    let o : Entry := { key := 4, data := 0, changed := 0 }
    let d0 := stacked Device.reset
    let d (flow : NMap Entry) (poison : List Nat) : Device := { d0 with tbl := { d0.tbl with flow := flow }, hbm := { d0.hbm with poison := poison } }
    let pa := blockKey (flowBlock a).1 (flowBlock a).2
    let pb := blockKey (flowBlock b).1 (flowBlock b).2
    let ghost := d [(a, e)] [pa]
    let other := d (mapPut [(a, e)] b o) [pb]
    let second := d [(b, e)] []
    ghost.slotFenced a = false ∧ ghost.slotFenced b = false ∧ ghost.slotHas a 3 = true ∧ ghost.poisoned (flowBlock a) = true
      ∧ ghost.slotHas b 3 = false ∧ ghost.slotFree a = true ∧ ghost.slotFree b = true ∧ ghost.slotBad a = true
      ∧ other.slotBad a = false ∧ other.slotHas a 3 = true ∧ other.slotFree b = true ∧ (mapGet? other.tbl.flow b).isSome = true
      ∧ second.slotBad a = false ∧ second.slotHas a 3 = false ∧ second.slotBad b = false ∧ second.slotHas b 3 = true
      ∧ (d [] []).slotHas b 3 = false ∧ (d [] [pb]).slotBad b = true ∧ (d [] [pb]).slotHas b 3 = false ∧ (d [] [pb]).slotBad a = false
      ∧ Device.reset.slotBad a = true := by decide +kernel

/-- POLICE operations of two engines. -/
theorem wit_UnitResults_police :
    let p (k n : Nat) : Police := { context := k, pass := 1, flight := 1, policer := n, bytes := 64, colour := 0, reg := 3 }
    let e : Device := { running 0 with eng := { (running 0).eng with polices := [p 8 0, p 0 0] } }
    e.state ≠ St.safe ∧ (e.eng.polices.find? fun p => p.context == 8) = some (p 8 0) ∧ (e.eng.polices.find? fun p => p.context == 0) = some (p 0 0)
      ∧ sortOn (· / 8) [8, 3, 0, 1] = [3, 0, 1, 8] := by decide +kernel

/-- A queue without cells, one that nothing leaves, and one that some leaves; and two steered queues whose arrivals no budget covers. -/
theorem wit_SeparatorAndSegments_residence :
    let leaving : Device := { queued with buf := { queued.buf with departs := [(262143, [(0, 60)])] } }
    let heavy : Device := { queued with buf := { queued.buf with steered := [(7, 0), (262143, 1)], arrivals := [(7, [(0, 64)]), (262143, [(0, 64)])] } }
    (dev 6).depth 262143 = 0 ∧ queued.depth 262143 = 1 ∧ queued.residenceOf Clk.reset 262143 = none
      ∧ leaving.residenceOf Clk.reset 262143 = some 17066
      ∧ heavy.budgetLimit10 < heavy.steeredRate10 Clk.reset
      ∧ ((heavy.relieve Clk.reset 2).buf.steered = [] ∧ (heavy.relieve Clk.reset 1).buf.steered = [(262143, 1)])
      ∧ queued.steeredRate10 Clk.reset ≤ queued.budgetLimit10 := by decide +kernel

/-- Buckets at B and below it, of each input colour. -/
theorem wit_BucketsAndPolicing_colours :
    (0 : Nat) ≤ 2 ∧ (1000 : Int) ≤ 1000 ∧ (999 : Int) < 1000 ∧ meter true 0 1000 999 1000 = (1, 999, 0)
      ∧ meter false 0 1000 1000 1000 = (0, 0, 0) ∧ meter false 1 1000 1000 1000 = (1, 1000, 0) ∧ meter true 2 1000 5 5 = (2, 5, 5) := by
  decide +kernel

/-- An unfenced cluster with CompatClass 0, and one whose class its slice runs. -/
theorem wit_StatusesAndShadows_cluster :
    let d (k : Nat) := (((dev 6).set Obj.clFence 63 0).set Obj.ucodeCompatClass 63 k).set Obj.ucodeActiveClass 3 1
    let u := clusterTarget 63
    unitOf u = (.cluster, 63) ∧ unfences (unitOf u).1 = true ∧ (d 0).zeroRefused 63 = true ∧ (d 1).zeroRefused 63 = false
      ∧ (d 1).unfenceBusy u = false ∧ (d 1).unitFenced u = false := by decide +kernel

/-- FULL and DEVICE restarts while VIN12 is out of range. -/
theorem wit_Restarts_vin :
    let d (k : RestartKind) : Device := { dumped 2 with pwr := { (dumped 2).pwr with hold := .begun k, supply := [0xFF] } }
    (d .full).vinOut = true ∧ (d .full).pwr.hold = .begun .full ∧ (d .full).dumpsAtRisk = true
      ∧ (d .device).vinOut = true ∧ (d .device).dumpsAtRisk = false := by decide +kernel

/-- A rail out of range as the measurements are taken; a device in SAFE; and one without traffic, a stack of which is parked. -/
theorem wit_PowerAndHeat_modes :
    let s : State := { st (((dev 6).setFld Obj.pwrRail 0 95 80 850).setFld Obj.pwrRail 0 79 72 2) with clk := { Clk.reset with ticks := 1249999 } }
    let parked := (dev 6).setFld Obj.hbmStackStatus 3 255 248 4
    s.dev.railState 0 = 2 ∧ s.dev.rd Obj.pwrRail 0 95 80 = 850 ∧ (s.clk.ticks + 1) % 1250000 = 0 ∧ s.dev.pwr.good = true
      ∧ (dev 8).state = St.safe ∧ St.training < parked.state ∧ parked.traffic = false ∧ parked.stackState 3 = 4 := by decide +kernel

/-- STEP of a halted Pilot. -/
theorem wit_DebugContexts_pilot :
    let d : Device := { debugging (dev 6) with sx := { (debugging (dev 6)).sx with pilotHalted := true } }
    d.Issues 3 (fields 1 0 0 0 0 0) ∧ (fields 1 0 0 0 0 0).unit = 1 ∧ d.sx.pilotHalted = true :=
  ⟨issues (by decide +kernel), by decide +kernel, by decide +kernel⟩
end Sys2Proof.Tests
end

section
/-! PROOFS. What the management plane does with a frame that arrives (R27, R34, R35, R37): one lemma per case of chainFrame. -/

namespace Sys2Proof.Machine

/-! ### The management plane's part of the device -/

variable (d : Device) (m m' : Mgmt) (p q : Nat) (f : Bytes)

@[simp] theorem Device.setMgmt_mgmt : (d.setMgmt m).mgmt = m := rfl
@[simp] theorem Device.setMgmt_setMgmt : (d.setMgmt m).setMgmt m' = d.setMgmt m' := rfl
@[simp] theorem Device.setMgmt_self : d.setMgmt d.mgmt = d := rfl
@[simp] theorem Device.setMgmt_get (o e : Nat) : (d.setMgmt m).get o e = d.get o e := rfl
@[simp] theorem Device.setMgmt_pilotRuns : (d.setMgmt m).pilotRuns = d.pilotRuns := rfl

/-- DEVNUM has six bits, so no device is a reserved Target (R34, R366). -/
theorem Device.devnum_lt : d.devnum < 0x40 := fld_lt _ _ _

/-! ### Forwarding (R35) -/

variable {d p q f}

/-- Bytes of the frames that wait in the forwarding buffer of a port. -/
def Device.forwardUsed (d : Device) (q : Nat) : Nat := ((d.mgmt.forward.filter fun x => x.1 == q).map fun x => frameBytes x.2).sum

theorem Device.forwardFrame_spent (h : bHop f = 1) : d.forwardFrame p f = d.bdpTally p 3 := by
  simp [Device.forwardFrame, h]

theorem Device.forwardFrame_down (h : 1 < bHop f) (hdown : setHas d.mgmt.linkUp (1 - p) = false) :
    d.forwardFrame p f = d.bdpTally (1 - p) 5 := by
  simp [Device.forwardFrame, hdown, show bHop f ≠ 1 by omega]

theorem Device.forwardFrame_full (h : 1 < bHop f) (hup : setHas d.mgmt.linkUp (1 - p) = true)
    (hfull : 65536 < d.forwardUsed (1 - p) + frameBytes f) : d.forwardFrame p f = d.bdpTally (1 - p) 4 := by
  unfold Device.forwardUsed at hfull
  simp [Device.forwardFrame, hup, hfull, show bHop f ≠ 1 by omega]

theorem Device.forwardFrame_room (h : 1 < bHop f) (hup : setHas d.mgmt.linkUp (1 - p) = true)
    (hroom : d.forwardUsed (1 - p) + frameBytes f ≤ 65536) :
    d.forwardFrame p f
      = d.setMgmt { d.mgmt with forward := d.mgmt.forward ++ [(1 - p, overwrite f 18 (natBe 1 (bHop f - 1)))] } := by
  unfold Device.forwardUsed at hroom
  simp [Device.forwardFrame, hup, Nat.not_lt.mpr hroom, show bHop f ≠ 1 by omega]

/-! ### The request queue (R27) -/

/-- Where every request at hand is one that some command executes, none is answered with ERROR. -/
theorem Device.drainErrors_executable {xs : List (Nat × Bytes)} (h : ∀ x ∈ xs, unexecutable x.2 = 0) :
    d.drainErrors xs = d.setMgmt { d.mgmt with requests := xs } := by
  cases xs with
  | nil => rfl
  | cons x xs => simp [Device.drainErrors, h x List.mem_cons_self]

/-- A request that no command executes is answered with ERROR where no other waits. -/
theorem Device.drainErrors_single (h : unexecutable f ≠ 0) :
    d.drainErrors [(p, f)] = (d.sendError p f (unexecutable f)).setMgmt { (d.sendError p f (unexecutable f)).mgmt with requests := [] } := by
  simp [Device.drainErrors, h]

theorem Device.enqueueRequest_full (h : 32 ≤ d.mgmt.requests.length) : d.enqueueRequest p f = d.bdpTally p 6 := by
  simp [Device.enqueueRequest, h]

theorem Device.enqueueRequest_room (h : d.mgmt.requests.length < 32) (hf : unexecutable f = 0)
    (hx : ∀ x ∈ d.mgmt.requests, unexecutable x.2 = 0) :
    d.enqueueRequest p f = d.setMgmt { d.mgmt with requests := d.mgmt.requests ++ [(p, f)] } := by
  have hall : ∀ x ∈ d.mgmt.requests ++ [(p, f)], unexecutable x.2 = 0 := by simpa [or_imp, forall_and, hf] using hx
  simp [Device.enqueueRequest, Nat.not_le.mpr h, Device.drainErrors_executable hall]

/-! ### Receiving (R34, R37) -/

/-- A port takes a request of an originator: any port an observer's, and those of BDP.SupervisorPort a supervisor's (R37). -/
def Device.portTakes (d : Device) (p : Nat) (f : Bytes) : Prop :=
  bOrig f < 2 → bit (d.get Obj.bdpSupervisorPort (bOrig f)) p = true

theorem Device.acceptFrame_request (hs : d.state ≠ St.reset) (hport : d.portTakes p f) (hop : bOpcode f ≠ opInject) :
    d.acceptFrame p f = d.enqueueRequest p f := by
  have : ¬(bOrig f < 2 ∧ bit (d.get Obj.bdpSupervisorPort (bOrig f)) p = false) := fun ⟨h, hb⟩ => by simp [hport h] at hb
  rw [Device.acceptFrame, if_neg hs, if_neg this, if_neg hop]

theorem Device.acceptFrame_barred (hs : d.state ≠ St.reset) (ho : bOrig f < 2)
    (hport : bit (d.get Obj.bdpSupervisorPort (bOrig f)) p = false) : d.acceptFrame p f = d.bdpTally p 7 := by
  simp [Device.acceptFrame, hs, ho, hport]

/-- RING is 1 (R34). -/
def Device.onRing (d : Device) : Bool := bit (d.get Obj.devStraps 0) 7

theorem Device.chainFrame_ring (h : d.onRing = true) : d.chainFrame p f = d.ringFrame p f := if_pos h

theorem Device.chainFrame_lone (h : d.onRing = false) : d.chainFrame p f = d.loneFrame p f := if_neg (ne_true_of_eq_false h)

/-- A request for this device alone, or for every device where no ring takes it further, is accepted. -/
theorem Device.chainFrame_own (hhop : bHop f ≠ 0 ∨ d.onRing = false) (hdir : bDir f = 0)
    (ht : bTarget f = d.devnum ∨ bTarget f = 0xFF ∧ d.onRing = false) : d.chainFrame p f = d.acceptFrame p f := by
  have hn := d.devnum_lt
  cases hring : d.onRing
  · have hres : ¬(0x40 ≤ bTarget f ∧ bTarget f ≤ 0xFE) := by omega
    rw [Device.chainFrame_lone hring]
    have ht' : bTarget f = d.devnum ∨ bTarget f = 0xFF := ht.imp_right And.left
    simp only [Device.loneFrame, hdir, hres, ht', if_true, if_false, Nat.zero_ne_one]
  · rw [Device.chainFrame_ring hring]
    have hhop' : bHop f ≠ 0 := hhop.resolve_right (by simp [hring])
    have ht' : bTarget f = d.devnum := ht.resolve_right (by simp [hring])
    simp [Device.ringFrame, hdir, hhop', ht', Nat.not_le.mpr hn]

/-- A request for every device is accepted and goes on along the ring. -/
theorem Device.chainFrame_all (hring : d.onRing = true) (hhop : bHop f ≠ 0) (hdir : bDir f = 0) (ht : bTarget f = 0xFF) :
    d.chainFrame p f = (d.acceptFrame p f).forwardFrame p f := by
  have hn := d.devnum_lt
  rw [Device.chainFrame_ring hring]
  simp [Device.ringFrame, hhop, hdir, ht, show 255 ≠ d.devnum by omega]

/-- A response of another device and a request for another one go on along the ring. -/
theorem Device.chainFrame_passing (hring : d.onRing = true) (hhop : bHop f ≠ 0)
    (h : bDir f = 1 ∧ bResponder f ≠ d.devnum ∨ bDir f = 0 ∧ bTarget f < 0x40 ∧ bTarget f ≠ d.devnum) :
    d.chainFrame p f = d.forwardFrame p f := by
  rw [Device.chainFrame_ring hring]
  rcases h with ⟨hdir, hr⟩ | ⟨hdir, hlt, hne⟩
  · simp [Device.ringFrame, hhop, hdir, hr]
  · simp [Device.ringFrame, hhop, hdir, hne, Nat.not_le.mpr hlt, show bTarget f ≠ 255 by omega]

/-- Nothing is forwarded where RING is 0: a response, and a request for another device, are counted as code 3. -/
theorem Device.chainFrame_unforwarded (hring : d.onRing = false)
    (h : bDir f = 1 ∨ bDir f = 0 ∧ bTarget f < 0x40 ∧ bTarget f ≠ d.devnum) : d.chainFrame p f = d.bdpTally p 3 := by
  rw [Device.chainFrame_lone hring]
  rcases h with hdir | ⟨hdir, hlt, hne⟩
  · simp [Device.loneFrame, hdir]
  · simp [Device.loneFrame, hdir, hne, Nat.not_le.mpr hlt, show bTarget f ≠ 255 by omega]

theorem Device.chainFrame_spent (hring : d.onRing = true) (hhop : bHop f = 0) : d.chainFrame p f = d.bdpTally p 3 := by
  rw [Device.chainFrame_ring hring]
  simp [Device.ringFrame, hhop]

theorem Device.chainFrame_back (hring : d.onRing = true) (hhop : bHop f ≠ 0) (hdir : bDir f = 1) (hr : bResponder f = d.devnum) :
    d.chainFrame p f = d.bdpTally p 8 := by
  rw [Device.chainFrame_ring hring]
  simp [Device.ringFrame, hhop, hdir, hr]

theorem Device.chainFrame_reserved (hhop : d.onRing = false ∨ bHop f ≠ 0) (hdir : bDir f = 0) (hlo : 0x40 ≤ bTarget f)
    (hhi : bTarget f ≤ 0xFE) : d.chainFrame p f = d.bdpTally p 11 := by
  cases hring : d.onRing
  · rw [Device.chainFrame_lone hring]
    simp [Device.loneFrame, hdir, hlo, hhi]
  · rw [Device.chainFrame_ring hring]
    have hhop' : bHop f ≠ 0 := hhop.resolve_left (by simp [hring])
    simp [Device.ringFrame, hhop', hdir, hlo, hhi]

/-- A BDP frame arrives whole, with a good FCS and a legal length, at a port whose link is up. -/
structure Device.Receives (d : Device) (p : Nat) (f : Bytes) : Prop where
  port : p < 2
  on : d.mgmtOn = true
  up : setHas d.mgmt.linkUp p = true
  long : 64 ≤ frameBytes f
  short : frameBytes f ≤ 9000
  bdp : beAt f 12 2 = 0x88B5

variable {s : State}

theorem exec_bdpFrameReceive (h : s.dev.Receives p f) :
    exec (.bdpFrameReceive p f true) s = .next { s with dev := s.dev.chainFrame p f } := by
  obtain ⟨hp, hon, hup, hlo, hhi, hty⟩ := h
  simp [exec, execBdpFrameReceive, Instr.wf, hp, hon, hup, hty, Nat.not_lt.mpr hlo, Nat.not_lt.mpr hhi]

theorem exec_bdpFrameReceive_damaged {fcs : Bool} (hp : p < 2) (hon : s.dev.mgmtOn = true) (hup : setHas s.dev.mgmt.linkUp p = true)
    (h : fcs = false ∨ frameBytes f < 64 ∨ 9000 < frameBytes f) :
    exec (.bdpFrameReceive p f fcs) s = .next { s with dev := s.dev.bdpTally p 1 } := by
  simp [exec, execBdpFrameReceive, Instr.wf, hp, hon, hup, h]

theorem exec_bdpFrameReceive_otherType (hp : p < 2) (hon : s.dev.mgmtOn = true) (hup : setHas s.dev.mgmt.linkUp p = true)
    (hlo : 64 ≤ frameBytes f) (hhi : frameBytes f ≤ 9000) (hty : beAt f 12 2 ≠ 0x88B5) :
    exec (.bdpFrameReceive p f true) s = .next { s with dev := s.dev.bdpTally p 2 } := by
  simp [exec, execBdpFrameReceive, Instr.wf, hp, hon, hup, hty, Nat.not_lt.mpr hlo, Nat.not_lt.mpr hhi]

end Sys2Proof.Machine
end

section
/-! PROOFS. What leaves the device on a management port (R35, R40, R418), and what a punt that leaves frees of the buffer. -/

namespace Sys2Proof.Machine

/-! ### What leaves the buffer: the other queues and the management plane stay -/

section
variable (d : Device) (c : Clk) (p q n : Nat) (e : QEntry)

/-- The management plane and the entries of every queue. -/
def Device.queueing (d : Device) : Mgmt × NMap (List QEntry) := (d.mgmt, d.buf.queues)

/-- A run of steps each of which keeps a view of the device keeps it. -/
theorem foldl_keeps {α β : Type} (view : Device → β) (op : Device → α → Device) (h : ∀ d x, view (op d x) = view d)
    (xs : List α) (d : Device) : view (xs.foldl op d) = view d := by
  induction xs generalizing d with
  | nil => rfl
  | cons x xs ih => rw [List.foldl_cons, ih, h]

@[simp] theorem Device.queueing_setFld (o i m l v : Nat) : (d.setFld o i m l v).queueing = d.queueing := rfl

/-- A change of the buffer beside its queues. -/
theorem Device.queueing_with_buf {b : Buffer} (h : b.queues = d.buf.queues) : ({ d with buf := b } : Device).queueing = d.queueing := by
  rw [Device.queueing, h]
  rfl

theorem Device.recloseOne_closed : ∃ ks, d.recloseOne p q = { d with buf := { d.buf with closed := ks } } := ⟨_, rfl⟩

theorem Device.queueing_recloseOne : (d.recloseOne p q).queueing = d.queueing := by
  obtain ⟨ks, h⟩ := d.recloseOne_closed p q
  rw [h]
  exact d.queueing_with_buf rfl

theorem Device.queueing_pairReopened : (d.pairReopened n).queueing = d.queueing := by
  unfold Device.pairReopened
  split <;> rfl

@[simp] theorem Device.queueing_reopenPairs : d.reopenPairs.queueing = d.queueing := by
  refine foldl_keeps _ _ (fun d kv => ?_) _ _
  split
  · rfl
  · rw [Device.queueing_pairReopened, Device.queueing_setFld]
    exact d.queueing_with_buf rfl

@[simp] theorem Device.queueing_reclose : (d.reclose p).queueing = d.queueing := by
  unfold Device.reclose
  rw [Device.queueing_reopenPairs]
  exact foldl_keeps Device.queueing _ (fun d q => d.queueing_recloseOne p q) _ _

@[simp] theorem Device.queueing_recloseQueue : (d.recloseQueue q).queueing = d.queueing := by
  unfold Device.recloseQueue
  rw [Device.queueing_reopenPairs]
  exact foldl_keeps Device.queueing _ (fun d p => d.queueing_recloseOne p q) _ _

theorem Device.queueing_freeCell : (d.freeCell n).queueing = d.queueing := by
  unfold Device.freeCell
  split
  · exact d.queueing_with_buf rfl
  · rw [Device.queueing, Device.raise_mgmt, Device.raise_buf, Device.count_mgmt, Device.count_buf, Device.queueing]

@[simp] theorem Device.queueing_freeGauge : d.freeGauge.queueing = d.queueing := d.queueing_setFld ..

@[simp] theorem Device.queueing_gauge (m l : Nat) (i : Int) : (d.gauge p m l i).queueing = d.queueing := d.queueing_setFld ..

@[simp] theorem Device.queueing_freeEntry (cells : List Nat) : (d.freeEntry e cells).queueing = d.queueing := by
  have hcells : (cells.foldl Device.freeCell d).queueing = d.queueing := foldl_keeps _ _ Device.queueing_freeCell _ _
  unfold Device.freeEntry
  rw [Device.queueing_reclose, Device.queueing_freeGauge, Device.queueing_gauge]
  split <;> rw [Device.queueing_gauge, hcells]

theorem Device.queueing_unsteer : (d.unsteer q).queueing = d.queueing := d.queueing_with_buf rfl

@[simp] theorem Device.queueing_relieve : (d.relieve c n).queueing = d.queueing := by
  induction n generalizing d with
  | zero => rfl
  | succ n ih =>
    unfold Device.relieve
    split
    · rfl
    · split
      · rw [ih, Device.queueing_unsteer]
      · rfl

@[simp] theorem Device.queueing_separate : (d.separate c q).queueing = d.queueing := by
  have shown (rs : NMap Nat) : ({ d with buf := { d.buf with residence := rs } } : Device).queueing = d.queueing :=
    d.queueing_with_buf rfl
  unfold Device.separate
  simp only [Device.queueing_relieve]
  split
  · split
    · rw [Device.queueing_unsteer, shown]
    · exact shown _
  · split
    · split
      · exact d.queueing_with_buf rfl
      · exact shown _
    · exact shown _

/-- An entry that leaves its queue leaves the management plane and the other queues. -/
theorem Device.queueing_dequeue : (d.dequeue c q e).queueing = (d.mgmt, mapSet d.buf.queues q ((d.queue q).drop 1) []) := by
  have left (ds : NMap (List (Nat × Nat))) :
      ({ d.setQueue q ((d.queue q).drop 1) with
          buf := { (d.setQueue q ((d.queue q).drop 1)).buf with departs := ds } } : Device).queueing
        = (d.mgmt, mapSet d.buf.queues q ((d.queue q).drop 1) []) := rfl
  unfold Device.dequeue
  simp only
  split <;> simp only [Device.queueing_separate, Device.queueing_recloseQueue, Device.queueing_reclose, Device.queueing_recloseOne, left]

/-- The oldest punt leaves the punt path, and the frame that carries it is all that changes of the management plane. -/
theorem Device.queueing_releasePunt :
    (d.releasePunt c e).queueing = ((d.sendPunt e).mgmt, mapSet (d.sendPunt e).buf.queues puntPath (((d.sendPunt e).queue puntPath).drop 1) []) := by
  rw [Device.releasePunt, Device.queueing_freeEntry, Device.queueing_dequeue]

end

/-! ### Punts (R40, R418) -/

section
variable {d : Device} {c : Clk} {e : QEntry} {es : List QEntry} {port mac : Nat}

/-- The PUNT frame of an entry to the supervisor BDP.PuntTarget names, at an address (R40, Table 2.14). -/
def Device.puntFrame (d : Device) (mac : Nat) (e : QEntry) : Bytes :=
  let body := natBe 16 (puntMeta e) ++ e.packet.take 8950
  d.frame mac (d.get Obj.bdpPuntTarget 0) 0x11 d.mgmt.puntSeq 0 0 body.length body

theorem Device.sendPunt_reachable (h : d.reachable (d.get Obj.bdpPuntTarget 0) = some (port, mac)) :
    d.sendPunt e = d.setMgmt { d.mgmt with
      puntSeq := (d.mgmt.puntSeq + 1) % 65536, lastForwarded := setDel d.mgmt.lastForwarded port
      sent := d.mgmt.sent ++ [(port, d.puntFrame mac e)] } := by
  simp only [Device.sendPunt, h]
  rfl

theorem Device.releasePunt_mgmt (h : d.reachable (d.get Obj.bdpPuntTarget 0) = some (port, mac)) :
    (d.releasePunt c e).mgmt = { d.mgmt with
      puntSeq := (d.mgmt.puntSeq + 1) % 65536, lastForwarded := setDel d.mgmt.lastForwarded port
      sent := d.mgmt.sent ++ [(port, d.puntFrame mac e)] } := by
  have hq := congrArg Prod.fst (d.queueing_releasePunt c e)
  rwa [Device.sendPunt_reachable h] at hq

theorem Device.releasePunt_queue (h : d.reachable (d.get Obj.bdpPuntTarget 0) = some (port, mac)) (hq : d.queue puntPath = e :: es) :
    (d.releasePunt c e).queue puntPath = es := by
  have hb : (d.releasePunt c e).buf.queues = _ := congrArg Prod.snd (d.queueing_releasePunt c e)
  have hd : (d.sendPunt e).queue puntPath = e :: es := by rw [Device.sendPunt_reachable h]; exact hq
  rw [Device.queue, hb, hd, mapGet_mapSet_same]
  rfl

theorem Device.waitingPunt_oldest (hf : d.forwarding = true) (hq : d.queue puntPath = e :: es) : d.waitingPunt = some e := by
  simp [Device.waitingPunt, hf, hq]

theorem Device.puntPort_reachable (h : d.reachable (d.get Obj.bdpPuntTarget 0) = some (port, mac)) : d.puntPort = some port := by
  simp [Device.puntPort, h]

end

/-! ### Sending (R35) -/

section
variable {d : Device} {c : Clk} {p : Nat} {f own : Bytes} {rest rest' : List (Nat × Bytes)} {s : State}

/-- A forwarded frame leaves on a port, and the device's own after it where it was the last to wait there. -/
def Device.sendForwarded (d : Device) (p : Nat) (f : Bytes) (rest : List (Nat × Bytes)) : Device :=
  (d.setMgmt { d.mgmt with forward := rest, sent := d.mgmt.sent ++ [(p, f)], lastForwarded := setAdd d.mgmt.lastForwarded p }).sendRest p

theorem Device.sendForwarded_more (h : (rest.any fun x => x.1 == p) = true) :
    d.sendForwarded p f rest = d.setMgmt { d.mgmt with
      forward := rest, sent := d.mgmt.sent ++ [(p, f)], lastForwarded := setAdd d.mgmt.lastForwarded p } := by
  simp only [Device.sendForwarded, Device.sendRest, Device.setMgmt_mgmt, h, if_true]

theorem Device.sendForwarded_last (h : (rest.any fun x => x.1 == p) = false) :
    d.sendForwarded p f rest = d.setMgmt { d.mgmt with
      forward := rest, own := d.mgmt.own.filter fun x => x.1 != p
      sent := d.mgmt.sent ++ (p, f) :: d.mgmt.own.filter fun x => x.1 == p
      lastForwarded := setAdd d.mgmt.lastForwarded p } := by
  simp [Device.sendForwarded, Device.sendRest, h]

/-- With no frame of the device's own waiting, the forwarded frame alone leaves. -/
theorem Device.sendForwarded_alone (h : d.mgmt.own = []) :
    d.sendForwarded p f rest = d.setMgmt { d.mgmt with
      forward := rest, sent := d.mgmt.sent ++ [(p, f)], lastForwarded := setAdd d.mgmt.lastForwarded p } := by
  cases hr : rest.any fun x => x.1 == p
  · rw [Device.sendForwarded_last hr]
    simp [h]
  · exact Device.sendForwarded_more hr

theorem Device.sendWaiting_own (h : takeFirst p d.mgmt.own = some (own, rest')) :
    d.sendWaiting c p = d.setMgmt { d.mgmt with
      own := rest', sent := d.mgmt.sent ++ [(p, own)], lastForwarded := setDel d.mgmt.lastForwarded p } := by
  simp only [Device.sendWaiting, h]

theorem Device.sendWaiting_punt {e : QEntry} (hown : d.mgmt.own = []) (hw : d.waitingPunt = some e) (hp : d.puntPort = some p) :
    d.sendWaiting c p = d.releasePunt c e := by
  simp [Device.sendWaiting, hown, takeFirst, hw, hp]

theorem Device.sendWaiting_nothing (hown : d.mgmt.own = []) (h : d.waitingPunt = none ∨ d.puntPort ≠ some p) :
    d.sendWaiting c p = d := by
  cases hw : d.waitingPunt with
  | none => simp [Device.sendWaiting, hown, takeFirst, hw]
  | some e => simp [Device.sendWaiting, hown, takeFirst, hw, h.resolve_left (by simp [hw])]

theorem exec_chainForwardTransmit (hp : p < 2) (hon : s.dev.mgmtOn = true) (hf : takeFirst p s.dev.mgmt.forward = some (f, rest)) :
    exec (.chainForwardTransmit p) s
      = .next { s with dev := (if setHas s.dev.mgmt.lastForwarded p then s.dev.sendWaiting s.clk p else s.dev).sendForwarded p f rest } := by
  simp only [exec, execChainForwardTransmit, Instr.wf, hp, decide_true, onDev_true, hon, if_true, hf]
  rfl

/-! ### Links (R35, R40) -/

theorem exec_managementLinkChange_up (hp : p < 2) (hon : s.dev.mgmtOn = true) :
    exec (.managementLinkChange p true) s
      = .next { s with dev := s.dev.setMgmt { s.dev.mgmt with linkUp := setAdd s.dev.mgmt.linkUp p } } := by
  simp [exec, execManagementLinkChange, Instr.wf, hp, hon]

/-- What a link that falls does: the frames that wait for it are lost, the forwarded ones as code 5 and the NOTIFY frames as code 9. -/
def Device.linkFalls (d : Device) (p : Nat) : Device :=
  ((d.tally Obj.bdpCount (p * 16 + 5) (d.mgmt.forward.filter fun x => x.1 == p).length).tally Obj.bdpCount (p * 16 + 9)
    (d.mgmt.pushed p)).setMgmt { d.mgmt with
      linkUp := setDel d.mgmt.linkUp p
      forward := d.mgmt.forward.filter fun x => x.1 != p
      own := d.mgmt.own.filter fun x => x.1 != p }

theorem exec_managementLinkChange_down (hp : p < 2) (hon : s.dev.mgmtOn = true) :
    exec (.managementLinkChange p false) s = .next { s with dev := s.dev.linkFalls p } := by
  simp only [exec, execManagementLinkChange, Instr.wf, hp, decide_true, onDev_true, hon, if_true]
  rfl

theorem Device.get_tally_other (d : Device) (o e n o' e' : Nat) (h : chartKey o e ≠ chartKey o' e') :
    (d.tally o e n).get o' e' = d.get o' e' := d.get_set_other o e _ o' e' h

theorem Device.linkFalls_forwarded (d : Device) (p : Nat) :
    (d.linkFalls p).get Obj.bdpCount (p * 16 + 5)
      = (d.get Obj.bdpCount (p * 16 + 5) + (d.mgmt.forward.filter fun x => x.1 == p).length) % 2 ^ 64 := by
  rw [Device.linkFalls, Device.setMgmt_get, Device.get_tally_other _ _ _ _ _ _ (by unfold chartKey; omega), Device.get_tally_same]

theorem Device.linkFalls_notify (d : Device) (p : Nat) :
    (d.linkFalls p).get Obj.bdpCount (p * 16 + 9) = (d.get Obj.bdpCount (p * 16 + 9) + d.mgmt.pushed p) % 2 ^ 64 := by
  rw [Device.linkFalls, Device.setMgmt_get, Device.get_tally_same, Device.get_tally_other _ _ _ _ _ _ (by unfold chartKey; omega)]

theorem Device.linkFalls_other (d : Device) (p o e : Nat) (h5 : chartKey o e ≠ chartKey Obj.bdpCount (p * 16 + 5))
    (h9 : chartKey o e ≠ chartKey Obj.bdpCount (p * 16 + 9)) : (d.linkFalls p).get o e = d.get o e := by
  rw [Device.linkFalls, Device.setMgmt_get, Device.get_tally_other _ _ _ _ _ _ h9.symm, Device.get_tally_other _ _ _ _ _ _ h5.symm]

end
end Sys2Proof.Machine
end

section
/-! PROOFS. The chain (O7). -/

namespace Sys2Proof.Machine

section
variable {s : State} {p code : Nat} {f : Bytes} {rest : List (Nat × Bytes)}

/-- Why R34 or R37 discards a well-formed BDP frame, with the code that counts it. -/
def Device.ChainDiscards (d : Device) (p : Nat) (f : Bytes) (code : Nat) : Prop :=
  code = 3 ∧ d.onRing = true ∧ bHop f = 0
    ∨ code = 3 ∧ d.onRing = true ∧ bHop f = 1 ∧ bDir f = 1 ∧ bResponder f ≠ d.devnum
    ∨ code = 3 ∧ d.onRing = true ∧ bHop f = 1 ∧ bDir f = 0 ∧ bTarget f < 0x40 ∧ bTarget f ≠ d.devnum
    ∨ code = 3 ∧ d.onRing = false ∧ bDir f = 1
    ∨ code = 3 ∧ d.onRing = false ∧ bDir f = 0 ∧ bTarget f < 0x40 ∧ bTarget f ≠ d.devnum
    ∨ code = 8 ∧ d.onRing = true ∧ bHop f ≠ 0 ∧ bDir f = 1 ∧ bResponder f = d.devnum
    ∨ code = 11 ∧ (d.onRing = false ∨ bHop f ≠ 0) ∧ bDir f = 0 ∧ 0x40 ≤ bTarget f ∧ bTarget f ≤ 0xFE
    ∨ code = 7 ∧ (d.onRing = false ∨ bHop f ≠ 0) ∧ bDir f = 0 ∧ (bTarget f = d.devnum ∨ d.onRing = false ∧ bTarget f = 0xFF)
        ∧ d.state ≠ St.reset ∧ bOrig f < 2 ∧ bit (d.get Obj.bdpSupervisorPort (bOrig f)) p = false

theorem Device.chainFrame_discards {d : Device} (h : d.ChainDiscards p f code) : d.chainFrame p f = d.bdpTally p code := by
  rcases h with ⟨rfl, hring, hhop⟩ | ⟨rfl, hring, hhop, hdir, hr⟩ | ⟨rfl, hring, hhop, hdir, ht⟩ | ⟨rfl, hring, hdir⟩
    | ⟨rfl, hring, hdir⟩ | ⟨rfl, hring, hhop, hdir, hr⟩ | ⟨rfl, hhop, hdir, hlo, hhi⟩ | ⟨rfl, hhop, hdir, ht, hs, ho, hport⟩
  · exact Device.chainFrame_spent hring hhop
  · rw [Device.chainFrame_passing hring (by omega) (.inl ⟨hdir, hr⟩), Device.forwardFrame_spent hhop]
  · rw [Device.chainFrame_passing hring (by omega) (.inr ⟨hdir, ht⟩), Device.forwardFrame_spent hhop]
  · exact Device.chainFrame_unforwarded hring (.inl hdir)
  · exact Device.chainFrame_unforwarded hring (.inr hdir)
  · exact Device.chainFrame_back hring hhop hdir hr
  · exact Device.chainFrame_reserved hhop hdir hlo hhi
  · rw [Device.chainFrame_own hhop.symm hdir (ht.imp_right And.symm), Device.acceptFrame_barred hs ho hport]

/-- A punt goes before a forwarded frame whose turn it is not. -/
theorem exec_chainForwardTransmit_punt {e : QEntry} {es : List QEntry} {mac : Nat} (hp : p < 2) (hon : s.dev.mgmtOn = true)
    (hf : takeFirst p s.dev.mgmt.forward = some (f, rest)) (hown : s.dev.mgmt.own = []) (hfwd : s.dev.forwarding = true)
    (hq : s.dev.queue puntPath = e :: es) (hlast : setHas s.dev.mgmt.lastForwarded p = true)
    (hr : s.dev.reachable (s.dev.get Obj.bdpPuntTarget 0) = some (p, mac)) :
    ∃ t, exec (.chainForwardTransmit p) s = .next t ∧ t.dev.queue puntPath = es ∧ t.dev.mgmt.forward = rest
      ∧ t.dev.mgmt.sent = s.dev.mgmt.sent ++ [(p, s.dev.puntFrame mac e), (p, f)] := by
  have hmgmt := Device.releasePunt_mgmt (c := s.clk) (e := e) hr
  have hown' : (s.dev.releasePunt s.clk e).mgmt.own = [] := by rw [hmgmt, hown]
  refine ⟨_, exec_chainForwardTransmit hp hon hf, ?_⟩
  rw [if_pos hlast, Device.sendWaiting_punt hown (Device.waitingPunt_oldest hfwd hq) (Device.puntPort_reachable hr),
    Device.sendForwarded_alone hown', hmgmt]
  exact ⟨Device.releasePunt_queue hr hq, rfl, by simp⟩

end

/-- Settles O7: the commands of the chain do what chainFrame, sendForwarded and linkFalls say, case by case. -/
theorem chainForwarding : Obligations.ChainForwarding := by
  refine ⟨⟨?own, ?all, ?passing, ?turns, ?alone, ?up, ?down⟩, ?discards, ?barred⟩
  case own =>
    intro s p f hp hon hup hlo hhi hty ring hhop hdir ht hs hport hop
    rw [exec_bdpFrameReceive ⟨hp, hon, hup, hlo, hhi, hty⟩, Device.chainFrame_own hhop hdir ht, Device.acceptFrame_request hs hport hop]
    refine ⟨fun hf hx hroom => ?_, fun hfull => ?_⟩
    · rw [Device.enqueueRequest_room hroom hf hx]
    · rw [Device.enqueueRequest_full hfull]
      rfl
  case all =>
    intro s p f hp hon hup hlo hhi hty hhop hring hdir ht _ hs hport hop hf hx hroom hup' hfits
    rw [exec_bdpFrameReceive ⟨hp, hon, hup, hlo, hhi, hty⟩, Device.chainFrame_all hring (by omega) hdir ht,
      Device.acceptFrame_request hs hport hop, Device.enqueueRequest_room hroom hf hx]
    rw [Device.forwardFrame_room hhop (by exact hup') (by exact hfits)]
    rfl
  case passing =>
    intro s p f hp hon hup hlo hhi hty hhop hring h used
    rw [exec_bdpFrameReceive ⟨hp, hon, hup, hlo, hhi, hty⟩, Device.chainFrame_passing hring (by omega) h]
    refine ⟨fun hup' hfits => ?_, fun hup' hfull => ?_, fun hdown => ?_⟩
    · rw [Device.forwardFrame_room hhop hup' hfits]
    · rw [Device.forwardFrame_full hhop hup' hfull]
      rfl
    · rw [Device.forwardFrame_down hhop hdown]
      rfl
  case turns =>
    intro s p f own rest rest' hp hon hf hown
    rw [exec_chainForwardTransmit hp hon hf]
    refine ⟨fun hlast hmore => ?_, fun hlast hmore => ?_, fun hlast hmore => ?_⟩
    · rw [if_pos hlast, Device.sendWaiting_own hown, Device.sendForwarded_more hmore]
      simp
    · rw [if_neg (by simp [hlast]), Device.sendForwarded_more hmore]
    · rw [if_neg (by simp [hlast]), Device.sendForwarded_last hmore]
  case alone =>
    intro s p f rest hp hon hf hown
    refine ⟨fun h => ?_, fun e es mac hfwd hq hlast hr => exec_chainForwardTransmit_punt hp hon hf hown hfwd hq hlast hr⟩
    rw [exec_chainForwardTransmit hp hon hf]
    cases hlast : setHas s.dev.mgmt.lastForwarded p
    · rw [if_neg (by simp), Device.sendForwarded_alone hown]
    · rw [if_pos rfl, Device.sendWaiting_nothing hown (by simpa [hlast] using h), Device.sendForwarded_alone hown]
  case up => exact fun s p hp hon => exec_managementLinkChange_up hp hon
  case down =>
    intro s p hp hon
    exact ⟨_, exec_managementLinkChange_down hp hon, setHas_setDel_same _ _, rfl, rfl, s.dev.linkFalls_forwarded p,
      s.dev.linkFalls_notify p, fun o e h5 h9 => s.dev.linkFalls_other p o e h5 h9⟩
  case discards =>
    rintro s p f fcs code ring hp hon hup (⟨rfl, hbad⟩ | ⟨rfl, hlo, hhi, ⟨rfl, hty⟩ | ⟨hty, h⟩⟩)
    · exact exec_bdpFrameReceive_damaged hp hon hup hbad
    · exact exec_bdpFrameReceive_otherType hp hon hup hlo hhi hty
    · rw [exec_bdpFrameReceive ⟨hp, hon, hup, hlo, hhi, hty⟩, Device.chainFrame_discards h]
      rfl
  case barred =>
    intro s p f hp hon hup hlo hhi hty hring hdir ht _ hs ho hport d used
    have hall (h : bHop f ≠ 0) : exec (.bdpFrameReceive p f true) s = .next { s with dev := d.forwardFrame p f } := by
      rw [exec_bdpFrameReceive ⟨hp, hon, hup, hlo, hhi, hty⟩, Device.chainFrame_all hring h hdir ht,
        Device.acceptFrame_barred hs ho hport]
      rfl
    refine ⟨fun hspent => ?_, fun hhop hup' hfits => ?_⟩
    · rw [hall (by omega), Device.forwardFrame_spent hspent]
      rfl
    · rw [hall (by omega), Device.forwardFrame_room hhop (by exact hup') (by exact hfits)]
      rfl

end Sys2Proof.Machine
end

section
/-! PROOFS. A request at the head of the queue (R18, R27, R31): the cases of runRequest, and the commands that run it. -/

namespace Sys2Proof.Machine

/-! ### Lengths of a response's parts (R25) -/

theorem length_natBe (n v : Nat) : (natBe n v).length = n := by simp [natBe]

theorem length_itemBytes (o e n st ty : Nat) (v : Bytes) : (itemBytes o e n st ty v).length = 12 + roundUp 4 v.length := by
  have hround : v.length ≤ roundUp 4 v.length := by unfold roundUp; omega
  simp only [itemBytes, padTo, List.length_append, length_natBe, List.length_replicate]
  omega

theorem ObjItem.length_answer (it : ObjItem) (st n ty : Nat) (v : Bytes) : (it.answer st n ty v).length = 12 + roundUp 4 v.length :=
  length_itemBytes ..

theorem BulkItem.length_answer (it : BulkItem) (st : Nat) (b : Bytes) : (it.answer st b).length = 12 + b.length := by
  simp only [BulkItem.answer, List.length_append, length_natBe]

/-! ### Answers (R30, R31, R371) -/

section
variable {d : Device} {c : Clk} {p n : Nat} {f r b : Bytes} {rest : List (Nat × Bytes)}

theorem Device.responded_settled (h : d.Settled) : d.responded = d := if_neg fun ⟨hs, hr⟩ => h.elim (· hs) hr

theorem Device.answerOn_sends (hup : setHas d.mgmt.linkUp p = true) (hfwd : d.mgmt.forward = []) :
    d.answerOn p r = d.setMgmt { d.mgmt with sent := d.mgmt.sent ++ [(p, r)] } := by
  simp [Device.answerOn, hup, Device.sendOwn, hfwd, Device.setMgmt]

/-- An answer is sent, waits behind a forwarded frame, or is lost with its link (R35, log 36). -/
theorem Device.answerOn_frame : ∃ own sent, d.answerOn p r = d.setMgmt { d.mgmt with own := own, sent := sent } := by
  unfold Device.answerOn
  split
  · exact ⟨_, _, d.sendOwn_frame p r⟩
  · exact ⟨_, _, rfl⟩

theorem Device.sendError_sends (h : d.Settled) (hup : setHas d.mgmt.linkUp p = true) (hfwd : d.mgmt.forward = []) :
    d.sendError p f n = d.setMgmt { d.mgmt with
      sent := d.mgmt.sent ++ [(p, d.frame (bSource f) (bOrig f) 0x1F (bSequence f) 0 n 0 [])] } := by
  unfold Device.sendError
  rw [Device.answerOn_sends hup hfwd]
  exact Device.responded_settled h

/-- The frame of a response (R30). -/
def Device.response (d : Device) (f b : Bytes) : Bytes :=
  d.frame (bSource f) (bOrig f) (bOpcode f) (bSequence f) (bCount f) 0 b.length b

/-- A response is kept for a retry (R31), and only the management plane changes while the device waits for no image's firmware. -/
theorem Device.respond_settled (h : d.Settled) :
    ∃ own sent, d.respond p f b = d.setMgmt { d.mgmt with
      kept := mapPut d.mgmt.kept (bOrig f) (bSequence f, d.response f b), own := own, sent := sent } := by
  obtain ⟨own, sent, hans⟩ := Device.answerOn_frame (p := p) (r := d.response f b)
    (d := d.setMgmt { d.mgmt with kept := mapPut d.mgmt.kept (bOrig f) (bSequence f, d.response f b) })
  exact ⟨own, sent, (congrArg Device.responded hans).trans (Device.responded_settled h)⟩

/-! ### A request at the head of the queue (R18, R27, R31) -/

/-- A device that has taken the request at the head of its queue off it. -/
def Device.offQueue (d : Device) (rest : List (Nat × Bytes)) : Device := d.setMgmt { d.mgmt with requests := rest }

/-- A request with an opcode that some command executes stands at the head of the queue of a device whose Pilot runs. -/
structure Device.Heads (d : Device) (op p : Nat) (f : Bytes) (rest : List (Nat × Bytes)) : Prop where
  runs : d.pilotRuns = true
  head : d.mgmt.requests = (p, f) :: rest
  version : unexecutable f = 0
  opcode : bOpcode f = op

variable {op : Nat} {formed : Bytes → Bool} {run : Clk → Device → Nat → Bytes → Option (Clk × Device)}

/-- Nothing stands before the head of the queue, and a request of another opcode is left for its own command. -/
theorem Device.Heads.drained (h : d.Heads op p f rest) : d.drainErrors ((p, f) :: rest) = d := by
  simp only [Device.drainErrors, h.version, ne_eq, not_true_eq_false, if_false]
  rw [← h.head, Device.setMgmt_self]

theorem Device.runRequest_malformed (h : d.Heads op p f rest) (hbad : bOverrun f = true ∨ bCount f = 0 ∨ formed f = false) :
    d.runRequest c op formed run = (c, (d.offQueue rest).sendError p f 3) := by
  simp only [Device.runRequest, h.runs, h.head, h.drained, h.opcode, hbad, ne_eq, not_true_eq_false, Bool.not_true, Bool.false_eq_true,
    if_true, if_false]
  rfl

theorem Device.runRequest_observer (h : d.Heads op p f rest) (hgood : ¬(bOverrun f = true ∨ bCount f = 0 ∨ formed f = false))
    (ho : 2 ≤ bOrig f) (hop : op ≠ opRead) : d.runRequest c op formed run = (c, (d.offQueue rest).sendError p f 4) := by
  simp only [Device.runRequest, h.runs, h.head, h.drained, h.opcode, hgood, ho, hop, ne_eq, not_true_eq_false, not_false_eq_true,
    Bool.not_true, Bool.false_eq_true, and_self, if_true, if_false]
  rfl

theorem Device.runRequest_repeated (h : d.Heads op p f rest) (hgood : ¬(bOverrun f = true ∨ bCount f = 0 ∨ formed f = false))
    (hrole : bOrig f < 2 ∨ op = opRead) (hkept : mapGet? d.mgmt.kept (bOrig f) = some (bSequence f, r)) :
    d.runRequest c op formed run = (c, ((d.offQueue rest).answerOn p (overwrite r 0 (natBe 6 (bSource f)))).responded) := by
  have hrole' : ¬(2 ≤ bOrig f ∧ op ≠ opRead) := by omega
  simp only [Device.runRequest, h.runs, h.head, h.drained, h.opcode, hgood, hrole', ne_eq, not_true_eq_false, Bool.not_true,
    Bool.false_eq_true, if_false, Device.setMgmt_mgmt, hkept, if_true]
  rfl

theorem Device.Ready.heads (h : d.Ready op formed p f rest) : d.Heads op p f rest := ⟨h.runs, h.head, h.version, h.opcode⟩

theorem Device.Ready.sound (h : d.Ready op formed p f rest) : ¬(bOverrun f = true ∨ bCount f = 0 ∨ formed f = false) := by
  simp [h.whole, h.items, h.wellFormed]

/-- A request that is ready runs; where its response would be too long it is answered with ERROR instead. -/
theorem Device.runRequest_ready (h : d.Ready op formed p f rest) :
    d.runRequest c op formed run = (run c (d.offQueue rest) p f).getD (c, (d.offQueue rest).sendError p f 3) := by
  have hrole : ¬(2 ≤ bOrig f ∧ op ≠ opRead) := by have := h.role; omega
  have hfresh (seq : Nat) (r : Bytes) (hk : mapGet? d.mgmt.kept (bOrig f) = some (seq, r)) : seq ≠ bSequence f :=
    fun hseq => h.fresh r (hseq ▸ hk)
  have hrun : ∀ d1 : Device, (match run c d1 p f with | some r => r | none => (c, d1.sendError p f 3))
      = (run c d1 p f).getD (c, d1.sendError p f 3) := fun d1 => by cases run c d1 p f <;> rfl
  simp only [Device.runRequest, h.runs, h.head, h.heads.drained, h.opcode, h.sound, hrole, ne_eq, not_true_eq_false, Bool.not_true,
    Bool.false_eq_true, if_false, Device.setMgmt_mgmt]
  cases hk : mapGet? d.mgmt.kept (bOrig f) with
  | none => exact hrun _
  | some x =>
    simp only [if_neg (hfresh x.1 x.2 hk)]
    exact hrun _

end

/-! ### The commands that execute requests -/

section
variable {s : State} {c : Clk} {d : Device} {p op : Nat} {f : Bytes} {rest : List (Nat × Bytes)}
  {formed : Bytes → Bool} {run : Clk → Device → Nat → Bytes → Option (Clk × Device)}

/-- The state after the request of an opcode at the head of the queue has run. -/
def State.request (s : State) (op : Nat) (formed : Bytes → Bool) (run : Clk → Device → Nat → Bytes → Option (Clk × Device)) : State :=
  { s with clk := (s.dev.runRequest s.clk op formed run).1, dev := (s.dev.runRequest s.clk op formed run).2 }

theorem exec_bdpRead {bad : List Nat} (h : ∀ e ∈ bad, e < 512) :
    exec (.bdpRead bad) s = .next (s.request opRead itemsFormed (runRead bad)) := by
  have hwf : (Instr.bdpRead bad).wf = true := by simpa [Instr.wf] using h
  simp only [exec, execBdpRead, hwf, onClk_true]
  rfl

theorem exec_bdpWrite : exec .bdpWrite s = .next (s.request opWrite itemsFormed runWrite) := rfl

theorem exec_readBulk {found : List BlockFound} (h : ∀ b ∈ found, b.wf = true) :
    exec (.readBulk found) s = .next (s.request opReadBulk (bulkFormed false) (runBulk false found)) := by
  have hwf : (Instr.readBulk found).wf = true := by simpa [Instr.wf] using h
  simp only [exec, execReadBulk, hwf, onClk_true]
  rfl

theorem exec_writeBulk : exec .writeBulk s = .next (s.request opWriteBulk (bulkFormed true) (runBulk true [])) := rfl
theorem exec_helmTake : exec .helmTake s = .next (s.request opHelmTake itemsFormed (runHelm true)) := rfl
theorem exec_helmGive : exec .helmGive s = .next (s.request opHelmGive itemsFormed (runHelm false)) := rfl

theorem State.request_ready (h : s.dev.Ready op formed p f rest) (hrun : run s.clk (s.dev.offQueue rest) p f = some (c, d)) :
    s.request op formed run = { s with clk := c, dev := d } := by
  simp only [State.request, Device.runRequest_ready h, hrun, Option.getD_some]

end
end Sys2Proof.Machine
end

section
/-! PROOFS. What Chart accesses leave alone, and the cases of a READ item (R28). -/

namespace Sys2Proof.Machine

/-! ### What accesses and reads leave alone -/

section
variable {d d' : Device} {c : Clk} {o e v : Nat}

/-- The queue store, the management plane and the HBM queue region, and the Chart elements by which a response moves DEV.State (R371). -/
def Device.resting (d : Device) : Mem × Mgmt × Mem × Nat × Nat :=
  (d.queueStore, d.mgmt, d.hbm.queueRegion, d.get Obj.devState 0, d.get Obj.pilotStatus 0)

theorem Device.resting_iff : d'.resting = d.resting ↔ d'.queueStore = d.queueStore ∧ d'.mgmt = d.mgmt
    ∧ d'.hbm.queueRegion = d.hbm.queueRegion ∧ d'.get Obj.devState 0 = d.get Obj.devState 0
    ∧ d'.get Obj.pilotStatus 0 = d.get Obj.pilotStatus 0 := by
  simp only [Device.resting, Prod.mk.injEq]

theorem Device.Settled.of_status (h : d.Settled) (hs : d'.get Obj.devState 0 = d.get Obj.devState 0)
    (hp : d'.get Obj.pilotStatus 0 = d.get Obj.pilotStatus 0) : d'.Settled := by
  unfold Device.Settled Device.state Device.running Device.rd at *
  rwa [hs, hp]

theorem Device.Settled.of_resting (h : d.Settled) (hd : d'.resting = d.resting) : d'.Settled := by
  obtain ⟨-, -, -, hs, hp⟩ := Device.resting_iff.mp hd
  exact h.of_status hs hp

/-- DEV.State and PILOT.Status lie below the objects of areas 2 and above. -/
theorem Device.resting_set (d : Device) (ho : 0x2000 ≤ o) : (d.set o e v).resting = d.resting := by
  refine Device.resting_iff.mpr ⟨rfl, rfl, rfl, Device.get_set_other _ _ _ _ _ _ ?_, Device.get_set_other _ _ _ _ _ _ ?_⟩
  · unfold chartKey Obj.devState
    omega
  · unfold chartKey Obj.pilotStatus
    omega

theorem Device.resting_setFld (d : Device) (m l : Nat) (ho : 0x2000 ≤ o) : (d.setFld o e m l v).resting = d.resting := d.resting_set ho

theorem Device.resting_count (d : Device) (m l : Nat) (ho : 0x2000 ≤ o) : (d.count o e m l v).resting = d.resting := d.resting_set ho

theorem Device.resting_bump (d : Device) (n k : Nat) (ho : 0x2000 ≤ o) : (d.bump o e n k v).resting = d.resting := d.resting_set ho

theorem Device.resting_accessDone (d : Device) (x : Nat) : (d.accessDone x).resting = d.resting := d.resting_bump 6 0 (by decide)

theorem Device.resting_accessesDone (d : Device) (xs : List Nat) : (d.accessesDone xs).resting = d.resting :=
  foldl_keeps _ _ Device.resting_accessDone _ _

theorem Device.resting_accessed (d : Device) (o e : Nat) : (d.accessed o e).resting = d.resting := by
  unfold Device.accessed
  split
  · exact d.resting_accessDone _
  · rfl

theorem Device.resting_raise (d : Device) (src tgt code : Nat) : (d.raise src tgt code).resting = d.resting :=
  Device.resting_iff.mpr ⟨d.raise_queueStore .., d.raise_mgmt .., by rw [Device.raise_hbm], d.raise_get .., d.raise_get ..⟩

theorem Device.resting_readTsqPop (d : Device) (e : Nat) : (d.readTsqPop e).2.resting = d.resting := by
  unfold Device.readTsqPop
  split
  · rfl
  · rw [Device.resting_setFld _ _ _ (by decide)]
    rfl

/-- A read that answers a value changes the device where it pops a timestamp or draws free values, and nowhere else. -/
theorem Device.readElement_device {d1 : Device} (h : d.readElement c o e = .ok (v, d1)) :
    d1 = d ∨ d1 = (d.readTsqPop e).2 ∨ d1 = (d.readLaser e).2 := by
  unfold Device.readElement at h
  split at h
  · exact .inl (congrArg Prod.snd (Except.ok.inj h)).symm
  split at h
  · split at h <;> cases h
    exact .inl rfl
  split at h
  · split at h <;> cases h
    exact .inl rfl
  split at h
  · exact .inr (.inl (congrArg Prod.snd (Except.ok.inj h)).symm)
  split at h
  · exact .inr (.inr (congrArg Prod.snd (Except.ok.inj h)).symm)
  split at h
  · exact .inl (congrArg Prod.snd (Except.ok.inj h)).symm
  split at h
  · exact .inl (congrArg Prod.snd (Except.ok.inj h)).symm
  split at h <;> exact .inl (congrArg Prod.snd (Except.ok.inj h)).symm

theorem Device.resting_readElement {d1 : Device} (h : d.readElement c o e = .ok (v, d1)) : d1.resting = d.resting := by
  rcases Device.readElement_device h with rfl | rfl | rfl
  · rfl
  · exact d.resting_readTsqPop e
  · rfl

/-- BDP.Count and PILOT.Status hold 0 until they are written, so two keys of theirs that are one read the same. -/
theorem Device.get_pilotStatus_of_key (d : Device) (h : chartKey Obj.bdpCount e = chartKey Obj.pilotStatus 0) :
    d.get Obj.pilotStatus 0 = d.get Obj.bdpCount e := by
  have hdflt : chartDefault Obj.pilotStatus 0 = chartDefault Obj.bdpCount e := rfl
  rw [Device.get, Device.get, h, hdflt]

/-- A request that starts to execute does not change whether a response moves DEV.State: the count that it takes lies beside DEV.State, and
one that fell on PILOT.Status would leave Running 0. -/
theorem Device.Settled.begun (h : d.Settled) (c : Clk) (p : Nat) (f : Bytes) (rest : List (Nat × Bytes)) : (d.begun c p f rest).Settled := by
  refine h.imp (fun hs => ?_) fun hr => ?_
  · have hkey : chartKey Obj.bdpCount (p * 16 + 0) ≠ chartKey Obj.devState 0 := by
      unfold chartKey Obj.bdpCount Obj.devState
      omega
    rwa [Device.state, Device.begun, Device.executing, Device.bdpTally, Device.get_tally_other _ _ _ _ _ _ hkey]
  · rw [Device.running, Device.rd, Device.begun, Device.executing, Device.bdpTally]
    by_cases hkey : chartKey Obj.bdpCount (p * 16 + 0) = chartKey Obj.pilotStatus 0
    · rw [Device.get_pilotStatus_of_key _ hkey, Device.get_tally_same, fld, Nat.div_eq_of_lt (by omega), Nat.zero_mod]
    · rwa [Device.get_tally_other _ _ _ _ _ _ hkey]

/-! ### READ items (R28) -/

/-- Every element of the Chart takes at least a byte (Table 2.1). -/
theorem objInfo?_size_pos {n : Nat} {r : ObjInfo} (h : objInfo? n = some r) : 0 < r.size := by
  have hall : ∀ r ∈ objRows, 0 < r.size := by decide +kernel
  exact hall r (List.mem_of_find?_eq_some h)

variable {orig : Nat} {bad : List Nat} {it : ObjItem} {r : ObjInfo}

theorem Device.readItem_refused {st : Nat} (h : d.readCheck c orig it = st) (hst : st ≠ 0) :
    d.readItem c orig bad it = (it.answer st 0 it.ty [], d) := by
  unfold Device.readItem
  rw [h]
  split
  · contradiction
  · rfl

theorem Device.readElements_one {d1 : Device} {size : Nat} (hs : d.stalled o e = none) (hr : d.readElement c o e = .ok (v, d1)) :
    d.readElements c o size e 1 = (0, natBe size v, d1.accessed o e) := by
  simp only [Device.readElements, hs, hr, List.append_nil]

theorem Device.readItem_value {d1 : Device} (hc : d.readCheck c orig it = 0) (hr : objInfo? it.object = some r) (hn : it.count = 1)
    (hs : d.stalled it.object it.element = none) (hv : d.readElement c it.object it.element = .ok (v, d1))
    (hw : it.object ≠ Obj.memData ∨ it.element ∉ bad) :
    d.readItem c orig bad it = (it.answer 0 1 r.ty (natBe r.size v), d1.accessed it.object it.element) := by
  have hworn : d.wornWord bad it = none := by
    unfold Device.wornWord
    rw [hn]
    rcases hw with h | h <;> simp [h]
  simp only [Device.readItem, hc, hr, hworn, hn, Device.readElements_one hs hv, length_natBe, Nat.div_self (objInfo?_size_pos hr)]

theorem Device.readItem_worn (hc : d.readCheck c orig it = 0) (hr : objInfo? it.object = some r) (hn : it.count = 1)
    (hs : d.stalled it.object it.element = none) (ho : it.object = Obj.memData) (hb : it.element ∈ bad) :
    d.readItem c orig bad it = (it.answer stBusy 0 it.ty [], d.memDataBad it.element) := by
  have hworn : d.wornWord bad it = some it.element := by
    unfold Device.wornWord
    rw [if_pos ⟨ho, hs⟩, hn]
    simp [hb]
  simp only [Device.readItem, hc, hr, hworn]

end
end Sys2Proof.Machine
end

section
/-! PROOFS. READ requests (O8): what a response leaves, what a report adds, and the checks of a READ item in their order. -/

namespace Sys2Proof.Machine

section
variable {s : State} {d : Device} {c : Clk} {p orig : Nat} {f b : Bytes} {rest : List (Nat × Bytes)} {bad : List Nat} {it : ObjItem}
  {r : ObjInfo}

/-- A READ request of one item whose response is not too long executes. -/
theorem exec_bdpRead_one {d2 : Device} (hbad : ∀ e ∈ bad, e < 512) (h : s.dev.Ready opRead itemsFormed p f rest)
    (hit : parseItems (bCount f) (bPayload f) = some [it])
    (hrun : (s.dev.begun s.clk p f rest).readItem s.clk (bOrig f) bad it = (b, d2)) (hlen : responseBytes b.length ≤ 9000) :
    exec (.bdpRead bad) s = .next { s with dev := d2.respond p f b } := by
  have hread : runRead bad s.clk (s.dev.offQueue rest) p f = some (s.clk, d2.respond p f b) := by
    have hitems : ((s.dev.offQueue rest).executing s.clk p f).readItems s.clk (bOrig f) bad [it] = (b, d2) := by
      have := hrun
      unfold Device.begun at this
      simp only [Device.readItems, Device.offQueue, this, List.append_nil]
    simp only [runRead, hit, hitems, Nat.not_lt.mpr hlen, if_false]
  rw [exec_bdpRead hbad, State.request_ready h hread]

/-- An item that is refused has a short response. -/
theorem exec_bdpRead_refused {st : Nat} (hbad : ∀ e ∈ bad, e < 512) (h : s.dev.Ready opRead itemsFormed p f rest)
    (hit : parseItems (bCount f) (bPayload f) = some [it])
    (hc : (s.dev.begun s.clk p f rest).readCheck s.clk (bOrig f) it = st) (hst : st ≠ 0) :
    exec (.bdpRead bad) s = .next { s with dev := (s.dev.begun s.clk p f rest).respond p f (it.answer st 0 it.ty []) } := by
  refine exec_bdpRead_one hbad h hit (Device.readItem_refused hc hst) ?_
  rw [ObjItem.length_answer]
  decide

/-- What respond leaves of a device that waits for no image's firmware: all but the management plane, of which the response is kept. -/
theorem Device.respond_facts (h : d.Settled) :
    (d.respond p f b).chart = d.chart ∧ (d.respond p f b).queueStore = d.queueStore ∧ (d.respond p f b).hbm = d.hbm
      ∧ (d.respond p f b).look = d.look ∧ (d.respond p f b).mgmt.requests = d.mgmt.requests
      ∧ mapGet? (d.respond p f b).mgmt.kept (bOrig f) = some (bSequence f, d.response f b) := by
  obtain ⟨own, sent, hresp⟩ := Device.respond_settled (p := p) (f := f) (b := b) h
  rw [hresp]
  exact ⟨rfl, rfl, rfl, rfl, rfl, mapGet?_mapPut_same _ _ _⟩

/-! ### Reports (R313) -/

/-- An event of a report's source and target waits once it is reported, in a new event or in the one it merges into. -/
theorem reportInto_waits (older : Nat) (ws : List Report) (r : Report) :
    ∃ w ∈ reportInto older ws r, w.source = r.source ∧ w.target = r.target := by
  cases h : ws.any r.same
  · rw [reportInto_fresh older ws r h]
    exact ⟨r, by simp [reportAmong], rfl, rfl⟩
  · obtain ⟨w, hw, hsame⟩ := List.any_eq_true.mp h
    have hst : r.source = w.source ∧ r.target = w.target := by
      simp only [Report.same, Bool.and_eq_true, beq_iff_eq] at hsame
      exact hsame.1
    refine ⟨{ w with count := min 65536 (w.count + r.count) }, ?_, hst.1.symm, hst.2.symm⟩
    rw [reportInto, if_pos h]
    exact List.mem_map.mpr ⟨w, hw, if_pos hsame⟩

theorem Device.reported_raise (d : Device) (src tgt code : Nat) (h : d.state ≠ St.reset) : (d.raise src tgt code).Reported src tgt := by
  unfold Device.raise Device.raiseBy
  rw [if_neg h]
  exact reportInto_waits _ _ _

theorem Device.raise_chart (d : Device) (src tgt code : Nat) : (d.raise src tgt code).chart = d.chart := by
  rw [Device.raise, Device.raiseBy_frame]

theorem Device.state_begun (d : Device) (c : Clk) (p : Nat) (f : Bytes) (rest : List (Nat × Bytes)) :
    (d.begun c p f rest).state = d.state := by
  rw [Device.state, Device.begun, Device.executing, Device.bdpTally, Device.get_tally_other _ _ _ _ _ _ (by
    unfold chartKey Obj.bdpCount Obj.devState
    omega)]
  rfl

/-- A frame is made of what the Chart says alone. -/
theorem Device.response_of_chart {d' : Device} (h : d'.chart = d.chart) : d'.response f b = d.response f b := by
  simp only [Device.response, Device.frame, Device.devnum, Device.rd, Device.get, h]

/-- The first check of R28 that a READ item fails gives its status. -/
theorem Device.readCheck_unknown (h : objInfo? it.object = none) : d.readCheck c orig it = 1 := by
  rw [Device.readCheck, h]

theorem Device.readCheck_range (h : objInfo? it.object = some r) (hr : r.count < it.element + max it.count 1) :
    d.readCheck c orig it = 1 := by
  simp only [Device.readCheck, h, hr, if_true]

theorem Device.readCheck_access (h : objInfo? it.object = some r) (hr : it.element + max it.count 1 ≤ r.count)
    (ha : 2 ≤ orig ∧ r.obs = false ∨ r.access = .wo) : d.readCheck c orig it = stAccess := by
  simp only [Device.readCheck, h, Nat.not_lt.mpr hr, ha, if_true, if_false]

theorem Device.readCheck_type (h : objInfo? it.object = some r) (hr : it.element + max it.count 1 ≤ r.count)
    (ha : ¬(2 ≤ orig ∧ r.obs = false ∨ r.access = .wo)) (ht : it.count = 0 ∨ it.ty ≠ 0 ∨ it.length ≠ 0) :
    d.readCheck c orig it = stType := by
  simp only [Device.readCheck, h, Nat.not_lt.mpr hr, ha, ht, if_true, if_false]

/-- An element is unavailable where its area is not served, and where the read of an element is refused as things stand. -/
theorem Device.readCheck_busy (h : objInfo? it.object = some r) (hr : it.element + max it.count 1 ≤ r.count)
    (ha : ¬(2 ≤ orig ∧ r.obs = false ∨ r.access = .wo)) (ht : ¬(it.count = 0 ∨ it.ty ≠ 0 ∨ it.length ≠ 0))
    (hb : d.served (it.object / 4096) false = false ∨ ∃ i < it.count, ∃ st, d.readElement c it.object (it.element + i) = .error st) :
    d.readCheck c orig it = stBusy := by
  simp only [Device.readCheck, h, Nat.not_lt.mpr hr, ha, ht, if_false]
  rcases hb with hb | ⟨i, hi, st, hb⟩
  · simp [hb]
  · split
    · rfl
    · refine if_pos (List.any_eq_true.mpr ⟨i, List.mem_range.mpr hi, ?_⟩)
      rw [hb]

end

/-- Settles O8: the one item is read, or the first of its checks that fails answers for it. -/
theorem readRequest : Obligations.ReadRequest := by
  refine ⟨?executed, ?refused⟩
  case executed =>
    intro s p f rest bad it r v d1 d0 d2 hbad hready hset hit hn hr hlen hc hs hv
    have hset0 : d0.Settled := hset.begun s.clk p f rest
    refine ⟨fun hw => ?_, fun ho he hstate => ?_⟩
    · have hrest : d2.resting = d0.resting := (d1.resting_accessed it.object it.element).trans (Device.resting_readElement hv)
      obtain ⟨hqs, hmgmt, -, -, -⟩ := Device.resting_iff.mp hrest
      obtain ⟨hchart, hstore, -, -, hreq, hkept⟩ :=
        Device.respond_facts (p := p) (f := f) (b := it.answer 0 1 r.ty (natBe r.size v)) (hset0.of_resting hrest)
      refine ⟨_, exec_bdpRead_one hbad hready hit (Device.readItem_value hc hr hn hs hv hw) ?_, rfl, ?_, ?_, hchart, hstore.trans hqs⟩
      · rwa [ObjItem.length_answer, length_natBe]
      · rw [hreq, hmgmt]
        rfl
      · rw [hkept, Device.response, hready.opcode]
    · have hrest : (d0.memDataBad it.element).resting = d0.resting := d0.resting_raise ..
      obtain ⟨-, hmgmt, -, -, -⟩ := Device.resting_iff.mp hrest
      have hraise : (d0.memDataBad it.element).chart = d0.chart := d0.raise_chart ..
      obtain ⟨hchart, -, -, hlook, hreq, hkept⟩ :=
        Device.respond_facts (p := p) (f := f) (b := it.answer stBusy 0 it.ty []) (hset0.of_resting hrest)
      refine ⟨_, exec_bdpRead_one hbad hready hit (Device.readItem_worn hc hr hn hs ho he) ?_, rfl, ?_, hchart.trans hraise, ?_, ?_⟩
      · rw [ObjItem.length_answer]
        decide
      · rw [hreq, hmgmt]
        rfl
      · rw [Device.Reported, hlook]
        exact d0.reported_raise _ _ _ (by rwa [Device.state_begun])
      · rw [hkept, Device.response_of_chart hraise, Device.response, hready.opcode]
  case refused =>
    intro s p f rest bad it d0 answers hbad hready hit
    have refused {st : Nat} (hc : d0.readCheck s.clk (bOrig f) it = st) (hst : st ≠ 0) : answers st :=
      exec_bdpRead_refused hbad hready hit hc hst
    refine ⟨fun h => refused (Device.readCheck_unknown h) (by decide), fun r h => ⟨fun hr => refused (Device.readCheck_range h hr) (by decide),
      fun hr => ⟨fun ha => refused (Device.readCheck_access h hr ha) (by decide), fun hrole hacc => ?_⟩⟩⟩
    have ha : ¬(2 ≤ bOrig f ∧ r.obs = false ∨ r.access = .wo) := by
      rintro (⟨ho, hobs⟩ | hwo)
      · exact hrole.elim (by omega) (by simp [hobs])
      · exact hacc hwo
    refine ⟨fun ht => refused (Device.readCheck_type h hr ha ht) (by decide), fun hn hty hl => ?_⟩
    have ht : ¬(it.count = 0 ∨ it.ty ≠ 0 ∨ it.length ≠ 0) := by simp [hn, hty, hl]
    exact ⟨fun hb => refused (Device.readCheck_busy h hr ha ht (.inl hb)) (by decide),
      fun i st hi hb => refused (Device.readCheck_busy h hr ha ht (.inr ⟨i, hi, st, hb⟩)) (by decide)⟩

end Sys2Proof.Machine
end

section
/-! PROOFS. WRITE requests (O9) and the Helm (O10): the checks of a WRITE item in their order, and the cases of a take and a give. -/

namespace Sys2Proof.Machine

/-! ### WRITE items (R28, R29) -/

section
variable {s : State} {d : Device} {c : Clk} {p orig st : Nat} {f b : Bytes} {rest : List (Nat × Bytes)} {it : ObjItem} {r : ObjInfo}

/-- A WRITE request of one item executes. -/
theorem exec_bdpWrite_one {c' : Clk} {d2 : Device} (h : s.dev.Ready opWrite itemsFormed p f rest)
    (hit : parseItems (bCount f) (bPayload f) = some [it])
    (hrun : writeItem s.clk (s.dev.begun s.clk p f rest) (bOrig f) it = (b, c', d2)) :
    exec .bdpWrite s = .next { s with clk := c', dev := d2.respond p f b } := by
  have hwrite : runWrite s.clk (s.dev.offQueue rest) p f = some (c', d2.respond p f b) := by
    have hitems : writeItems s.clk ((s.dev.offQueue rest).executing s.clk p f) (bOrig f) false [it] = (b, c', d2) := by
      have := hrun
      unfold Device.begun at this
      simp only [writeItems, timeApart, Bool.false_and, Bool.false_eq_true, if_false, Device.offQueue, this, List.append_nil]
    have hlen : ¬9000 < responseBytes (12 * [it].length) := by simp [responseBytes]
    simp only [runWrite, hit, hlen, hitems, if_false]
  rw [exec_bdpWrite, State.request_ready h hwrite]

theorem writeItem_refused (h : d.writeCheck c orig it = st) (hst : st ≠ 0) :
    writeItem c d orig it = (it.answer st 0 it.ty [], c, writeRefused c d orig it st) := by
  unfold writeItem
  rw [h]
  split
  · contradiction
  · rfl

/-- Only a set or a step of device time that is refused with TYPE is counted (R299). -/
theorem writeRefused_uncounted (h : st ≠ stType) : writeRefused c d orig it st = d := by
  unfold writeRefused
  split
  · exact if_neg fun ⟨hst, _⟩ => h hst
  · rfl

theorem writeElements_one {e v : Nat} {w : Nat × Clk × Device} (hs : d.stalled r.number e = none) (hw : writeElement c d orig r e v = w) :
    writeElements c d orig r e [v] = (w.1, if w.1 = 0 then 1 else 0, w.2.1, w.2.2.accessed r.number e) := by
  by_cases hok : w.1 = 0 <;> simp [writeElements, hs, hw, hok]

theorem writeItem_one (hc : d.writeCheck c orig it = 0) (hr : objInfo? it.object = some r) (hn : it.count = 1)
    (hs : d.stalled it.object it.element = none) (hnum : r.number = it.object) :
    let w := writeElement c d orig r it.element (beAt it.value 0 r.size)
    writeItem c d orig it = (it.answer w.1 (if w.1 = 0 then 1 else 0) it.ty [], w.2.1, w.2.2.accessed it.object it.element) := by
  intro w
  have hvalues : it.values r.size = [beAt it.value 0 r.size] := by simp [ObjItem.values, hn]
  have hone := writeElements_one (w := w) (hnum ▸ hs) rfl
  simp only [writeItem, hc, hr, hvalues, hone, hnum]

/-- What refuses a WRITE item with ACCESS (R28 step 2). -/
def Device.WriteBarred (d : Device) (orig : Nat) (r : ObjInfo) (it : ObjItem) : Prop :=
  foreign orig it.object it.element (max it.count 1) = true
    ∨ ∃ i < max it.count 1, d.writeBarred it.object (it.element + i) (beAt it.value (r.size * i) r.size) = true

theorem Device.writeBarred_iff :
    (r.access = .ro ∨ foreign orig it.object it.element (max it.count 1) = true
      ∨ ((List.range (max it.count 1)).any fun i =>
          d.writeBarred it.object (it.element + i) (beAt it.value (r.size * i) r.size)) = true)
      ↔ r.access = .ro ∨ d.WriteBarred orig r it := by
  simp only [Device.WriteBarred, List.any_eq_true, List.mem_range]

/-- A WRITE item stays within its object, and its originator may write there: the checks of R28 before the type. -/
structure Device.MayWrite (d : Device) (orig : Nat) (r : ObjInfo) (it : ObjItem) : Prop where
  known : objInfo? it.object = some r
  inRange : it.element + max it.count 1 ≤ r.count
  allowed : ¬(r.access = .ro ∨ d.WriteBarred orig r it)
  unlocked : d.locked it.object = false
  held : d.unheld orig r = false

theorem Device.writeCheck_unknown (h : objInfo? it.object = none) : d.writeCheck c orig it = 1 := by
  rw [Device.writeCheck, h]

theorem Device.writeCheck_range (h : objInfo? it.object = some r) (hr : r.count < it.element + max it.count 1) :
    d.writeCheck c orig it = 1 := by
  simp only [Device.writeCheck, h, hr, if_true]

theorem Device.writeCheck_access (h : objInfo? it.object = some r) (hr : it.element + max it.count 1 ≤ r.count)
    (ha : r.access = .ro ∨ d.WriteBarred orig r it) : d.writeCheck c orig it = stAccess := by
  simp only [Device.writeCheck, h, Nat.not_lt.mpr hr, Device.writeBarred_iff, ha, if_true, if_false]

theorem Device.writeCheck_locked (h : objInfo? it.object = some r) (hr : it.element + max it.count 1 ≤ r.count)
    (ha : ¬(r.access = .ro ∨ d.WriteBarred orig r it)) (hl : d.locked it.object = true) : d.writeCheck c orig it = 4 := by
  simp only [Device.writeCheck, h, Nat.not_lt.mpr hr, Device.writeBarred_iff, ha, hl, if_true, if_false]

theorem Device.writeCheck_unheld (h : objInfo? it.object = some r) (hr : it.element + max it.count 1 ≤ r.count)
    (ha : ¬(r.access = .ro ∨ d.WriteBarred orig r it)) (hl : d.locked it.object = false) (hu : d.unheld orig r = true) :
    d.writeCheck c orig it = stHelm := by
  simp only [Device.writeCheck, h, Nat.not_lt.mpr hr, Device.writeBarred_iff, ha, hl, hu, Bool.false_eq_true, if_true, if_false]

theorem Device.MayWrite.check (h : d.MayWrite orig r it) (ht : it.count = 0 ∨ it.sized r = false) :
    d.writeCheck c orig it = stType := by
  simp only [Device.writeCheck, h.known, Nat.not_lt.mpr h.inRange, Device.writeBarred_iff, h.allowed, h.unlocked, h.held, ht, Bool.false_eq_true,
    if_true, if_false]

theorem ObjItem.sized_false : it.sized r = false ↔ it.ty ≠ r.ty ∨ it.length ≠ it.count * r.size := by
  rw [ObjItem.sized, Bool.and_eq_false_iff, beq_eq_false_iff_ne, beq_eq_false_iff_ne]

/-- An item that is unavailable is refused with TYPE where one of its elements is (R28). -/
theorem Device.MayWrite.check_busy (h : d.MayWrite orig r it) (hn : it.count ≠ 0) (hsz : it.sized r = true)
    (hb : d.served (it.object / 4096) true = false ∨ stBusy ∈ d.rehearse c orig r it) :
    d.writeCheck c orig it = if stType ∈ d.rehearse c orig r it then stType else stBusy := by
  have ht : ¬(it.count = 0 ∨ true = false) := by simp [hn]
  have hbusy : (!d.served (it.object / 4096) true || (d.rehearse c orig r it).contains stBusy) = true := by
    simpa only [Bool.or_eq_true, Bool.not_eq_true', List.contains_iff_mem] using hb
  simp only [Device.writeCheck, h.known, Nat.not_lt.mpr h.inRange, Device.writeBarred_iff, h.allowed, h.unlocked, h.held, hsz, ht, hbusy,
    Bool.false_eq_true, if_true, if_false, List.contains_iff_mem]

end

/-- Settles O9: the one item is written, or the first of its checks that fails answers for it. -/
theorem writeRequest : Obligations.WriteRequest := by
  refine ⟨?executed, ?refused⟩
  case executed =>
    intro s p f rest it r d0 w hready hit hn hr hc hs hnum item
    exact exec_bdpWrite_one hready hit (writeItem_one hc hr hn hs hnum)
  case refused =>
    intro s p f rest it d0 answers typed hready hit
    have asType (hc : d0.writeCheck s.clk (bOrig f) it = stType) : answers typed stType :=
      exec_bdpWrite_one hready hit (writeItem_refused hc (by decide))
    have refused {st : Nat} (hc : d0.writeCheck s.clk (bOrig f) it = st) (hst : st ≠ 0) (hty : st ≠ stType) : answers d0 st := by
      refine exec_bdpWrite_one hready hit ?_
      rw [writeItem_refused hc hst, writeRefused_uncounted hty]
    refine ⟨fun h => refused (Device.writeCheck_unknown h) (by decide) (by decide), fun r h => ?_⟩
    intro barred found
    refine ⟨fun hr => refused (Device.writeCheck_range h hr) (by decide) (by decide), fun hr =>
      ⟨fun ha => refused (Device.writeCheck_access h hr ha) (by decide) (by decide), fun hro hbarred => ?_⟩⟩
    have ha : ¬(r.access = .ro ∨ d0.WriteBarred (bOrig f) r it) := not_or.mpr ⟨hro, hbarred⟩
    refine ⟨fun hl => refused (Device.writeCheck_locked h hr ha hl) (by decide) (by decide), fun hl =>
      ⟨fun hu => refused (Device.writeCheck_unheld h hr ha hl hu) (by decide) (by decide), fun hu => ?_⟩⟩
    have hmay : d0.MayWrite (bOrig f) r it := ⟨h, hr, ha, hl, hu⟩
    refine ⟨fun ht => asType (hmay.check (ht.imp_right ObjItem.sized_false.mpr)), fun hn hty hlen hb => ?_⟩
    have hcheck := hmay.check_busy hn (by simp [ObjItem.sized, hty, hlen]) hb
    exact ⟨fun hin => asType (hcheck.trans (if_pos hin)), fun hout => refused (hcheck.trans (if_neg hout)) (by decide) (by decide)⟩

/-! ### The Helm (R38) -/

section
variable {d : Device} {c : Clk} {orig tok p : Nat} {f : Bytes} {rest : List (Nat × Bytes)} {it : ObjItem}

/-- A token whose holder is set reads that holder, and nothing else of the Chart changes. -/
theorem Device.setHolder_holder (d : Device) (tok h : Nat) :
    (d.setHolder tok h).holder tok = h ∧ ElementSame Obj.helmToken tok d (d.setHolder tok h) :=
  ⟨d.get_set_same .., fun o e hne => d.get_set_other _ _ _ o e hne⟩

theorem Device.helmTake_granted (h : d.holder tok = 0xFF ∨ d.holder tok = orig ∨ d.get Obj.helmTimeout 0 ≤ d.lastHeard c (d.holder tok)) :
    d.helmTake c orig tok = (0, d.setHolder tok orig) := by
  unfold Device.helmTake
  by_cases hfree : d.holder tok = 0xFF ∨ d.holder tok = orig
  · exact if_pos hfree
  · have hsilent : d.get Obj.helmTimeout 0 ≤ d.lastHeard c (d.holder tok) := (or_assoc.mpr h).resolve_left hfree
    simp only [hfree, Nat.not_lt.mpr hsilent, if_false]

theorem Device.helmTake_refused (hfree : d.holder tok ≠ 0xFF) (hown : d.holder tok ≠ orig)
    (hlive : d.lastHeard c (d.holder tok) < d.get Obj.helmTimeout 0) : d.helmTake c orig tok = (stHelm, d) := by
  simp only [Device.helmTake, hfree, hown, hlive, or_self, if_true, if_false]

theorem Device.helmGive_granted (h : d.holder tok = orig) : d.helmGive orig tok = (0, d.setHolder tok 0xFF) := if_pos h

theorem Device.helmGive_refused (h : d.holder tok ≠ orig) : d.helmGive orig tok = (stHelm, d) := if_neg h

/-- A Helm item names one token, without type and value (R25). -/
structure ObjItem.OneToken (it : ObjItem) : Prop where
  object : it.object = Obj.helmToken
  token : it.element < 16
  one : it.count = 1
  untyped : it.ty = 0
  empty : it.length = 0

/-- What a take or a give of a token does. -/
def Device.helmOp (d : Device) (c : Clk) (take : Bool) (orig tok : Nat) : Nat × Device :=
  if take then d.helmTake c orig tok else d.helmGive orig tok

theorem Device.helmItem_one {take : Bool} (h : it.OneToken) :
    let x := d.helmOp c take orig it.element
    d.helmItem c take orig it = (itemBytes Obj.helmToken it.element 1 x.1 2 (natBe 1 (d.holder it.element)), x.2) := by
  intro x
  have hlast : ¬15 < it.element := by have := h.token; omega
  simp only [Device.helmItem, h.object, h.one, h.untyped, h.empty, hlast, ne_eq, not_true_eq_false, or_self, and_false, if_false]
  rw [ObjItem.answer, if_neg (show ¬0x0A < 2 by decide), h.object]
  rfl

theorem runHelm_one {take : Bool} (hit : parseItems (bCount f) (bPayload f) = some [it]) (h : it.OneToken) :
    let d0 := d.begun c p f rest
    let x := d0.helmOp c take (bOrig f) it.element
    runHelm take c (d.offQueue rest) p f
      = some (c, x.2.respond p f (itemBytes Obj.helmToken it.element 1 x.1 2 (natBe 1 (d0.holder it.element)))) := by
  intro d0 x
  have hitems : ((d.offQueue rest).executing c p f).helmItems c take (bOrig f) [it]
      = (itemBytes Obj.helmToken it.element 1 x.1 2 (natBe 1 (d0.holder it.element)), x.2) := by
    have := Device.helmItem_one (d := d0) (c := c) (orig := bOrig f) (take := take) h
    simp only [d0, Device.begun] at this
    simp only [Device.helmItems, Device.offQueue, this, List.append_nil]
    rfl
  have hlen : ¬9000 < responseBytes (itemBytes Obj.helmToken it.element 1 x.1 2 (natBe 1 (d0.holder it.element))).length := by
    rw [length_itemBytes, length_natBe]
    decide
  simp only [runHelm, hit, hitems, hlen, if_false]

end

/-- Settles O10: the cases of a take and of a give, and the request that carries one. -/
theorem helmTokens : Obligations.HelmTokens := by
  refine ⟨⟨fun d c o e h => ?taken, fun d c o e hfree hown hlive => Device.helmTake_refused hfree hown hlive, fun d o e =>
    ⟨fun h => ?given, fun h => Device.helmGive_refused h⟩⟩, ?requests⟩
  case taken =>
    rw [Device.helmTake_granted h]
    exact ⟨rfl, d.setHolder_holder e o⟩
  case given =>
    rw [Device.helmGive_granted h]
    exact ⟨rfl, d.setHolder_holder e 0xFF⟩
  case requests =>
    intro s p f rest it d0 old hit hobj htok hn hty hlen
    have hone : it.OneToken := ⟨hobj, htok, hn, hty, hlen⟩
    refine ⟨fun hready => ?_, fun hready => ?_⟩
    · rw [exec_helmTake, State.request_ready hready (runHelm_one hit hone)]
      rfl
    · rw [exec_helmGive, State.request_ready hready (runHelm_one hit hone)]
      rfl

end Sys2Proof.Machine
end

section
/-! PROOFS. Bulk requests (O11): what reads and writes of the table region leave alone, and the cases of a bulk item. -/

namespace Sys2Proof.Machine

/-! ### Reads and writes of the table region's blocks (R251, R262 to R267) -/

section
variable (d : Device) (c : Clk) (s b n k : Nat)

/-- A change of the HBM stacks beside the queue region. -/
theorem Device.resting_with_hbm {h : Hbm} (hq : h.queueRegion = d.hbm.queueRegion) :
    ({ d with hbm := h } : Device).resting = d.resting :=
  Device.resting_iff.mpr ⟨rfl, rfl, hq, rfl, rfl⟩

theorem Device.resting_setCondition (src tgt : Nat) (on : Bool) : (d.setCondition src tgt on).resting = d.resting :=
  Device.resting_iff.mpr ⟨rfl, rfl, rfl, rfl, rfl⟩

theorem Device.resting_hbmCount : (d.hbmCount s k n).resting = d.resting := d.resting_bump 10 k (by decide)

theorem Device.resting_poisonBlock : (d.poisonBlock s b).resting = d.resting := by
  unfold Device.poisonBlock
  rw [Device.resting_raise, Device.resting_setCondition, Device.resting_hbmCount]
  exact d.resting_with_hbm rfl

theorem Device.resting_setChurn (on : Bool) : (d.setChurn s b on).resting = d.resting := d.resting_with_hbm rfl

theorem Device.resting_setStack : (d.setStack c s n).resting = d.resting := by
  rw [Device.setStack, Device.resting_setFld _ _ _ (by decide), Device.resting_setFld _ _ _ (by decide)]

theorem Device.resting_autoWake : (d.autoWake c s).resting = d.resting := by
  unfold Device.autoWake
  split
  · rw [Device.resting_setStack]
    exact d.resting_with_hbm rfl
  · rfl

theorem Device.resting_pcError (pc : Nat) : (d.pcError c pc).resting = d.resting := by
  have hreport (d : Device) : (d.reportPc pc).resting = d.resting := by
    rw [Device.reportPc, Device.resting_raise, Device.resting_count _ _ _ (by decide), Device.resting_hbmCount]
  have hlimit (d : Device) (errors : Nat) : (d.reportLimit pc errors).resting = d.resting := by
    unfold Device.reportLimit
    split
    · exact d.resting_raise ..
    · rfl
  rw [Device.pcError, hlimit, hreport]
  exact d.resting_with_hbm rfl

theorem Device.resting_poison_spend (ps : List Nat) :
    ({ d with hbm := { d.hbm with poison := ps } } : Device).spend.resting = d.resting := d.resting_with_hbm rfl

theorem Device.resting_loseLog : (d.loseLog c s b).resting = d.resting := by
  unfold Device.loseLog
  split
  · rw [Device.resting_autoWake, Device.resting_poisonBlock]
  · rw [Device.resting_autoWake, foldl_keeps Device.resting _ fun d i => d.resting_setChurn _ _ _]
    refine (Device.resting_poison_spend _ _).trans ?_
    rw [Device.resting_poisonBlock, Device.resting_pcError]

theorem Device.resting_healBlock (bad : Bool) : (d.healBlock c s b bad).resting = d.resting := by
  unfold Device.healBlock
  simp only
  split
  · split
    · exact d.resting_poisonBlock _ _
    · split
      · rw [Device.resting_poisonBlock, Device.resting_pcError]
      · exact d.resting_hbmCount _ _ _
  · split
    · rw [Device.resting_autoWake]
      exact d.resting_with_hbm rfl
    · rw [Device.resting_autoWake, Device.resting_poisonBlock]

theorem Device.resting_blockFound (x : BlockFound) : (d.blockFound c x).resting = d.resting := by
  unfold Device.blockFound Device.blockError
  split
  · rfl
  · exact d.resting_hbmCount _ _ _
  · simp only
    split
    · split
      · rw [Device.resting_loseLog, Device.resting_pcError]
      · rw [Device.resting_hbmCount, Device.resting_pcError]
    · rw [Device.resting_healBlock, Device.resting_pcError]

/-- What the code finds in the blocks that are read moves no byte of the queue store or the queue region. -/
theorem Device.resting_readFound (reads : Nat × Nat → Bool) (found : List BlockFound) : (d.readFound c reads found).resting = d.resting := by
  refine foldl_keeps Device.resting _ (fun d x => ?_) found d
  split
  · exact d.resting_blockFound c x
  · rfl

theorem Device.resting_unpoison (pb : Nat × Nat) : (d.unpoison pb).resting = d.resting := by
  rw [Device.unpoison, Device.resting_setCondition]
  exact d.resting_with_hbm rfl

theorem Device.resting_tableWrite (pb : Nat × Nat) : (d.tableWrite pb).resting = d.resting := by
  have hmark (d : Device) (s : Nat) : (if d.takesWrite s pb.2 then d else d.setChurn s pb.2 true).resting = d.resting := by
    split
    · rfl
    · exact d.resting_setChurn _ _ _
  have hlose (d : Device) (s : Nat) :
      (if setHas d.hbm.waitHeal (blockKey s pb.2) then d.poisonBlock s pb.2 else d).resting = d.resting := by
    split
    · exact d.resting_poisonBlock _ _
    · rfl
  simp only [Device.tableWrite, hmark, hlose]

/-- A write of the queue store leaves all else. -/
theorem Device.regionWrite_store (off : Nat) (bs : Bytes) :
    d.regionWrite 1 off bs = { d with queueStore := memWriteAll d.queueStore off bs } := rfl

/-- A write of the HBM queue region leaves the queue store and the other bytes of the region. -/
theorem Device.resting_regionWrite (off : Nat) (bs : Bytes) :
    (d.regionWrite 2 off bs).resting
      = ({ d with hbm := { d.hbm with queueRegion := memWriteAll d.hbm.queueRegion off bs } } : Device).resting := by
  have hrest (whole : List Nat) (blocks : List (Nat × Nat)) :
      (blocks.foldl Device.tableWrite (whole.foldl (fun d i => d.unpoison (queueBlock (roundUp 64 off + 64 * i))) d)).resting
        = d.resting := by
    rw [foldl_keeps Device.resting _ Device.resting_tableWrite, foldl_keeps Device.resting _ fun d i => d.resting_unpoison _]
  unfold Device.regionWrite
  rw [if_neg (by decide)]
  simp only
  obtain ⟨hstore, hmgmt, hregion, hstate, hpilot⟩ := Device.resting_iff.mp
    (hrest ((List.range (bs.length / 64)).filter fun i => decide (roundUp 64 off + 64 * i + 64 ≤ off + bs.length)) (regionBlocks off bs.length))
  exact Device.resting_iff.mpr ⟨hstore, hmgmt, congrArg (memWriteAll · off bs) hregion, hstate, hpilot⟩

end

/-! ### Bulk items (R26, R29) -/

section
variable {s : State} {d : Device} {c : Clk} {p k : Nat} {f b : Bytes} {rest : List (Nat × Bytes)} {it : BulkItem}
  {found : List BlockFound} {write : Bool}

theorem Device.bulkItem_blocked (hc : d.bulkCheck write it = 0) (hb : d.firstBlocked (d.bulkCrossings write it) = some k) :
    d.bulkItem c found write it = (it.answer stTimeout [], d.accessRefused k 0) := by
  simp only [Device.bulkItem, hc, hb, ne_eq, not_true_eq_false, if_false]

theorem Device.bulkItem_write (hc : d.bulkCheck true it = 0) (hb : d.firstBlocked (d.bulkCrossings true it) = none) :
    d.bulkItem c found true it
      = (it.answer 0 [], (d.accessesDone (d.bulkCrossings true it)).regionWrite it.region it.offset it.data) := by
  simp only [Device.bulkItem, hc, hb, ne_eq, not_true_eq_false, if_false, if_true]

/-- The device as a READ_BULK item finds the bytes it reads: its accesses are done, and the code has seen the blocks (R265). -/
def Device.bulkSeen (d : Device) (c : Clk) (found : List BlockFound) (it : BulkItem) : Device :=
  (d.accessesDone (d.bulkCrossings false it)).readFound c (bulkBlocks it).contains found

theorem Device.bulkItem_read (hc : d.bulkCheck false it = 0) (hb : d.firstBlocked (d.bulkCrossings false it) = none) :
    let d1 := d.bulkSeen c found it
    d.bulkItem c found false it
      = (it.answer 0 ((List.range it.length).map (d1.bulkByte it.region it.offset)), { d1 with free := d1.free + it.length }) := by
  simp only [Device.bulkItem, hc, hb, ne_eq, not_true_eq_false, if_false, Bool.false_eq_true]
  rfl

theorem Device.resting_bulkSeen : (d.bulkSeen c found it).resting = d.resting := by
  rw [Device.bulkSeen, Device.resting_readFound, Device.resting_accessesDone]

/-- What the checks of a bulk item leave of its region and its length (Table 2.10, R26). -/
theorem Device.bulkCheck_passed (h : d.bulkCheck write it = 0) :
    it.length ≤ 8192 ∧ (write = true → it.region = 1 ∨ it.region = 2) := by
  have hrange : ¬(it.region = 0 ∨ 4 < it.region ∨ bulkSize it.region < it.offset + it.length) := fun hr => by
    rw [Device.bulkCheck, if_pos hr] at h
    exact absurd h (by decide)
  have haccess : ¬(write = true ∧ 3 ≤ it.region) := fun ha => by
    rw [Device.bulkCheck, if_neg hrange, if_pos ha] at h
    exact absurd h (by decide)
  have hshape : ¬(it.length < 4 ∨ 8192 < it.length ∨ it.length % 4 ≠ 0 ∨ it.offset % 4 ≠ 0) := fun hs => by
    rw [Device.bulkCheck, if_neg hrange, if_neg haccess, if_pos hs] at h
    exact absurd h (by decide)
  refine ⟨by omega, fun hw => ?_⟩
  have hlow : ¬3 ≤ it.region := fun h3 => haccess ⟨hw, h3⟩
  omega

theorem runBulk_one {d2 : Device} (hit : parseBulk write (bCount f) (bPayload f) = some [it])
    (hrun : (d.begun c p f rest).bulkItem c found write it = (b, d2)) (hlen : b.length ≤ 8204) :
    runBulk write found c (d.offQueue rest) p f = some (c, d2.respond p f b) := by
  have hitems : ((d.offQueue rest).executing c p f).bulkItems c found write [it] = (b, d2) := by
    have := hrun
    unfold Device.begun at this
    simp only [Device.bulkItems, Device.offQueue, this, List.append_nil]
  have hshort : ¬9000 < responseBytes b.length := by unfold responseBytes; omega
  simp only [runBulk, hit, hitems, hshort, if_false]

/-- Only blocks of the HBM take a crossing: an item of the queue store takes none. -/
theorem Device.bulkCrossings_store (h : it.region = 1) : d.bulkCrossings true it = [] := by
  simp [Device.bulkCrossings, bulkBlocks, h, Device.writeCrossings]

/-- A WRITE_BULK request of one item executes. -/
theorem exec_writeBulk_one {d2 : Device} (h : s.dev.Ready opWriteBulk (bulkFormed true) p f rest)
    (hit : parseBulk true (bCount f) (bPayload f) = some [it])
    (hrun : (s.dev.begun s.clk p f rest).bulkItem s.clk [] true it = (b, d2)) (hlen : b.length ≤ 8204) :
    exec .writeBulk s = .next { s with dev := d2.respond p f b } := by
  rw [exec_writeBulk, State.request_ready h (runBulk_one hit hrun hlen)]

/-- A READ_BULK request of one item executes. -/
theorem exec_readBulk_one {d2 : Device} (hfound : ∀ b ∈ found, b.wf = true) (h : s.dev.Ready opReadBulk (bulkFormed false) p f rest)
    (hit : parseBulk false (bCount f) (bPayload f) = some [it])
    (hrun : (s.dev.begun s.clk p f rest).bulkItem s.clk found false it = (b, d2)) (hlen : b.length ≤ 8204) :
    exec (.readBulk found) s = .next { s with dev := d2.respond p f b } := by
  rw [exec_readBulk hfound, State.request_ready h (runBulk_one hit hrun hlen)]

/-- The answer to a bulk item without data is short. -/
theorem BulkItem.length_answer_nil (it : BulkItem) (st : Nat) : (it.answer st []).length ≤ 8204 := by
  rw [BulkItem.length_answer]
  decide

/-- What a WRITE_BULK item that executes leaves: its bytes at their offset, and every other byte of both memories (R29). -/
theorem Device.bulkWrite_bytes (hregion : it.region = 1 ∨ it.region = 2) (hlen : it.data.length = it.length) {d2 : Device}
    (hd2 : (d.accessesDone (d.bulkCrossings true it)).regionWrite it.region it.offset it.data = d2) :
    (d.Settled → d2.Settled)
      ∧ (it.region = 1 → memRead d2.queueStore it.offset it.length = it.data ∧ d2.hbm = d.hbm ∧ d2.chart = d.chart)
      ∧ (it.region = 2 → memRead d2.hbm.queueRegion it.offset it.length = it.data ∧ d2.queueStore = d.queueStore)
      ∧ ∀ a, a < it.offset ∨ it.offset + it.length ≤ a →
          memByte d2.queueStore a = memByte d.queueStore a ∧ memByte d2.hbm.queueRegion a = memByte d.hbm.queueRegion a := by
  rw [← hlen]
  rcases hregion with h1 | h2
  · rw [Device.bulkCrossings_store h1, h1, Device.regionWrite_store] at hd2
    subst hd2
    exact ⟨id, fun _ => ⟨memRead_memWriteAll .., rfl, rfl⟩, fun h => absurd (h1.symm.trans h) (by decide),
      fun a ha => ⟨memByte_memWriteAll_outside _ _ _ _ ha, rfl⟩⟩
  · have hwrite := (d.accessesDone (d.bulkCrossings true it)).resting_regionWrite it.offset it.data
    rw [← h2, hd2] at hwrite
    obtain ⟨hstore, -, hregion, hstate, hpilot⟩ := Device.resting_iff.mp hwrite
    obtain ⟨hstore', -, hregion', hstate', hpilot'⟩ := Device.resting_iff.mp (d.resting_accessesDone (d.bulkCrossings true it))
    have hbytes : d2.hbm.queueRegion = memWriteAll d.hbm.queueRegion it.offset it.data := by rw [hregion, ← hregion']
    refine ⟨fun h => h.of_status (hstate.trans hstate') (hpilot.trans hpilot'), fun h => absurd (h2.symm.trans h) (by decide),
      fun _ => ⟨?_, hstore.trans hstore'⟩, fun a ha => ⟨by rw [hstore.trans hstore'], ?_⟩⟩
    · rw [hbytes, memRead_memWriteAll]
    · rw [hbytes, memByte_memWriteAll_outside _ _ _ _ ha]

end

/-- Settles O11: the one item moves its bytes where its crossings carry them, and answers TIMEOUT where one cannot. -/
theorem bulkRequests : Obligations.BulkRequests := by
  intro s p f rest it found d0 timedOut hset
  have hset0 : d0.Settled := hset.begun s.clk p f rest
  refine ⟨?writeBlocked, ?readBlocked, ?written, ?read⟩
  case writeBlocked =>
    intro k hready hit hc hb
    exact exec_writeBulk_one hready hit (Device.bulkItem_blocked hc hb) (it.length_answer_nil _)
  case readBlocked =>
    intro k hready hit hc hfound hb
    exact exec_readBulk_one hfound hready hit (Device.bulkItem_blocked hc hb) (it.length_answer_nil _)
  case written =>
    intro hready hit hc hlen hb
    obtain ⟨-, hregion⟩ := Device.bulkCheck_passed hc
    obtain ⟨d2, hd2⟩ : ∃ d2, (d0.accessesDone (d0.bulkCrossings true it)).regionWrite it.region it.offset it.data = d2 := ⟨_, rfl⟩
    have hrun : d0.bulkItem s.clk [] true it = (it.answer 0 [], d2) := hd2 ▸ Device.bulkItem_write hc hb
    obtain ⟨hset2, hone, htwo, hother⟩ := Device.bulkWrite_bytes (hregion rfl) hlen hd2
    obtain ⟨hchart, hstore, hhbm, -, -, -⟩ := Device.respond_facts (p := p) (f := f) (b := it.answer 0 []) (hset2 hset0)
    refine ⟨_, exec_writeBulk_one hready hit hrun (it.length_answer_nil _), rfl, ?_⟩
    simp only [hchart, hstore, hhbm]
    exact ⟨hone, htwo, hother⟩
  case read =>
    intro hready hit hc hfound hb d1
    obtain ⟨hlen, -⟩ := Device.bulkCheck_passed hc
    have hrest : ({ d1 with free := d1.free + it.length } : Device).resting = d0.resting := Device.resting_bulkSeen
    obtain ⟨hstore1, -, hregion1, -, -⟩ := Device.resting_iff.mp hrest
    obtain ⟨hchart, hstore, hhbm, -, -, hkept⟩ := Device.respond_facts (p := p) (f := f)
      (b := it.answer 0 ((List.range it.length).map (d1.bulkByte it.region it.offset))) (hset0.of_resting hrest)
    refine ⟨_, exec_readBulk_one hfound hready hit (Device.bulkItem_read hc hb) ?_, rfl, hstore.trans hstore1, ?_, hchart, ?_⟩
    · rw [BulkItem.length_answer, List.length_map, List.length_range]
      omega
    · exact (congrArg Hbm.queueRegion hhbm).trans hregion1
    · refine hkept.trans ?_
      rw [Device.response_of_chart (d := d1) (d' := { d1 with free := d1.free + it.length }) rfl, Device.response, hready.opcode]

end Sys2Proof.Machine
end

section
/-! PROOFS. Requests that are not executed (O12), injects and punts (O13). -/

namespace Sys2Proof.Machine

/-! ### Requests that are not executed (R31, Table 2.13) -/

section
variable {s : State} {d : Device} {c : Clk} {p op n : Nat} {f r : Bytes} {rest : List (Nat × Bytes)} {formed : Bytes → Bool}
  {run : Clk → Device → Nat → Bytes → Option (Clk × Device)} {bad : List Nat} {found : List BlockFound}

/-- The commands that execute requests, each with the opcode it executes and the form of that opcode's items. -/
def requestCommands (bad : List Nat) (found : List BlockFound) : List (Instr × Nat × (Bytes → Bool)) :=
  [(.bdpRead bad, opRead, itemsFormed), (.bdpWrite, opWrite, itemsFormed), (.readBulk found, opReadBulk, bulkFormed false),
    (.writeBulk, opWriteBulk, bulkFormed true), (.helmTake, opHelmTake, itemsFormed), (.helmGive, opHelmGive, itemsFormed)]

/-- Each of them runs the request of its opcode at the head of the queue. -/
theorem exec_requestCommand {x : Instr × Nat × (Bytes → Bool)} (hbad : ∀ e ∈ bad, e < 512) (hfound : ∀ b ∈ found, b.wf = true)
    (hx : x ∈ requestCommands bad found) : ∃ run, exec x.1 s = .next (s.request x.2.1 x.2.2 run) := by
  simp only [requestCommands, List.mem_cons, List.not_mem_nil, or_false] at hx
  rcases hx with rfl | rfl | rfl | rfl | rfl | rfl
  · exact ⟨_, exec_bdpRead hbad⟩
  · exact ⟨_, exec_bdpWrite⟩
  · exact ⟨_, exec_readBulk hfound⟩
  · exact ⟨_, exec_writeBulk⟩
  · exact ⟨_, exec_helmTake⟩
  · exact ⟨_, exec_helmGive⟩

theorem requestCommand_read {x : Instr × Nat × (Bytes → Bool)} (hx : x ∈ requestCommands bad found) (hop : x.2.1 = opRead) :
    x.1 = .bdpRead bad := by
  simp only [requestCommands, List.mem_cons, List.not_mem_nil, or_false] at hx
  rcases hx with rfl | rfl | rfl | rfl | rfl | rfl
  · rfl
  · exact absurd hop (show opWrite ≠ opRead by decide)
  · exact absurd hop (show opReadBulk ≠ opRead by decide)
  · exact absurd hop (show opWriteBulk ≠ opRead by decide)
  · exact absurd hop (show opHelmTake ≠ opRead by decide)
  · exact absurd hop (show opHelmGive ≠ opRead by decide)

/-- The state in which a request is off the queue and a frame has left on its port in answer. -/
def State.answered (s : State) (p : Nat) (rest : List (Nat × Bytes)) (answer : Bytes) : State :=
  { s with dev := s.dev.setMgmt { s.dev.mgmt with requests := rest, sent := s.dev.mgmt.sent ++ [(p, answer)] } }

/-- The ERROR frame that answers a request (Table 2.13). -/
def Device.errorFrame (d : Device) (f : Bytes) (reason : Nat) : Bytes :=
  d.frame (bSource f) (bOrig f) 0x1F (bSequence f) 0 reason 0 []

/-- The device waits for no image's firmware, and its answers leave at once on a port. -/
structure Device.AnswersOn (d : Device) (p : Nat) : Prop where
  settled : d.Settled
  up : setHas d.mgmt.linkUp p = true
  unforwarded : d.mgmt.forward = []

theorem Device.AnswersOn.sendError (h : d.AnswersOn p) :
    d.sendError p f n = d.setMgmt { d.mgmt with sent := d.mgmt.sent ++ [(p, d.errorFrame f n)] } :=
  Device.sendError_sends h.settled h.up h.unforwarded

theorem State.request_error (h : s.dev.AnswersOn p)
    (hrun : s.dev.runRequest s.clk op formed run = (s.clk, (s.dev.offQueue rest).sendError p f n)) :
    s.request op formed run = s.answered p rest (s.dev.errorFrame f n) := by
  have hoff : (s.dev.offQueue rest).AnswersOn p := ⟨h.settled, h.up, h.unforwarded⟩
  rw [State.request, hrun, hoff.sendError]
  rfl

theorem State.request_repeated (h : s.dev.AnswersOn p) (hhead : s.dev.Heads op p f rest)
    (hgood : ¬(bOverrun f = true ∨ bCount f = 0 ∨ formed f = false)) (hrole : bOrig f < 2 ∨ op = opRead)
    (hkept : mapGet? s.dev.mgmt.kept (bOrig f) = some (bSequence f, r)) :
    s.request op formed run = s.answered p rest (overwrite r 0 (natBe 6 (bSource f))) := by
  rw [State.request, Device.runRequest_repeated hhead hgood hrole hkept,
    Device.answerOn_sends (d := s.dev.offQueue rest) h.up h.unforwarded, Device.responded_settled (by exact h.settled)]
  rfl

/-- A request that no command executes is answered as it is received, where no other waits. -/
theorem Device.enqueueRequest_unexecutable (h : d.AnswersOn p) (hruns : d.pilotRuns = true) (hempty : d.mgmt.requests = [])
    (hf : unexecutable f ≠ 0) :
    d.enqueueRequest p f = d.setMgmt { d.mgmt with
      requests := [], sent := d.mgmt.sent ++ [(p, d.errorFrame f (unexecutable f))] } := by
  have hon : (d.setMgmt { d.mgmt with requests := [(p, f)] }).AnswersOn p := ⟨h.settled, h.up, h.unforwarded⟩
  simp only [Device.enqueueRequest, hempty, List.length_nil, List.nil_append, Device.setMgmt_mgmt, Device.setMgmt_pilotRuns, hruns, if_true,
    show ¬32 ≤ 0 by decide, if_false]
  rw [Device.drainErrors_single hf, hon.sendError]
  rfl

theorem runRead_long {its : List ObjItem} (hit : parseItems (bCount f) (bPayload f) = some its)
    (hlong : 9000 < responseBytes (((d.begun c p f rest).readItems c (bOrig f) bad its).1.length)) :
    runRead bad c (d.offQueue rest) p f = none := by
  have hlong' : 9000 < responseBytes ((((d.offQueue rest).executing c p f).readItems c (bOrig f) bad its).1.length) := hlong
  simp only [runRead, hit, hlong', if_true]

end

/-- Settles O12: of a request that is not executed the answer is the kept response, or the ERROR frame of its defect. -/
theorem unexecutedRequests : Obligations.UnexecutedRequests := by
  refine ⟨?repeated, ?received, ?run⟩
  case repeated =>
    intro s p f r rest bad found hbad hfound x hx hruns hhead hversion hop hwhole hitems hformed hrole hkept hset hup hfwd
    obtain ⟨run, hexec⟩ := exec_requestCommand (s := s) hbad hfound hx
    rw [hexec, State.request_repeated ⟨hset, hup, hfwd⟩ ⟨hruns, hhead, hversion, hop⟩ (by simp [hwhole, hitems, hformed]) hrole hkept]
    rfl
  case received =>
    intro s p f hp hon hup hlo hhi hty hhop hdir ht hs hport hop hruns hempty hfwd hset _ reason hreason
    have hun : unexecutable f = reason := by
      rcases hreason with ⟨rfl, hv⟩ | ⟨rfl, hv, ho⟩
      · exact if_pos hv
      · simp [unexecutable, hv, ho]
    have hne : unexecutable f ≠ 0 := by omega
    rw [exec_bdpFrameReceive ⟨hp, hon, hup, hlo, hhi, hty⟩, Device.chainFrame_own hhop hdir (.inl ht),
      Device.acceptFrame_request hs hport hop, Device.enqueueRequest_unexecutable ⟨hset, hup, hfwd⟩ hruns hempty hne, hun]
    rfl
  case run =>
    intro s p f rest bad found hbad hfound x hx error hruns hhead hversion hop hset hup hfwd
    have hon : s.dev.AnswersOn p := ⟨hset, hup, hfwd⟩
    have hheads : s.dev.Heads x.2.1 p f rest := ⟨hruns, hhead, hversion, hop⟩
    obtain ⟨run, hexec⟩ := exec_requestCommand (s := s) hbad hfound hx
    refine ⟨fun hdefect => ?_, fun hwhole hitems hformed ho hnot => ?_, fun hread hready its hit hlong => ?_⟩
    · exact hexec.trans (congrArg _ (State.request_error hon (Device.runRequest_malformed hheads hdefect)))
    · have hgood : ¬(bOverrun f = true ∨ bCount f = 0 ∨ x.2.2 f = false) := by simp [hwhole, hitems, hformed]
      exact hexec.trans (congrArg _ (State.request_error hon (Device.runRequest_observer hheads hgood ho hnot)))
    · have hnone : s.dev.runRequest s.clk opRead itemsFormed (runRead bad) = (s.clk, (s.dev.offQueue rest).sendError p f 3) := by
        rw [Device.runRequest_ready hready, runRead_long hit hlong, Option.getD_none]
      show exec x.1 s = _
      rw [requestCommand_read hx hread, exec_bdpRead hbad, State.request_error hon hnone]
      rfl

/-! ### Injects and punts (R35, R40, R41) -/

section
variable {s : State} {d : Device} {p mode : Nat} {f : Bytes} {rest : List (Nat × Bytes)} {above : Bool}

theorem Device.takeInject_some (h : d.mgmt.injects = (p, f) :: rest) (hm : iMode f = mode) :
    d.takeInject mode = some (p, f, d.setMgmt { d.mgmt with injects := rest }) := by
  simp only [Device.takeInject, h, hm, if_true]

@[simp] theorem Device.setMgmt_injectOk (d : Device) (m : Mgmt) (f : Bytes) : (d.setMgmt m).injectOk f = d.injectOk f := rfl

/-- Bytes of the packets in the inject FIFO (R41). -/
def Device.injectUsed (d : Device) : Nat := (d.mgmt.pipeline.map fun x => x.packet.length).sum

theorem exec_injectToPipeline_accepted (h : s.dev.mgmt.injects = (p, f) :: rest) (hm : iMode f = 1) (hok : s.dev.injectOk f = true)
    (hroom : s.dev.injectUsed + (iPacket f).length ≤ 65536) :
    exec (.injectToPipeline false) s = .next { s with dev := s.dev.setMgmt { s.dev.mgmt with
      injects := rest, pipeline := s.dev.mgmt.pipeline ++ [{ port := iPort f, pool := iPool f, packet := iPacket f }] } } := by
  unfold Device.injectUsed at hroom
  simp [exec, execInjectToPipeline, Instr.wf, Device.takeInject_some h hm, hok, Nat.not_lt.mpr hroom]

theorem exec_injectToPipeline_refused (h : s.dev.mgmt.injects = (p, f) :: rest) (hm : iMode f = 1)
    (hbad : above = true ∨ s.dev.injectOk f = false ∨ 65536 < s.dev.injectUsed + (iPacket f).length) :
    exec (.injectToPipeline above) s
      = .next { s with dev := (s.dev.setMgmt { s.dev.mgmt with injects := rest }).tally Obj.bdpCount (p * 16 + 10) 1 } := by
  unfold Device.injectUsed at hbad
  simp only [exec, execInjectToPipeline, Instr.wf, onDev_true, Device.takeInject_some h hm, Device.setMgmt_injectOk, Device.setMgmt_mgmt]
  refine congrArg (fun d => Host.Outcome.next { s with dev := d }) (if_pos ?_)
  rcases hbad with h | h | h <;> simp [h]

theorem exec_injectToQueue_refused (h : s.dev.mgmt.injects = (p, f) :: rest) (hm : iMode f = 0)
    (hbad : above = true ∨ s.dev.injectOk f = false) :
    exec (.injectToQueue above) s
      = .next { s with dev := (s.dev.setMgmt { s.dev.mgmt with injects := rest }).tally Obj.bdpCount (p * 16 + 10) 1 } := by
  have hrefuse : (above || !s.dev.injectOk f) = true := by simpa using hbad
  simp only [exec, execInjectToQueue, Instr.wf, onDev_true, Device.takeInject_some h hm, Device.setMgmt_injectOk, hrefuse, if_true]
  rfl

theorem exec_injectToQueue_offered (h : s.dev.mgmt.injects = (p, f) :: rest) (hm : iMode f = 0) (hok : s.dev.injectOk f = true) :
    exec (.injectToQueue false) s = .next { s with dev := ((s.dev.setMgmt { s.dev.mgmt with injects := rest }).takeOffer s.clk
      { queue := iQueue f, pool := iPool f, port := none, copy := false, punt := false, inject := true
        record := injectRecord (iQueue f) s.clk.short, packet := iPacket f }).1 } := by
  simp only [exec, execInjectToQueue, Instr.wf, onDev_true, Device.takeInject_some h hm, Device.setMgmt_injectOk, hok, Bool.not_true,
    Bool.or_false, Bool.false_eq_true, if_false]

variable {e : QEntry} {port : Nat}

theorem exec_puntFrameSend (hw : s.dev.waitingPunt = some e) (hp : s.dev.puntPort = some port) :
    exec .puntFrameSend s = .next { s with dev := if s.dev.ownTurn port then s.dev.releasePunt s.clk e else s.dev } := by
  simp only [exec, execPuntFrameSend, Instr.wf, onDev_true, hw, hp]

/-- No forwarded frame waits, or one went last and no own frame waits. -/
theorem Device.ownTurn_own (h : d.mgmt.forward = [] ∨ setHas d.mgmt.lastForwarded port = true ∧ d.mgmt.own = []) :
    d.ownTurn port = true := by
  unfold Device.ownTurn
  rcases h with h | ⟨h, hown⟩
  · simp [h]
  · simp [h, hown]

theorem Device.ownTurn_forwarded (hf : (port, f) ∈ d.mgmt.forward) (h : setHas d.mgmt.lastForwarded port = false) :
    d.ownTurn port = false := by
  have hany : (d.mgmt.forward.any fun x => x.1 == port) = true := List.any_eq_true.mpr ⟨_, hf, beq_self_eq_true port⟩
  simp [Device.ownTurn, hany, h]

end

/-- Settles O13: an INJECT goes in or is counted, and the oldest punt goes out at its turn. -/
theorem injectAndPunt : Obligations.InjectAndPunt := by
  refine ⟨?accepted, ?refused, ?offered, ?punt⟩
  case accepted => exact fun s p f rest h hm hok hroom => exec_injectToPipeline_accepted h hm hok hroom
  case refused =>
    intro s p f rest above h refused
    exact ⟨fun hm hbad => exec_injectToPipeline_refused h hm hbad, fun hm hbad => exec_injectToQueue_refused h hm hbad⟩
  case offered => exact fun s p f rest h hm hok => exec_injectToQueue_offered h hm hok
  case punt =>
    intro s e rest port mac hfwd hq hr
    have hexec := exec_puntFrameSend (Device.waitingPunt_oldest hfwd hq) (Device.puntPort_reachable hr)
    refine ⟨fun hturn => ?_, fun ⟨f, hf⟩ hlast => ?_⟩
    · rw [Device.ownTurn_own hturn, if_pos rfl] at hexec
      have hmgmt := Device.releasePunt_mgmt (c := s.clk) (e := e) hr
      exact ⟨_, hexec, congrArg Mgmt.puntSeq hmgmt, congrArg Mgmt.sent hmgmt, Device.releasePunt_queue hr hq⟩
    · rw [hexec, Device.ownTurn_forwarded hf hlast]
      rfl

end Sys2Proof.Machine
end

section
/-! PROOFS. The key builder (R98, R102): the class map a pass reads, and the bytes that the selected segments give a hash. -/

namespace Sys2Proof.Machine

section
variable (d : Device) (slice k n o e : Nat)

theorem Device.get_parseCount_other (h : chartKey Obj.parseCounters slice ≠ chartKey o e) :
    (d.parseCount slice k n).get o e = d.get o e :=
  d.get_setFld_other _ _ _ _ _ _ _ h

/-- The outcome counters of a pass are fields of its slice's PARSE.Counters. -/
theorem Device.get_countPass_other (out : ParseOut) (recirc : Bool) (h : chartKey Obj.parseCounters slice ≠ chartKey o e) :
    (d.countPass slice out recirc).get o e = d.get o e := by
  simp only [Device.countPass, apply_ite (Device.get · o e), Device.get_parseCount_other _ _ _ _ _ _ h, ite_self]

end

/-! ### Hash inputs (R102) -/

theorem natBe_two (v : Nat) : natBe 2 v = [BitVec.ofNat 8 (v / 256), BitVec.ofNat 8 v] := by
  simp [natBe, List.range_succ]

/-- A list with its places, read place by place. -/
theorem zipIdx_eq_map_range {α : Type} (xs : List α) (dflt : α) :
    xs.zipIdx = (List.range xs.length).map fun k => (xs.getD k dflt, k) := by
  refine List.ext_getElem (by simp) fun i hi _ => ?_
  have hx : i < xs.length := by simpa using hi
  simp [hx]

/-- The bytes of the segments that a KEY.Hash element selects, in increasing number, the more significant byte of each first. -/
def hashInput (w : Nat) (segs : List (Nat × Bool)) : Bytes :=
  ((List.range 40).filter fun k => bit w (16 + k)).flatMap fun k =>
    [BitVec.ofNat 8 ((segs.getD k (0, false)).1 / 256), BitVec.ofNat 8 (segs.getD k (0, false)).1]

theorem Device.hash_eq (d : Device) (slice profile h : Nat) {segs : List (Nat × Bool)} (hlen : segs.length = 40) :
    d.hash slice profile h segs =
      let w := d.get Obj.keyHash (slice * 192 + profile * 3 + h)
      if !bit w 63 || (hashInput w segs).isEmpty then 0
      else if bit w 62 then toeplitz (d.get Obj.hashToeplitzKey 0) (hashInput w segs) else crc32c (hashInput w segs) := by
  have hinput (w : Nat) :
      ((segs.zipIdx.filter fun x => bit w (16 + x.2)).map fun x => natBe 2 x.1.1).flatten = hashInput w segs := by
    rw [zipIdx_eq_map_range segs (0, false), hlen, List.filter_map, List.map_map, ← List.flatMap_def]
    simp only [Function.comp_def, natBe_two, hashInput]
  simp only [Device.hash, hinput]

theorem hashInput_isEmpty (w : Nat) (segs : List (Nat × Bool)) :
    (hashInput w segs).isEmpty = true ↔ ∀ k, k < 40 → bit w (16 + k) = false := by
  simp [hashInput]

/-- Settles O48: a pass counts before it reads the class map and leaves the map as it is, and a hash reads the selected segments' bytes. -/
theorem keysAndHashes : Obligations.KeysAndHashes := by
  refine ⟨?profile, ?hash⟩
  case profile =>
    intro d c slice record frame recirc injected winners hslice
    exact d.get_countPass_other slice _ _ _ recirc (by unfold chartKey Obj.parseCounters Obj.keyClassMap; omega)
  case hash =>
    intro d slice profile h segs hlen w input
    have hhash := d.hash_eq slice profile h hlen
    refine ⟨fun hnone => hhash.trans (if_pos ?_), fun hen hsome => hhash.trans (if_neg ?_)⟩
    · rw [Bool.or_eq_true, hashInput_isEmpty, Bool.not_eq_true']
      exact hnone
    · rw [Bool.or_eq_true, hashInput_isEmpty, Bool.not_eq_true']
      obtain ⟨k, hk, hbit⟩ := hsome
      rintro (hoff | hempty)
      · exact absurd hen (by simp [w, hoff])
      · exact absurd hbit (by simp [w, hempty k hk])

end Sys2Proof.Machine
end

section
/-! PROOFS. Remap barriers (R107, R108, Table 5.11): what a remap and a release leave in the Chart and in the list of raised barriers. -/

namespace Sys2Proof.Machine

section
variable {d : Device} {x : Barrier} {slice b cl : Nat} {waits : List Nat}

/-! ### The raised barriers -/

theorem Device.barrier?_of_sl {d' : Device} (h : d'.sl = d.sl) : d'.barrier? slice b = d.barrier? slice b := by
  rw [Device.barrier?, h, Device.barrier?]

/-- A raised barrier is found under its own slice and bucket. -/
theorem Device.barrier?_names (h : d.barrier? slice b = some x) : x.slice = slice ∧ x.bucket = b := by
  simpa using List.find?_some h

/-- Nothing is found among the elements that fail the test. -/
theorem find?_filter_not {α : Type} (p : α → Bool) (xs : List α) : (xs.filter fun y => !p y).find? p = none :=
  List.find?_eq_none.mpr fun y hy => by simpa using (List.mem_filter.mp hy).2

@[simp] theorem Device.barrier?_setBarrier : (d.setBarrier x).barrier? x.slice x.bucket = some x := by
  have hx : (x.slice == x.slice && x.bucket == x.bucket) = true := by simp
  rw [Device.barrier?, Device.setBarrier, List.find?_append, find?_filter_not, Option.none_or]
  exact List.find?_cons_of_pos hx

@[simp] theorem Device.barrier?_releaseBarrier : (d.releaseBarrier x).barrier? x.slice x.bucket = none :=
  find?_filter_not _ d.sl.barriers

@[simp] theorem Device.releaseBarrier_flights : (d.releaseBarrier x).sl.flights = d.sl.flights := rfl

/-! ### The Chart over a release -/

theorem Device.get_releaseBarrier_pending (hs : x.slice < 4) (hb : x.bucket < 4096) :
    (d.releaseBarrier x).get Obj.steerBarrierPending (x.slice * 4096 + x.bucket) = 0 := by
  rw [Device.releaseBarrier, Device.get_set_object _ _ _ _ _ _ (by omega) (by omega) (by decide), Device.get_set_same]

theorem Device.chartSame_releaseBarrier (hs : x.slice < 4) (hb : x.bucket < 4096) :
    ChartSame [Obj.steerBarrierPending, Obj.steerBarrierCount] d (d.releaseBarrier x) := by
  intro o e he ho
  obtain ⟨hpending, hcount⟩ : o ≠ Obj.steerBarrierPending ∧ o ≠ Obj.steerBarrierCount := by simpa using ho
  rw [Device.releaseBarrier, Device.get_set_object _ _ _ _ _ _ (by omega) he hcount.symm,
    Device.get_set_object _ _ _ _ _ _ (by omega) he hpending.symm, Device.get_with_sl]

theorem Device.parseCount_sl {k n : Nat} : (d.parseCount slice k n).sl = d.sl := rfl

theorem Device.get_parseCount_object {k n o e : Nat} (hs : slice < 65536) (he : e < 65536) (ho : Obj.parseCounters ≠ o) :
    (d.parseCount slice k n).get o e = d.get o e :=
  Device.get_parseCount_other _ _ _ _ _ _ fun h => ho ((chartKey_inj hs he).mp h).1

/-! ### The Chart over a remap -/

/-- A remap counts the raised barriers of its slice last: every other object reads as the raised barrier left it. -/
theorem Device.get_remap {o e : Nat} (hs : slice < 65536) (he : e < 65536) (ho : o ≠ Obj.steerBarrierCount) :
    ∃ d1 : Device, (d.remap slice b cl waits).get o e
      = ((d1.set Obj.steerIndirection (slice * 4096 + b) cl).set Obj.steerBarrierPending (slice * 4096 + b) 1).get o e := by
  apply Exists.intro
  rw [Device.remap, Device.setBarrier, Device.get_with_sl, apply_ite (Device.get · o e),
    Device.get_set_object _ _ _ _ _ _ hs he ho.symm, ite_self]

theorem Device.get_remap_indirection (hs : slice < 4) (hb : b < 4096) :
    (d.remap slice b cl waits).get Obj.steerIndirection (slice * 4096 + b) = cl := by
  obtain ⟨d1, h⟩ := Device.get_remap (d := d) (cl := cl) (waits := waits) (b := b) (show slice < 65536 by omega)
    (show slice * 4096 + b < 65536 by omega) (show Obj.steerIndirection ≠ Obj.steerBarrierCount by decide)
  rw [h, Device.get_set_object _ _ _ _ _ _ (by omega) (by omega) (by decide), Device.get_set_same]

theorem Device.get_remap_pending (hs : slice < 4) (hb : b < 4096) :
    (d.remap slice b cl waits).get Obj.steerBarrierPending (slice * 4096 + b) = 1 := by
  obtain ⟨d1, h⟩ := Device.get_remap (d := d) (cl := cl) (waits := waits) (b := b) (show slice < 65536 by omega)
    (show slice * 4096 + b < 65536 by omega) (show Obj.steerBarrierPending ≠ Obj.steerBarrierCount by decide)
  rw [h, Device.get_set_same]

theorem Device.barrier?_remap :
    (d.remap slice b cl waits).barrier? slice b
      = some { slice := slice, bucket := b, old := d.bucketCluster slice b, cluster := cl, waitFor := waits } :=
  Device.barrier?_setBarrier (x := { slice := slice, bucket := b, old := d.bucketCluster slice b, cluster := cl, waitFor := waits })

/-! ### Writes of STEER.Indirection (R107) -/

theorem Device.writeIndirection_outside {e : Nat} (h : cl / 16 ≠ e / 4096) : d.writeIndirection e cl = .error stType :=
  if_pos h

theorem Device.writeIndirection_busy {e : Nat} (h : cl / 16 = e / 4096)
    (hbusy : d.clusterFenced cl = true ∨ d.get Obj.steerBarrierPending e = 1) : d.writeIndirection e cl = .error stBusy := by
  rw [Device.writeIndirection, if_neg (not_not_intro h), if_pos hbusy]

theorem Device.writeIndirection_remaps {e : Nat} (h : cl / 16 = e / 4096) (hfence : d.clusterFenced cl = false)
    (hbar : d.get Obj.steerBarrierPending e ≠ 1) (hnew : d.bucketCluster (e / 4096) (e % 4096) ≠ cl) :
    d.writeIndirection e cl = .ok (d.remap (e / 4096) (e % 4096) cl
      (d.bucketFlights (e / 4096) (e % 4096) (some (d.bucketCluster (e / 4096) (e % 4096))))) := by
  rw [Device.writeIndirection, if_neg (not_not_intro h), if_neg (by simp [hfence, hbar]), if_neg hnew]

end

/-! ### The release and the timeout of a barrier (R108, Table 5.11) -/

section
variable {s : State} {x : Barrier} {sl b : Nat}

theorem exec_barrierRelease_done (hs : sl < 4) (hb : b < 4096) (hx : s.dev.barrier? sl b = some x) (hw : s.dev.stillWaits x = []) :
    exec (.barrierRelease sl b) s = .next { s with dev := s.dev.releaseBarrier x } := by
  simp only [exec, execBarrierRelease, Instr.wf, hs, hb, and_self, decide_true, onDev_true, hx, hw, List.isEmpty_nil, if_true]

theorem exec_barrierTimeout_waits (hs : sl < 4) (hb : b < 4096) (hx : s.dev.barrier? sl b = some x) (hw : s.dev.stillWaits x ≠ []) :
    exec (.barrierTimeout sl b) s
      = .next { s with dev := ((s.dev.releaseBarrier x).parseCount sl 9 1).raise 0x05 (clusterTarget x.old) b } := by
  simp only [exec, execBarrierTimeout, Instr.wf, hs, hb, and_self, decide_true, onDev_true, hx, List.isEmpty_iff, hw, if_false]

end

/-- Settles O27: a write remaps or is refused, and a raised barrier falls when it waits for nothing, or at its timeout. -/
theorem remapBarriers : Obligations.RemapBarriers := by
  refine ⟨?writes, ?falls⟩
  case writes =>
    intro d e cl he hcl hold
    refine ⟨Device.writeIndirection_outside, Device.writeIndirection_busy, fun h hfence hbar hnew => ?_⟩
    have hslice : e / 4096 < 4 := by omega
    have hbucket : e % 4096 < 4096 := Nat.mod_lt _ (by decide)
    have hplace : e / 4096 * 4096 + e % 4096 = e := Nat.div_add_mod' e 4096
    refine ⟨_, Device.writeIndirection_remaps h hfence hbar hnew, ?_, ?_, Device.barrier?_remap⟩
    · simpa only [hplace] using Device.get_remap_indirection hslice hbucket
    · simpa only [hplace] using Device.get_remap_pending hslice hbucket
  case falls =>
    intro s sl b x hs hb hx
    obtain ⟨rfl, rfl⟩ := Device.barrier?_names hx
    refine ⟨fun hdone => ?release, fun hwaits hstate => ?timeout⟩
    case release =>
      exact ⟨_, exec_barrierRelease_done hs hb hx hdone, Device.barrier?_releaseBarrier, Device.get_releaseBarrier_pending hs hb,
        Device.releaseBarrier_flights, Device.chartSame_releaseBarrier hs hb⟩
    case timeout =>
      have hkept {o : Nat} (e : Nat) (he : e < 65536) (ho : o ∉ [Obj.steerBarrierPending, Obj.steerBarrierCount]) :
          (s.dev.releaseBarrier x).get o e = s.dev.get o e := Device.chartSame_releaseBarrier hs hb o e he ho
      refine ⟨_, exec_barrierTimeout_waits hs hb hx hwaits, ?lowered, ?pending, ?reported, ?counted⟩
      case lowered =>
        rw [Device.barrier?_of_sl (Device.raise_sl ..), Device.barrier?_of_sl Device.parseCount_sl, Device.barrier?_releaseBarrier]
      case pending =>
        rw [Device.raise_get, Device.get_parseCount_object (by omega) (by omega) (by decide), Device.get_releaseBarrier_pending hs hb]
      case reported =>
        refine Device.reported_raise _ _ _ _ ?_
        rwa [Device.state, Device.get_parseCount_object (by omega) (by decide) (by decide), hkept 0 (by decide) (by decide)]
      case counted =>
        rw [Device.rd, Device.raise_get, ← Device.rd, Device.parseCount, Device.rd_bump_same _ _ _ 11 9 1, Device.rd,
          hkept _ (by omega) (by decide)]
        rfl

end Sys2Proof.Machine
end

section
/-! PROOFS. A parser pass (R96, R105, R106, R112, R113): what its lookups leave of the FIFOs and the packets in flight,
where the packet lands as it arrives at its cluster, and which packet the parser takes. -/

namespace Sys2Proof.Machine

/-! ### What a pass's counts and lookups leave

A lemma proved by `(rfl)` is a rewrite to `simp` and not a definitional unfolding, so the kernel compares no two devices field by field. -/

section
variable (d : Device) (c : Clk) (slice key : Nat)

/-- What the parser takes packets from and steers them by: the ports, the inject FIFO, the sequence numbers and the packets in flight. -/
def Device.intake (d : Device) : Ports × List Inject × NMap Nat × List Flight :=
  (d.ports, d.mgmt.pipeline, d.sl.seqNext, d.sl.flights)

@[simp] theorem Device.intake_set (o e v : Nat) : (d.set o e v).intake = d.intake := (rfl)
@[simp] theorem Device.intake_bump (o e n k i : Nat) : (d.bump o e n k i).intake = d.intake := (rfl)
@[simp] theorem Device.intake_with_tbl (x : Tables) : ({ d with tbl := x } : Device).intake = d.intake := (rfl)
@[simp] theorem Device.intake_parseCount (k n : Nat) : (d.parseCount slice k n).intake = d.intake := (rfl)
@[simp] theorem Device.intake_tblCount (k : Nat) (n : Int) : (d.tblCount slice k n).intake = d.intake := (rfl)
@[simp] theorem Device.intake_clCount (cl k n : Nat) : (d.clCount cl k n).intake = d.intake := (rfl)
@[simp] theorem Device.intake_tcamCount (k n : Nat) : (d.tcamCount slice k n).intake = d.intake := (rfl)

@[simp] theorem Device.intake_raise (src tgt code : Nat) : (d.raise src tgt code).intake = d.intake := by
  simp only [Device.intake, Device.raise_ports, Device.raise_mgmt, Device.raise_sl]

@[simp] theorem Device.intake_sendOwn (port : Nat) (f : Bytes) : (d.sendOwn port f).intake = d.intake := by
  rw [Device.sendOwn_frame]
  rfl

@[simp] theorem Device.intake_notify (o e : Nat) : (d.notify o e).intake = d.intake := by
  refine foldl_keeps Device.intake _ (fun d sup => ?_) _ _
  unfold Device.notifyOne
  split
  · rfl
  · split
    · rfl
    · exact Device.intake_sendOwn _ _ _

/-! A TCAM search, which may find its winning row bad (R144, R154). -/

@[simp] theorem Device.intake_logTcam (cause bank row : Nat) : (d.logTcam c cause slice bank row).intake = d.intake := by
  simp only [Device.logTcam, apply_ite Device.intake, Device.intake_notify, Device.intake_set, ite_self]

@[simp] theorem Device.intake_countInvalid (bank : Nat) : (d.countInvalid c slice bank).intake = d.intake := by
  simp only [Device.countInvalid, apply_ite Device.intake, Device.intake_raise, Device.intake_with_tbl, ite_self]

@[simp] theorem Device.intake_clearRow (f w r : Nat) : (d.clearRow slice f w r).intake = d.intake :=
  foldl_keeps Device.intake (fun d k => d.setTcamRow slice (f + k) r TcamRow.empty) (fun _ _ => rfl) _ _

@[simp] theorem Device.intake_rowError (cause row bank : Nat) : (d.rowError c cause slice row bank).intake = d.intake := by
  simp only [Device.rowError, apply_ite Device.intake, Device.intake_countInvalid, Device.intake_raise, Device.intake_logTcam,
    Device.intake_tcamCount, Device.intake_clearRow, ite_self]

theorem Device.intake_tcamSearch (n : Nat) (found : WinnerCheck) : (d.tcamSearch c slice n key found).2.2.2.intake = d.intake := by
  simp only [Device.tcamSearch]
  split
  · simp only [Device.intake_tcamCount]
  · split
    · simp only [Device.intake_tcamCount]
    · split <;> simp only [Device.intake_tcamCount, Device.intake_rowError]

/-- Of the tables only a TCAM changes with a lookup: its search counts, and finds bad rows. -/
theorem Device.intake_lookup (table ecmp : Nat) (found : WinnerCheck) : (d.lookup c slice table key ecmp found).2.intake = d.intake := by
  unfold Device.lookup
  split
  · rfl
  · rfl
  · rfl
  · rfl
  · have hsearch := d.intake_tcamSearch c slice key (table - 0x10) found
    split
    · rfl
    · split
      · rfl
      · generalize d.tcamSearch c slice (table - 0x10) key found = r at hsearch ⊢
        obtain ⟨st, row, data, d1⟩ := r
        exact hsearch

/-! The flow lookup and the learning check (R119, R130, R131). -/

theorem Device.intake_cacheLookup : (d.cacheLookup slice key).2.intake = d.intake := by
  simp only [Device.cacheLookup]
  split <;> simp only [Device.intake_tblCount, Device.intake_with_tbl]

theorem Device.intake_sendFlow : (d.sendFlow c slice).2.intake = d.intake := by
  simp only [Device.sendFlow]
  split
  · rfl
  · rw [Device.intake_tblCount]

theorem Device.intake_flowStart : (d.flowStart c slice key).2.intake = d.intake := by
  have hcache := d.intake_cacheLookup slice key
  unfold Device.flowStart
  split
  next d1 heq =>
    rw [heq] at hcache
    exact hcache
  next d1 heq =>
    rw [heq] at hcache
    dsimp only
    split <;> exact (d1.intake_sendFlow c slice).trans hcache

theorem Device.intake_learnQueue (l : Learn) : (d.learnQueue slice l).intake = d.intake := by
  simp only [Device.learnQueue]
  split
  · rfl
  · split
    · rw [Device.intake_tblCount]
    · rfl

theorem Device.intake_learnCheck (port action : Nat) : (d.learnCheck c slice key port action).intake = d.intake := by
  simp only [Device.learnCheck]
  split
  · split
    · rfl
    · split
      · rfl
      · exact d.intake_learnQueue slice _
  · exact d.intake_learnQueue slice _

theorem Device.intake_learnPass (port bd : Nat) (frame : Bytes) : (d.learnPass c slice port bd frame).intake = d.intake := by
  unfold Device.learnPass
  split
  · split
    · exact d.intake_learnCheck ..
    · rfl
  · rfl

theorem Device.intake_pipelineLookup (profile port n : Nat) (frame : Bytes) (segs : List (Nat × Bool)) (found : WinnerCheck) :
    (d.pipelineLookup c slice profile port n frame segs found).2.2.intake = d.intake := by
  simp only [Device.pipelineLookup]
  split
  · rfl
  · split
    · exact d.intake_parseCount slice 5 1
    next key _ =>
      split
      · have hflow := d.intake_flowStart c slice key
        generalize d.flowStart c slice key = r at hflow ⊢
        obtain ⟨_ | v, d1⟩ := r <;> exact hflow
      · split
        · exact (Device.intake_learnPass ..).trans (Device.intake_lookup ..)
        · exact Device.intake_lookup ..

theorem Device.intake_pipelineLookups (profile record : Nat) (frame : Bytes) (segs : List (Nat × Bool)) (winners : NMap WinnerCheck) :
    (d.pipelineLookups c slice profile record frame segs winners).dev.intake = d.intake :=
  List.foldlRecOn _ _ (motive := fun (l : Looked) => l.dev.intake = d.intake) rfl fun l ih _ _ => (l.dev.intake_pipelineLookup ..).trans ih

theorem Device.intake_pass (record : Nat) (frame : Bytes) (recirc injected : Bool) (winners : NMap WinnerCheck) :
    (d.pass c slice record frame recirc injected winners).looked.dev.intake = d.intake := by
  refine (Device.intake_pipelineLookups ..).trans ?_
  simp only [Device.countPass, apply_ite Device.intake, Device.intake_parseCount, ite_self]

end

/-! ### Arrival at a cluster (R106, R109) -/

/-- One packet at two places of its way through its cluster. -/
structure Flight.SamePacket (g f : Flight) : Prop where
  id : g.id = f.id
  slice : g.slice = f.slice
  bucket : g.bucket = f.bucket
  seq : g.seq = f.seq
  cluster : g.cluster = f.cluster
  bytes : g.bytes = f.bytes
  pool : g.pool = f.pool

/-- From `d` to `d'`, a packet has come to a place of its cluster: its input, its hold space, or its end where it is discarded. -/
def Device.Lands (d d' : Device) (f : Flight) : Prop :=
  ∃ g : Flight, g.SamePacket f ∧ g.place ≠ .recirc ∧ d'.intake = (d.setFlight g).intake

section
variable {d d' : Device} {f g : Flight} {cl : Nat}

theorem Device.intake_setFlight (h : d'.intake = d.intake) : (d'.setFlight g).intake = (d.setFlight g).intake := by
  simp only [Device.intake, Prod.mk.injEq] at h
  obtain ⟨hports, hpipe, hseq, hflights⟩ := h
  simp only [Device.intake, Device.setFlight, hports, hpipe, hseq, hflights]

theorem Device.Lands.of_setFlight (hg : g.SamePacket f) (hp : g.place ≠ .recirc) (h : d'.intake = d.intake) :
    d.Lands (d'.setFlight g) f :=
  ⟨g, hg, hp, Device.intake_setFlight h⟩

theorem Device.Lands.discard (hg : g.SamePacket f) (h : d'.intake = d.intake) : d.Lands (d'.discard g) f := by
  unfold Device.discard
  have hended : ({ g with place := .ended, verdict := some (0, 0), mirrors := [], flowKey := none, flowLost := none } :
      Flight).SamePacket f := ⟨hg.id, hg.slice, hg.bucket, hg.seq, hg.cluster, hg.bytes, hg.pool⟩
  refine .of_setFlight hended (by simp) ?_
  split <;> exact h

theorem Device.Lands.fenceDiscard (hg : g.SamePacket f) (h : d'.intake = d.intake) : d.Lands (d'.fenceDiscard cl [g]) f := by
  obtain ⟨x, hx, hp, hd⟩ := Device.Lands.discard hg h
  have hbarriers (bs : List Barrier) (e : Device) : ({ e with sl := { e.sl with barriers := bs } } : Device).intake = e.intake := (rfl)
  exact ⟨x, hx, hp, ((hbarriers _ _).trans (Device.intake_clCount ..)).trans hd⟩

theorem Device.arrive_lands (barred : Bool) : d.Lands (d.arrive f barred) f := by
  have hsame (p : Place) : ({ f with arrived := d.nextArrival.1, place := p } : Flight).SamePacket f :=
    ⟨rfl, rfl, rfl, rfl, rfl, rfl, rfl⟩
  have hnext : d.nextArrival.2.intake = d.intake := rfl
  have hwake (e : Device) (v : Nat) : (e.setClusterPower f.cluster v).intake = e.intake := (rfl)
  simp only [Device.arrive]
  split
  · exact .fenceDiscard (hsame f.place) hnext
  · split
    · split
      · refine .of_setFlight (hsame .held) (by simp) ?_
        split
        · exact (hwake ..).trans hnext
        · exact hnext
      · exact .discard (hsame f.place) ((Device.intake_parseCount ..).trans hnext)
    · split
      · exact .discard (hsame f.place) ((Device.intake_clCount ..).trans hnext)
      · exact .of_setFlight (hsame .input) (by simp) hnext

/-- A packet in flight that lands is still in flight. -/
theorem Device.Lands.mem {x : Flight} (h : d.Lands d' f) (hx : x ∈ d.sl.flights) (hid : x.id = f.id) :
    ∃ g ∈ d'.sl.flights, g.SamePacket f ∧ g.place ≠ .recirc := by
  obtain ⟨g, hg, hp, hd⟩ := h
  refine ⟨g, ?_, hg, hp⟩
  have hflights : d'.sl.flights = (d.setFlight g).sl.flights := congrArg (·.2.2.2) hd
  rw [hflights]
  exact List.mem_map.mpr ⟨x, hx, if_pos (hid.trans hg.id.symm)⟩

/-- Nothing else that the parser reads changes as a packet lands. -/
theorem Device.Lands.fifos (h : d.Lands d' f) :
    d'.ports = d.ports ∧ d'.mgmt.pipeline = d.mgmt.pipeline ∧ d'.sl.seqNext = d.sl.seqNext := by
  obtain ⟨g, _, _, hd⟩ := h
  exact ⟨congrArg (·.1) hd, congrArg (·.2.1) hd, congrArg (·.2.2.1) hd⟩

end

/-! ### The first pass (R105, R106, R233) -/

section
variable {s : State} {d : Device} {c : Clk} {sl port stamp : Nat} {frame bytes : Bytes} {pool : Option Nat} {bad : NMap WinnerCheck}
  {p : Pass}

/-- A steered packet takes the next number of the bucket its hash names and enters that bucket's cluster (R105, R106). -/
theorem Device.steer_lands : ∃ (d1 : Device) (f : Flight), d1.Lands (d.steer sl p frame bytes pool) f ∧ f ∈ d1.sl.flights
    ∧ d1.ports = d.ports ∧ d1.mgmt.pipeline = d.mgmt.pipeline
    ∧ d1.sl.seqNext = mapSet d.sl.seqNext (sl * 4096 + p.steer % 4096)
        ((mapGet d.sl.seqNext (sl * 4096 + p.steer % 4096) 0 + 1) % 65536) 0
    ∧ f.id = d.sl.nextId ∧ f.slice = sl ∧ f.bucket = p.steer % 4096 ∧ f.seq = mapGet d.sl.seqNext (sl * 4096 + p.steer % 4096) 0
    ∧ f.cluster = d.bucketCluster sl (p.steer % 4096) ∧ f.bytes = bytes ∧ f.pool = pool :=
  ⟨_, _, Device.arrive_lands _, List.mem_append_right _ List.mem_cons_self, rfl, rfl, rfl, rfl, rfl, rfl, rfl, rfl, rfl, rfl⟩

/-- A first pass that has room puts its packet in flight in its bucket's cluster, counts the bucket's number on, and leaves the FIFOs. -/
theorem Device.firstPass_places (h : tailCells frame = 0 ∨ d.ingressUsed sl + tailCells frame ≤ 32768) :
    let p := d.pass c sl (at_ 487 480 port + at_ 447 416 c.short) frame false pool.isSome bad
    let b := p.steer % 4096
    let d1 := p.looked.dev
    let seq := mapGet d1.sl.seqNext (sl * 4096 + b) 0
    let d' := d.firstPass c sl port frame stamp pool bad
    ∃ f ∈ d'.sl.flights, (f.id = d1.sl.nextId ∧ f.slice = sl ∧ f.bucket = b ∧ f.seq = seq ∧ f.cluster = d1.bucketCluster sl b
        ∧ f.bytes = (if d.get Obj.timeRxStamp port = 1 then stampFrame frame p.out.slots stamp else frame) ∧ f.pool = pool)
      ∧ d'.ports = d.ports ∧ d'.mgmt.pipeline = d.mgmt.pipeline ∧ mapGet d'.sl.seqNext (sl * 4096 + b) 0 = (seq + 1) % 65536 := by
  intro p b d1 seq d'
  have hpass : d1.intake = d.intake := Device.intake_pass ..
  have hsteer : d' = d1.steer sl p frame (if d.get Obj.timeRxStamp port = 1 then stampFrame frame p.out.slots stamp else frame) pool :=
    if_neg (by omega)
  obtain ⟨d2, f, hlands, hf, hports, hpipe, hnext, hid, hslice, hbucket, hseq, hcluster, hbytes, hpool⟩ := Device.steer_lands (d := d1)
    (sl := sl) (p := p) (frame := frame) (pool := pool)
    (bytes := if d.get Obj.timeRxStamp port = 1 then stampFrame frame p.out.slots stamp else frame)
  rw [← hsteer] at hlands
  obtain ⟨g, hg, hsame, _⟩ := hlands.mem hf rfl
  obtain ⟨hports', hpipe', hnext'⟩ := hlands.fifos
  refine ⟨g, hg, ⟨hsame.id.trans hid, hsame.slice.trans hslice, hsame.bucket.trans hbucket, hsame.seq.trans hseq,
    hsame.cluster.trans hcluster, hsame.bytes.trans hbytes, hsame.pool.trans hpool⟩, ?_, ?_, ?_⟩
  · exact (hports'.trans hports).trans (congrArg (·.1) hpass)
  · exact (hpipe'.trans hpipe).trans (congrArg (·.2.1) hpass)
  · rw [hnext', hnext]
    exact mapGet_mapSet_same _ _ _ _

theorem exec_parsePass (src : PassSource) (hsl : sl < 4) (hfwd : s.dev.forwarding = true) :
    exec (.parsePass sl src bad) s = .next { s with dev := s.dev.parse s.clk sl src bad } := by
  simp only [exec, execParsePass, Instr.wf, hsl, decide_true, onDev_true, hfwd, if_true]

theorem Device.parse_receive {x : RxFrame} {rest : List RxFrame} (hp : port / 64 = sl) (hr : d.recircReady c sl = false)
    (hq : mapGet d.ports.fifo port [] = x :: rest) :
    d.parse c sl (.receive port) bad = ({ d with ports := { d.ports with fifo := mapSet d.ports.fifo port rest [] } }).firstPass c sl port
      x.frame x.stamp none bad := by
  simp only [Device.parse, hp, hr, hq, ne_eq, not_true_eq_false, Bool.false_eq_true, or_self, if_false]

theorem Device.parse_inject {x : Inject} {rest : List Inject} (hp : x.port / 64 = sl) (hr : d.recircReady c sl = false)
    (hq : d.mgmt.pipeline = x :: rest) :
    d.parse c sl .inject bad = ({ d with mgmt := { d.mgmt with pipeline := rest } }).firstPass c sl x.port x.packet c.short
      (some x.pool) bad := by
  simp only [Device.parse, hp, hr, hq, ne_eq, not_true_eq_false, Bool.false_eq_true, or_self, if_false]

end

/-! ### An extra pass (R106, R112, R113) -/

section
variable {d : Device} {c : Clk} {sl : Nat} {f : Flight} {bad : NMap WinnerCheck}

theorem Device.recircHead_waits (h : d.recircHead sl = some f) : f ∈ d.sl.flights := by
  have hmem : ∀ g, d.recircHead sl = some g → g ∈ d.sl.flights.filter fun f => f.slice == sl && f.place == .recirc := by
    refine List.foldlRecOn
      (motive := fun best => ∀ g, best = some g → g ∈ d.sl.flights.filter fun f => f.slice == sl && f.place == .recirc)
      _ _ (fun g hg => absurd hg.symm (Option.some_ne_none g)) (fun best ih x hx g hg => ?_)
    split at hg
    · split at hg
      · exact Option.some.inj hg ▸ hx
      · exact ih g hg
    · exact Option.some.inj hg ▸ hx
  exact (List.mem_filter.mp (hmem f h)).1

theorem Device.recircReady_iff (h : d.recircHead sl = some f) :
    d.recircReady c sl = true ↔ mapGet d.sl.recircFree sl 0 ≤ c.ticks * 160 := by
  simp [Device.recircReady, h]

theorem Device.parse_recirculation (hh : d.recircHead sl = some f) (hr : d.recircReady c sl = true) :
    d.parse c sl .recirculation bad = (d.useRecirc c sl f.bytes.length).extraPass c f bad := by
  simp only [Device.parse, hh, hr, if_true]

/-- While a recirculated packet can enter, the other FIFOs wait (R113). -/
theorem Device.parse_receive_waits (port : Nat) (hr : d.recircReady c sl = true) : d.parse c sl (.receive port) bad = d :=
  if_pos (.inr hr)

theorem Device.parse_inject_waits (hr : d.recircReady c sl = true) : d.parse c sl .inject bad = d := by
  simp only [Device.parse]
  split
  · rfl
  · exact if_pos (Or.inr hr)

/-- An extra pass keeps its packet's bucket and number (R112). -/
theorem Device.extraPass_lands :
    ∃ (d1 : Device) (g : Flight), d1.Lands (d.extraPass c f bad) g ∧ g.SamePacket f ∧ d1.intake = d.intake :=
  ⟨_, _, Device.arrive_lands _, ⟨rfl, rfl, rfl, rfl, rfl, rfl, rfl⟩, Device.intake_pass ..⟩

end

/-- Settles O26: the lookups of a pass leave the FIFOs and the packets in flight, and the packet lands in its bucket's cluster. -/
theorem parsePass : Obligations.ParsePass := by
  refine ⟨?receive, ?inject, ?recirculation⟩
  case receive =>
    intro s sl port bad x rest hsl hport hfwd hready hq d0 hroom p b d1 seq
    obtain ⟨f, hf, ⟨hid, hslice, hbucket, hseq, hcluster, hbytes, _⟩, hports, _, hnext⟩ :=
      Device.firstPass_places (d := d0) (c := s.clk) (port := port) (stamp := x.stamp) (pool := none) (bad := bad) hroom
    refine ⟨_, f, exec_parsePass (.receive port) hsl hfwd, ?_⟩
    rw [Device.parse_receive hport hready hq]
    refine ⟨?_, hf, hid, hslice, hbucket, hseq, hcluster, hnext, hbytes⟩
    rw [hports]
    exact mapGet_mapSet_same _ _ _ _
  case inject =>
    intro s sl bad x rest hsl hport hfwd hready hq d0 hroom
    obtain ⟨f, hf, ⟨_, hslice, _, _, _, _, hpool⟩, _, hpipe, _⟩ :=
      Device.firstPass_places (d := d0) (c := s.clk) (port := x.port) (stamp := s.clk.short) (pool := some x.pool) (bad := bad) hroom
    refine ⟨_, f, exec_parsePass .inject hsl hfwd, ?_⟩
    rw [Device.parse_inject hport hready hq]
    exact ⟨hpipe, hf, hslice, hpool⟩
  case recirculation =>
    intro s sl bad f hsl hfwd hhead hfree
    have hready := (Device.recircReady_iff hhead).mpr hfree
    refine ⟨?pass, fun port => ?receiveWaits, ?injectWaits⟩
    case pass =>
      obtain ⟨d1, g, hlands, hsame, hpass⟩ :=
        Device.extraPass_lands (d := s.dev.useRecirc s.clk sl f.bytes.length) (c := s.clk) (f := f) (bad := bad)
      have hflights : d1.sl.flights = s.dev.sl.flights := congrArg (·.2.2.2) hpass
      obtain ⟨k, hk, hkeeps, hplace⟩ := hlands.mem (hflights ▸ Device.recircHead_waits hhead) hsame.id.symm
      refine ⟨_, k, exec_parsePass .recirculation hsl hfwd, ?_⟩
      rw [Device.parse_recirculation hhead hready]
      exact ⟨hk, hkeeps.id.trans hsame.id, hkeeps.bucket.trans hsame.bucket, hkeeps.seq.trans hsame.seq, hplace,
        hkeeps.bytes.trans hsame.bytes⟩
    case receiveWaits => rw [exec_parsePass _ hsl hfwd, Device.parse_receive_waits port hready]
    case injectWaits => rw [exec_parsePass _ hsl hfwd, Device.parse_inject_waits hready]

end Sys2Proof.Machine
end

section
/-! PROOFS. TCAM rows (R148 to R153, R156): a row read after one is stored or cleared, what the records of a bad row leave, and the cases
of each command. -/

namespace Sys2Proof.Machine

/-! ### The rows of the store (R143) -/

section
variable (d : Device) {slice slice' bank bank' r r' : Nat}

/-- Rows of the banks in range have keys of their own. -/
theorem rowKey_inj (hb : bank < 12) (hr : r < 2048) (hb' : bank' < 12) (hr' : r' < 2048) :
    rowKey slice bank r = rowKey slice' bank' r' ↔ slice = slice' ∧ bank = bank' ∧ r = r' := by
  unfold rowKey
  omega

@[simp] theorem Device.tcamRow_setTcamRow_same (x : TcamRow) : (d.setTcamRow slice bank r x).tcamRow slice bank r = x :=
  mapGet_mapSet_same ..

theorem Device.tcamRow_setTcamRow_other (x : TcamRow) (hb : bank < 12) (hr : r < 2048) (hb' : bank' < 12) (hr' : r' < 2048)
    (h : (slice', bank', r') ≠ (slice, bank, r)) :
    (d.setTcamRow slice bank r x).tcamRow slice' bank' r' = d.tcamRow slice' bank' r' := by
  refine mapGet_mapSet_other _ _ _ _ _ _ fun hkey => h ?_
  obtain ⟨rfl, rfl, rfl⟩ := (rowKey_inj hb hr hb' hr').mp hkey
  rfl

/-- A new time of change in a group's first bank leaves the key that a bank holds. -/
theorem Device.restamped_key (t : Nat) (hb : bank < 12) (hr : r < 2048) (hb' : bank' < 12) :
    let y := (d.setTcamRow slice bank r { d.tcamRow slice bank r with changed := t }).tcamRow slice bank' r
    let old := d.tcamRow slice bank' r
    y.value = old.value ∧ y.mask = old.mask ∧ y.written = old.written := by
  intro y old
  by_cases h : bank' = bank
  · subst h
    have hy : y = { old with changed := t } := d.tcamRow_setTcamRow_same _
    exact hy ▸ ⟨rfl, rfl, rfl⟩
  · have hy : y = old := d.tcamRow_setTcamRow_other _ hb hr hb' hr (by simp [h])
    exact hy ▸ ⟨rfl, rfl, rfl⟩

theorem Device.clearRow_succ (f w : Nat) :
    d.clearRow slice f (w + 1) r = (d.clearRow slice f w r).setTcamRow slice (f + w) r TcamRow.empty := by
  simp only [Device.clearRow, List.range_succ, List.foldl_append, List.foldl_cons, List.foldl_nil]

/-- A cleared row is empty in every bank of its group, and every other row stays. -/
theorem Device.tcamRow_clearRow {f w : Nat} (hw : f + w ≤ 12) (hr : r < 2048) (hb' : bank' < 12) (hr' : r' < 2048) :
    (d.clearRow slice f w r).tcamRow slice' bank' r'
      = if slice' = slice ∧ f ≤ bank' ∧ bank' < f + w ∧ r' = r then TcamRow.empty else d.tcamRow slice' bank' r' := by
  induction w with
  | zero => exact (if_neg (by omega)).symm
  | succ w ih =>
    rw [Device.clearRow_succ]
    by_cases h : (slice', bank', r') = (slice, f + w, r)
    · obtain ⟨rfl, rfl, rfl⟩ : slice' = slice ∧ bank' = f + w ∧ r' = r := by simpa using h
      rw [Device.tcamRow_setTcamRow_same, if_pos (by omega)]
    · have hne : ¬(slice' = slice ∧ bank' = f + w ∧ r' = r) := by simpa using h
      rw [Device.tcamRow_setTcamRow_other _ _ (by omega) hr hb' hr' h, ih (by omega)]
      exact ite_cond_congr (propext (by omega))

end

/-! ### What the records of a bad row leave (R153, R155, R156) -/

section
variable (d : Device) (c : Clk) {slice : Nat}

/-- The TCAM's rows and a slice's counters. -/
def Device.tcamView (slice : Nat) (d : Device) : NMap TcamRow × Nat := (d.tbl.tcam, d.get Obj.tcamCounters slice)

theorem Device.tcamView_iff {d d' : Device} : d'.tcamView slice = d.tcamView slice
    ↔ d'.tbl.tcam = d.tbl.tcam ∧ d'.get Obj.tcamCounters slice = d.get Obj.tcamCounters slice := by
  simp only [Device.tcamView, Prod.mk.injEq]

theorem Device.tcamView_set {o e : Nat} (v : Nat) (h : chartKey o e ≠ chartKey Obj.tcamCounters slice) :
    (d.set o e v).tcamView slice = d.tcamView slice :=
  congrArg (Prod.mk d.tbl.tcam) (d.get_set_other o e v _ _ h)

theorem Device.tcamView_raise (src tgt code : Nat) : (d.raise src tgt code).tcamView slice = d.tcamView slice := by
  simp only [Device.tcamView, Device.raise_tbl, Device.raise_get]

theorem Device.tcamView_sendOwn (port : Nat) (f : Bytes) : (d.sendOwn port f).tcamView slice = d.tcamView slice := by
  rw [Device.sendOwn_frame]
  rfl

/-- An unsent notification counts in BDP.Count, below the TCAM's objects. -/
theorem Device.tcamView_notify (o e : Nat) : (d.notify o e).tcamView slice = d.tcamView slice := by
  refine foldl_keeps (Device.tcamView slice) _ (fun d sup => ?_) _ _
  have hport : d.unsentPort sup < 2 := by
    unfold Device.unsentPort
    split
    · exact Nat.mod_lt _ (by decide)
    · split <;> decide
  unfold Device.notifyOne
  split
  · exact d.tcamView_set _ (by unfold chartKey Obj.bdpCount Obj.tcamCounters; omega)
  · split
    · rfl
    · exact Device.tcamView_sendOwn _ _ _

/-- A record lies above the counters in the Chart. -/
theorem Device.tcamView_logTcam (cause bank row : Nat) (hs : slice < 4) :
    (d.logTcam c cause slice bank row).tcamView slice = d.tcamView slice := by
  have hlog (e : Nat) : chartKey Obj.tcamErrorLog e ≠ chartKey Obj.tcamCounters slice := by
    unfold chartKey Obj.tcamErrorLog Obj.tcamCounters
    omega
  have hcount : chartKey Obj.tcamErrorCount slice ≠ chartKey Obj.tcamCounters slice := by
    unfold chartKey Obj.tcamErrorCount Obj.tcamCounters
    omega
  simp only [Device.logTcam, apply_ite (Device.tcamView slice), Device.tcamView_notify, Device.tcamView_set _ _ hcount,
    Device.tcamView_set _ _ (hlog _), ite_self]

theorem Device.tcamView_countInvalid (bank : Nat) : (d.countInvalid c slice bank).tcamView slice = d.tcamView slice := by
  simp only [Device.countInvalid, apply_ite (Device.tcamView slice), Device.tcamView_raise]
  exact ite_self _

/-- A bad row is cleared and counted, whatever is recorded and reported of it. -/
theorem Device.tcamView_rowError (cause row bank : Nat) (hs : slice < 4) :
    (d.rowError c cause slice row bank).tcamView slice
      = ((d.clearRow slice (row / 2048) (d.bankWidth slice (row / 2048)) (row % 2048)).tcamCount slice 3 1).tcamView slice := by
  simp only [Device.rowError, apply_ite (Device.tcamView slice), Device.tcamView_countInvalid, Device.tcamView_raise,
    Device.tcamView_logTcam _ _ _ _ _ hs, ite_self]

theorem Device.tcamRow_tcamCount (k n slice' bank' r' : Nat) :
    (d.tcamCount slice k n).tcamRow slice' bank' r' = d.tcamRow slice' bank' r' := (rfl)

theorem Device.tcamRow_rowError (cause row bank slice' bank' r' : Nat) (hs : slice < 4) :
    (d.rowError c cause slice row bank).tcamRow slice' bank' r'
      = (d.clearRow slice (row / 2048) (d.bankWidth slice (row / 2048)) (row % 2048)).tcamRow slice' bank' r' := by
  obtain ⟨htcam, -⟩ := Device.tcamView_iff.mp (d.tcamView_rowError c cause row bank hs)
  rw [Device.tcamRow, htcam, ← Device.tcamRow, Device.tcamRow_tcamCount]

@[simp] theorem Device.get_clearRow (f w r o e : Nat) : (d.clearRow slice f w r).get o e = d.get o e :=
  foldl_keeps (Device.get · o e) (fun d k => d.setTcamRow slice (f + k) r TcamRow.empty) (fun _ _ => rfl) _ _

/-- A bad row advances RowsInvalidated (Table 7.7). -/
theorem Device.rowsInvalidated_rowError (cause row bank : Nat) (hs : slice < 4) :
    (d.rowError c cause slice row bank).rd Obj.tcamCounters slice 191 128 = (d.rd Obj.tcamCounters slice 191 128 + 1) % 2 ^ 64 := by
  obtain ⟨-, hget⟩ := Device.tcamView_iff.mp (d.tcamView_rowError c cause row bank hs)
  rw [Device.rd, hget, ← Device.rd, Device.tcamCount, Device.rd_bump_same _ _ _ 6 3 1, Device.rd, Device.get_clearRow]
  rfl

end

/-! ### The commands on a row (R148 to R150) -/

section
variable {d : Device} {c : Clk} {slice row comp control key : Nat}

/-- A command on a row of a group with a fenced bank ends FENCED and changes nothing (R156). -/
theorem Device.rowCommands_fenced (h : d.groupFenced slice (row / 2048) = true) :
    d.tcKey c slice row comp key = (d, csFenced, 0) ∧ d.tcInsert c slice row control = (d, csFenced, 0)
      ∧ d.tcUpdate c slice row control = (d, csFenced, 0) ∧ d.tcDelete c slice row = (d, csFenced, 0) :=
  ⟨if_pos h, if_pos h, if_pos h, if_pos h⟩

/-- A device with a component's key stored under its mask. -/
def Device.storeKey (d : Device) (slice row comp key : Nat) : Device :=
  d.setTcamRow slice (row / 2048 + comp) (row % 2048) { d.tcamRow slice (row / 2048 + comp) (row % 2048) with
    value := fld key 319 160 &&& fld key 159 0, mask := fld key 159 0, written := true }

section
variable (hopen : d.groupFenced slice (row / 2048) = false) (hfree : (d.tcamRow slice (row / 2048) (row % 2048)).valid = false)
include hopen hfree

theorem Device.tcKey_stores : d.tcKey c slice row comp key
    = ((d.storeKey slice row comp key).setTcamRow slice (row / 2048) (row % 2048)
        { (d.storeKey slice row comp key).tcamRow slice (row / 2048) (row % 2048) with changed := c.time80 }, csOk, row) := by
  simp only [Device.tcKey, Device.storeKey, hopen, hfree, Bool.false_eq_true, if_false]

theorem Device.tcInsert_complete (h : d.keyComplete slice (row / 2048) (row % 2048) = true) : d.tcInsert c slice row control
    = (d.setTcamRow slice (row / 2048) (row % 2048) { d.tcamRow slice (row / 2048) (row % 2048) with
        valid := true, priority := fld control 127 112, data := fld control 63 0, changed := c.time80 }, csOk, row) := by
  simp only [Device.tcInsert, hopen, hfree, h, Bool.false_eq_true, if_false, if_true]

theorem Device.tcInsert_incomplete (h : d.keyComplete slice (row / 2048) (row % 2048) = false) :
    d.tcInsert c slice row control = (d, csBusy, 0) := by
  simp only [Device.tcInsert, hopen, hfree, h, Bool.false_eq_true, if_false]

theorem Device.tcDelete_invalid : d.tcDelete c slice row = (d, csNotFound, 0) := by
  simp only [Device.tcDelete, hopen, hfree, Bool.false_eq_true, if_false]

theorem Device.tcUpdate_invalid : d.tcUpdate c slice row control = (d, csNotFound, 0) := by
  simp only [Device.tcUpdate, hopen, hfree, Bool.false_eq_true, if_false]

end

section
variable (hopen : d.groupFenced slice (row / 2048) = false) (hheld : (d.tcamRow slice (row / 2048) (row % 2048)).valid = true)
include hopen hheld

theorem Device.tcKey_valid : d.tcKey c slice row comp key = (d, csBusy, 0) := by
  simp only [Device.tcKey, hopen, hheld, Bool.false_eq_true, if_false, if_true]

theorem Device.tcInsert_valid : d.tcInsert c slice row control = (d, csExists, row) := by
  simp only [Device.tcInsert, hopen, hheld, Bool.false_eq_true, if_false, if_true]

theorem Device.tcUpdate_valid : d.tcUpdate c slice row control
    = (d.setTcamRow slice (row / 2048) (row % 2048) { d.tcamRow slice (row / 2048) (row % 2048) with
        priority := fld control 127 112, data := fld control 63 0, changed := c.time80 }, csOk, row) := by
  simp only [Device.tcUpdate, hopen, hheld, Bool.false_eq_true, if_false, if_true]

theorem Device.tcDelete_valid : d.tcDelete c slice row
    = (d.setTcamRow slice (row / 2048) (row % 2048) { d.tcamRow slice (row / 2048) (row % 2048) with
        valid := false, changed := c.time80 }, csOk, row) := by
  simp only [Device.tcDelete, hopen, hheld, Bool.false_eq_true, if_false, if_true]

end
end

/-! ### The scrub's visits (R152, R153) -/

section
variable {s : State} {sl row k : Nat} {finding : RowFinding}

/-- The scrub changes nothing in a group with a fenced bank, and nothing on a row that is clean or has a single wrong data bit. -/
theorem exec_tcamScrubVisit_keeps (hsl : sl < 4) (hrow : row < 24576) (hk : k < 4)
    (h : s.dev.groupFenced sl (row / 2048) = true ∨ finding = .clean ∨ finding = .dataSingle) :
    exec (.tcamScrubVisit sl row k finding) s = .next s := by
  have hwf : (Instr.tcamScrubVisit sl row k finding).wf = true := decide_eq_true ⟨hsl, hrow, hk⟩
  simp only [exec, execTcamScrubVisit, hwf, onDev_true]
  rcases h with hfenced | rfl | rfl
  · simp only [hfenced, Bool.not_true, Bool.and_false, Bool.false_eq_true, if_false]
  · simp only [ite_self]
  · simp only [ite_self]

/-- A row whose check fails in an ACTIVE bank is an error of some cause and bank. -/
theorem exec_tcamScrubVisit_fails (hsl : sl < 4) (hrow : row < 24576) (hk : k < 4) (htable : s.dev.bankTable sl (row / 2048) ≠ none)
    (hfirst : row / 2048 % s.dev.bankWidth sl (row / 2048) = 0) (hcomp : k < s.dev.bankWidth sl (row / 2048))
    (hopen : s.dev.groupFenced sl (row / 2048) = false) (hbad : finding = .parity ∨ finding = .dataDouble) :
    ∃ cause bank, exec (.tcamScrubVisit sl row k finding) s = .next { s with dev := s.dev.rowError s.clk cause sl row bank } := by
  have hwf : (Instr.tcamScrubVisit sl row k finding).wf = true := decide_eq_true ⟨hsl, hrow, hk⟩
  have hactive : ((s.dev.bankTable sl (row / 2048)).isSome && row / 2048 % s.dev.bankWidth sl (row / 2048) == 0
      && decide (k < s.dev.bankWidth sl (row / 2048)) && !s.dev.groupFenced sl (row / 2048)) = true := by
    simp [Option.isSome_iff_ne_none, htable, hfirst, hcomp, hopen]
  simp only [exec, execTcamScrubVisit, hwf, onDev_true, hactive, if_true]
  rcases hbad with rfl | rfl
  · exact ⟨_, _, rfl⟩
  · exact ⟨_, _, rfl⟩

end

/-- Settles O20: each command is a row stored, or a status alone, and the scrub clears a bad row in every bank of its group. -/
theorem tcamRows : Obligations.TcamRows := by
  refine ⟨?commands, ?scrub⟩
  case commands =>
    intro d c slice row comp control key _ hrow hbanks f r old keeps
    have hf : f < 12 := by omega
    have hr : r < 2048 := Nat.mod_lt _ (by decide)
    have hkeeps (x : TcamRow) : keeps (d.setTcamRow slice f r x) f :=
      fun sl bank r' _ hbank hr' hne _ => d.tcamRow_setTcamRow_other x hf hr hbank hr' hne
    refine ⟨Device.rowCommands_fenced, fun hopen hfree => ?invalid, fun hopen hheld => ?valid⟩
    case invalid =>
      rw [Device.tcKey_stores hopen hfree]
      refine ⟨rfl, ?keyStored, ?keyKeeps, fun hkey => ?inserted, Device.tcInsert_incomplete hopen hfree,
        Device.tcDelete_invalid hopen hfree, Device.tcUpdate_invalid hopen hfree⟩
      case keyStored =>
        rintro y rfl
        have hstamp := (d.storeKey slice row comp key).restamped_key (slice := slice) c.time80 hf hr hbanks
        rwa [Device.storeKey, Device.tcamRow_setTcamRow_same] at hstamp
      case keyKeeps =>
        intro sl bank r' _ hbank hr' hfirst hcomp
        rw [Device.tcamRow_setTcamRow_other _ _ hf hr hbank hr' hfirst]
        exact d.tcamRow_setTcamRow_other _ hbanks hr hbank hr' hcomp
      case inserted =>
        rw [Device.tcInsert_complete hopen hfree hkey]
        exact ⟨rfl, d.tcamRow_setTcamRow_same _, hkeeps _⟩
    case valid =>
      rw [Device.tcUpdate_valid hopen hheld, Device.tcDelete_valid hopen hheld]
      exact ⟨Device.tcKey_valid hopen hheld, Device.tcInsert_valid hopen hheld, rfl, d.tcamRow_setTcamRow_same _, hkeeps _, rfl,
        d.tcamRow_setTcamRow_same _, hkeeps _⟩
  case scrub =>
    intro s sl row k finding hsl hrow hk f w
    have hr : row % 2048 < 2048 := Nat.mod_lt _ (by decide)
    refine ⟨fun hfenced => exec_tcamScrubVisit_keeps hsl hrow hk (.inl hfenced), fun htable hfirst hcomp hopen hw => ⟨?clean, ?single,
      fun hbad => ?bad⟩⟩
    case clean => exact exec_tcamScrubVisit_keeps hsl hrow hk (.inr (.inl rfl))
    case single => exact exec_tcamScrubVisit_keeps hsl hrow hk (.inr (.inr rfl))
    case bad =>
      obtain ⟨cause, bank, hexec⟩ := exec_tcamScrubVisit_fails hsl hrow hk htable hfirst hcomp hopen hbad
      refine ⟨_, hexec, fun b hlo hhi => ?cleared, fun sl' b r _ hb hr' hother => ?kept,
        s.dev.rowsInvalidated_rowError s.clk cause row bank hsl⟩
      case cleared =>
        rw [Device.tcamRow_rowError _ _ _ _ _ _ _ _ hsl, Device.tcamRow_clearRow _ hw hr (by omega) hr]
        exact if_pos ⟨rfl, hlo, hhi, rfl⟩
      case kept =>
        rw [Device.tcamRow_rowError _ _ _ _ _ _ _ _ hsl, Device.tcamRow_clearRow _ hw hr hb hr']
        exact if_neg (by omega)

end Sys2Proof.Machine
end

section
/-! PROOFS. The microword's encoding (O6, R191): its fields are joined and parted again without loss. -/

namespace Sys2Proof.Machine

/-- Joined bit vectors are equal only part by part. -/
theorem bitVec_append_inj {n k : Nat} {hi hi' : BitVec n} {lo lo' : BitVec k} (h : hi ++ lo = hi' ++ lo') : hi = hi' ∧ lo = lo' := by
  have hhi := congrArg (BitVec.extractLsb' k n) h
  have hlo := congrArg (BitVec.extractLsb' 0 k) h
  rw [BitVec.extractLsb'_append_eq_left, BitVec.extractLsb'_append_eq_left] at hhi
  rw [BitVec.extractLsb'_append_eq_right, BitVec.extractLsb'_append_eq_right] at hlo
  exact ⟨hhi, hlo⟩

/-- No field of a microword is dropped from its word or overlaps another: the 31 joins of the 32 fields are undone from the lowest field up. -/
theorem encodeWord_injective : Function.Injective encodeWord := by
  rintro ⟨⟩ ⟨⟩ h
  simp only [encodeWord] at h
  iterate 31
    replace h := bitVec_append_inj h
    obtain ⟨h, rfl⟩ := h
  rw [h]

/-- Each field of Table 9.1 begins where the one above it ends, so that the 31 joins give the whole word again. -/
theorem encodeWord_decodeWord (w : BitVec 192) : encodeWord (decodeWord w) = w := by
  simp only [encodeWord, decodeWord]
  iterate 31 rw [BitVec.extractLsb'_append_extractLsb'_eq_extractLsb' (by rfl)]
  exact BitVec.extractLsb'_eq_self

theorem decodeWord_encodeWord (m : Microword) : decodeWord (encodeWord m) = m :=
  encodeWord_injective (encodeWord_decodeWord (encodeWord m))

/-- Settles O6: a word's fields give the word again, and no two microwords have one word. -/
theorem microwordEncoding : Obligations.MicrowordEncoding := ⟨decodeWord_encodeWord, encodeWord_decodeWord⟩

end Sys2Proof.Machine
end

section
/-! PROOFS. The ALUs' flags (R205, Table 9.7): what each bit of the flags says of an operation's operands and result. -/

namespace Sys2Proof.Machine

section
variable (op : Nat) (a b r : Word)

/-- Four flags laid out as Z, N, C, V read so. -/
theorem bit_flags : ∀ z n c v : Bool, let f := b2n z + 2 * b2n n + 4 * b2n c + 8 * b2n v
    bit f 0 = z ∧ bit f 1 = n ∧ bit f 2 = c ∧ bit f 3 = v := by decide

theorem aluFlags_zero : bit (aluFlags op a b r) 0 = (r == 0) := (bit_flags _ _ _ _).1

theorem aluFlags_negative : bit (aluFlags op a b r) 1 = r.msb := (bit_flags _ _ _ _).2.1

theorem aluFlags_carry : bit (aluFlags op a b r) 2 = aluCarry op a b := (bit_flags _ _ _ _).2.2.1

theorem aluFlags_overflow : bit (aluFlags op a b r) 3 = aluOverflow op a b r := (bit_flags _ _ _ _).2.2.2

end

section
variable {w : Nat} (a b : BitVec w)

/-- A sum overflows exactly where it is not the sum of the signed values: no signed value of the width lies out of range. -/
theorem saddOverflow_iff : a.saddOverflow b = true ↔ (a + b).toInt ≠ a.toInt + b.toInt := by
  refine ⟨fun h heq => ?_, fun h => Decidable.byContradiction fun hno => h (BitVec.toInt_add_of_not_saddOverflow hno)⟩
  have hlo := (a + b).le_toInt
  have hhi := (a + b).toInt_lt
  simp only [BitVec.saddOverflow, Bool.or_eq_true, decide_eq_true_eq] at h
  omega

/-- The same of a difference. -/
theorem ssubOverflow_iff : a.ssubOverflow b = true ↔ (a - b).toInt ≠ a.toInt - b.toInt := by
  refine ⟨fun h heq => ?_, fun h => Decidable.byContradiction fun hno => h (BitVec.toInt_sub_of_not_ssubOverflow hno)⟩
  have hlo := (a - b).le_toInt
  have hhi := (a - b).toInt_lt
  simp only [BitVec.ssubOverflow, Bool.or_eq_true, decide_eq_true_eq] at h
  omega

end

section
variable (a b d : Word)

/-- ADD's V by the signs is the overflow of the signed sum. -/
theorem aluOverflow_add : aluOverflow 3 a b (a + b) = decide ((a + b).toInt ≠ a.toInt + b.toInt) := by
  have hsigns : aluOverflow 3 a b (a + b) = a.saddOverflow b := (BitVec.saddOverflow_eq a b).symm
  rw [hsigns, Bool.eq_iff_iff, decide_eq_true_iff]
  exact saddOverflow_iff a b

/-- SUB's V by the signs is the overflow of the signed difference. -/
theorem aluOverflow_sub : aluOverflow 4 a b (a - b) = decide ((a - b).toInt ≠ a.toInt - b.toInt) := by
  have hsigns : aluOverflow 4 a b (a - b) = a.ssubOverflow b := by
    have hbits : ∀ x y z : Bool, (x != y && z != x) = (!x && y && z || x && !y && !z) := by decide
    exact (hbits ..).trans (BitVec.ssubOverflow_eq a b).symm
  rw [hsigns, Bool.eq_iff_iff, decide_eq_true_iff]
  exact ssubOverflow_iff a b

theorem aluResult_add_toNat : (aluResult 3 a b d).toNat = (a.toNat + b.toNat) % 2 ^ 64 := BitVec.toNat_add a b

theorem aluResult_sub_toNat : (aluResult 4 a b d).toNat = (a.toNat + 2 ^ 64 - b.toNat) % 2 ^ 64 := by
  have hb := b.isLt
  rw [show aluResult 4 a b d = a - b from rfl, BitVec.toNat_sub]
  congr 1
  omega

end

end Sys2Proof.Machine
end

section
/-! PROOFS. Memory accesses (R167, R173, R174, R347): one access performed alone, its data's arrival, the order within a cycle, and the word
that a bank serves. -/

namespace Sys2Proof.Machine

/-! ### The words of the memories -/

theorem natBe_succ (n v : Nat) : natBe (n + 1) v = natBe n (v / 256) ++ [BitVec.ofNat 8 v] := by
  simp only [natBe, List.range_succ, List.map_append, List.map_cons, List.map_nil]
  congr 1
  · refine List.map_congr_left fun i hi => ?_
    have hi := List.mem_range.mp hi
    rw [show 8 * (n + 1 - 1 - i) = 8 + 8 * (n - 1 - i) by omega, Nat.pow_add, ← Nat.div_div_eq_div_mul]
  · simp

/-- A number's `n` big-endian bytes stand for its low `8 n` bits. -/
theorem beNat_natBe (n v : Nat) : beNat (natBe n v) = v % 256 ^ n := by
  induction n generalizing v with
  | zero => simp [natBe, beNat, Nat.mod_one]
  | succ n ih =>
    have ih := ih (v / 256)
    simp only [beNat] at ih
    have hsplit : v % 256 ^ (n + 1) = v % 256 + 256 * (v / 256 % 256 ^ n) := by rw [Nat.pow_succ', Nat.mod_mul]
    rw [natBe_succ, beNat, List.foldl_append, List.foldl_cons, List.foldl_nil, ih, BitVec.toNat_ofNat, hsplit]
    omega

/-- An eight-byte number read where it was written. -/
theorem beNat_memRead_memWriteAll (m : Mem) (a v : Nat) : beNat (memRead (memWriteAll m a (natBe 8 v)) a 8) = v % 2 ^ 64 := by
  have h := memRead_memWriteAll (natBe 8 v) m a
  rw [length_natBe] at h
  rw [h, beNat_natBe, show 256 ^ 8 = 2 ^ 64 from rfl]

section
variable (d : Device) {a : Nat} (v : Nat)

/-- A word just stored reads the 64 bits of its value, but for segment 15. -/
theorem Device.word_setWord (h : a < 0x2F00000) : (d.setWord a v).word a = v % 2 ^ 64 := by
  unfold Device.word Device.setWord
  by_cases hs : a < 0x2000000
  · rw [if_pos hs, if_pos hs]
    exact beNat_memRead_memWriteAll ..
  · rw [if_neg hs, if_neg hs, if_pos h, if_pos h]
    exact beNat_memRead_memWriteAll ..

/-- A word stored leaves every other byte of the scratchpads. -/
theorem Device.setWord_scratch {b : Nat} (h : b < a ∨ a + 8 ≤ b ∨ 0x2000000 ≤ a) :
    memByte (d.setWord a v).eng.scratch b = memByte d.eng.scratch b := by
  unfold Device.setWord
  split
  · exact memByte_memWriteAll_outside _ _ _ _ (by rw [length_natBe]; omega)
  · split <;> rfl

/-- A word stored leaves every other byte of the common store. -/
theorem Device.setWord_common {b : Nat} (h : b + 0x2000000 < a ∨ a + 8 ≤ b + 0x2000000 ∨ a < 0x2000000) :
    memByte (d.setWord a v).eng.common b = memByte d.eng.common b := by
  unfold Device.setWord
  split
  · rfl
  · split
    · exact memByte_memWriteAll_outside _ _ _ _ (by rw [length_natBe]; omega)
    · rfl

/-- Storing a word changes nothing but the two memories. -/
theorem Device.setWord_frame : d.setWord a v
    = { d with eng := { d.eng with scratch := (d.setWord a v).eng.scratch, common := (d.setWord a v).eng.common } } := by
  unfold Device.setWord
  split
  · rfl
  · split <;> rfl

@[simp] theorem Device.setWord_accesses : (d.setWord a v).eng.accesses = d.eng.accesses := by rw [Device.setWord_frame]

@[simp] theorem Device.setWord_chart : (d.setWord a v).chart = d.chart := by rw [Device.setWord_frame]

end

/-! ### An access performed alone (R167, R173) -/

/-- What becomes of an access `b` where the access numbered `id` is performed and returns `v`: a store is done with, and the data of another
access is on its way. -/
def Access.settled (id v : Nat) (b : Access) : Option Access :=
  if id = b.id then if b.op = .store then none else some { b with done := some v } else some b

theorem Access.settled_self (a : Access) (v : Nat) (h : a.op ≠ .store) : Access.settled a.id v a = some { a with done := some v } := by
  simp [Access.settled, h]

/-- A store that has been performed is no access any more, whatever else was under way. -/
theorem Access.settled_store_ne {a : Access} (v : Nat) (b : Access) (h : a.op = .store) : Access.settled a.id v b ≠ some a := by
  intro heq
  by_cases hid : a.id = b.id
  · by_cases hb : b.op = .store
    · simp [Access.settled, hid, hb] at heq
    · simp only [Access.settled, hid, hb, if_true, if_false, Option.some.injEq] at heq
      exact hb ((congrArg Access.op heq).trans h)
  · simp only [Access.settled, hid, if_false, Option.some.injEq] at heq
    exact hid (congrArg Access.id heq).symm

section
variable (d : Device) (a : Access)

theorem Device.performCycle_single : d.performCycle a.addr [a]
    = ({ d with eng := { d.eng with accesses := d.eng.accesses.filterMap (Access.settled a.id (d.word a.addr)) } }).setWord a.addr
        (a.leaves (d.word a.addr)) := by
  have hcycle (w : Nat) : cycle w w (sortAccesses [a]) = ([(a.id, w)], a.leaves w) := by simp [sortAccesses, sortOn, insertOn, cycle]
  simp only [Device.performCycle, hcycle]
  refine congrArg (fun f => Device.setWord { d with eng := { d.eng with accesses := d.eng.accesses.filterMap f } } _ _)
    (funext fun b => ?_)
  by_cases h : a.id = b.id <;> simp [Access.settled, h]

variable {d a} {as : List (Nat × Nat)}

theorem Device.mem_accesses_of_reaching (h : d.reaching as = [a]) : a ∈ d.eng.accesses :=
  have ha : a ∈ d.reaching as := h ▸ List.mem_singleton_self a
  (List.mem_filter.mp ha).1

/-- The accesses under way without those of a number. -/
def Device.dropAccess (d : Device) (id : Nat) : Device :=
  { d with eng := { d.eng with accesses := d.eng.accesses.filter fun b => b.id != id } }

theorem Device.mem_dropAccess {id : Nat} (b : Access) : b ∈ (d.dropAccess id).eng.accesses ↔ b ∈ d.eng.accesses ∧ b.id ≠ id := by
  simp [Device.dropAccess]

end

section
variable {s : State} {a : Access}

theorem exec_memoryAccessPerform_single {as : List (Nat × Nat)} {ecc : Ecc} (hsafe : s.dev.state ≠ St.safe)
    (hreach : s.dev.reaching as = [a]) (hecc : ecc ≠ .double) :
    exec (.memoryAccessPerform as ecc) s = .next { s with dev := s.dev.performCycle a.addr [a] } := by
  simp [exec, execMemoryAccessPerform, Instr.wf, unlessSafe, hsafe, hreach, hecc, leadAccess, servedNow]

theorem exec_loadResult_arrives {k id v : Nat} {x : Ctx} (hk : k < 8192) (hsafe : s.dev.state ≠ St.safe)
    (hfind : (s.dev.eng.accesses.find? fun a => a.id == id && a.context == k) = some a) (hdone : a.done = some v)
    (hctx : s.dev.ctx? k = some x) (hpass : x.order = a.pass) :
    let y : Ctx := { setReg x a.reg (BitVec.ofNat 64 v) with pending := setDel x.pending a.reg }
    exec (.loadResult k id) s = .next { s with dev := (s.dev.dropAccess id).setCtx k y } := by
  unfold Device.ctx? at hctx
  simp [exec, execLoadResult, Instr.wf, unlessSafe, hk, hsafe, hfind, hdone, hctx, hpass, Device.ctx?, Device.dropAccess]

end

/-! ### The order within a cycle (R174) -/

section
variable {a : Access} (v : Nat)

theorem Access.leaves_store (h : a.op = .store) : a.leaves v = a.data := by simp [Access.leaves, h]

theorem Access.leaves_fadd (h : a.op = .fadd) : a.leaves v = (v + a.data) % 2 ^ 64 := by simp [Access.leaves, h]

theorem Access.leaves_cas (h : a.op = .cas) : a.leaves v = if v = a.data then a.new else v := by simp [Access.leaves, h]

end

/-- A word holds in the end what the accesses leave one after another. -/
theorem cycle_snd (v0 v : Nat) (as : List Access) : (cycle v0 v as).2 = as.foldl (fun w a => a.leaves w) v := by
  induction as generalizing v with
  | nil => rfl
  | cons a as ih => exact ih _

/-- A load returns the word from before the cycle, wherever it stands in it. -/
theorem cycle_load {a : Access} (v0 v : Nat) {as : List Access} (hmem : a ∈ as) (hop : a.op = .load) :
    (a.id, v0) ∈ (cycle v0 v as).1 := by
  induction as generalizing v with
  | nil => cases hmem
  | cons b as ih =>
    rcases List.mem_cons.mp hmem with rfl | hmem
    · simp [cycle, hop]
    · exact List.mem_cons_of_mem _ (ih _ hmem)

/-! ### The word that a bank serves (R347) -/

/-- A choice that gives way to every element of a lower key ends at one of the lowest key. -/
theorem foldl_lowest {α : Type} (key : α → Nat) (m : α) (l : List α) :
    let r := l.foldl (fun m b => if key b < key m then b else m) m
    r ∈ m :: l ∧ ∀ b ∈ m :: l, key r ≤ key b := by
  induction l generalizing m with
  | nil => simp
  | cons c l ih =>
    by_cases h : key c < key m
    · obtain ⟨hmem, hle⟩ := ih c
      simp only [List.foldl_cons, if_pos h]
      exact ⟨List.mem_cons_of_mem m hmem, List.forall_mem_cons.mpr ⟨Nat.le_trans (hle c List.mem_cons_self) (Nat.le_of_lt h), hle⟩⟩
    · obtain ⟨hmem, hle⟩ := ih m
      obtain ⟨hm, hl⟩ := List.forall_mem_cons.mp hle
      simp only [List.foldl_cons, if_neg h]
      exact ⟨List.cons_subset_cons m (List.subset_cons_self c l) hmem,
        List.forall_mem_cons.mpr ⟨hm, List.forall_mem_cons.mpr ⟨Nat.le_trans hm (Nat.not_lt.mp h), hl⟩⟩⟩

section
variable (a : Access) (as : List Access)

theorem leadAccess_mem_bank : leadAccess a as ∈ a :: as.filter fun b => sameBank a.addr b.addr :=
  (foldl_lowest (fun x : Access => x.context / 8) a _).1

theorem leadAccess_lowest : ∀ b ∈ a :: as.filter fun b => sameBank a.addr b.addr, (leadAccess a as).context / 8 ≤ b.context / 8 :=
  (foldl_lowest (fun x : Access => x.context / 8) a _).2

theorem leadAccess_mem : leadAccess a as ∈ a :: as :=
  (List.cons_subset_cons a List.filter_sublist.subset) (leadAccess_mem_bank a as)

end

/-! ### The statement -/

/-- Settles O30: each flag by its own lemma, one access by what a cycle of it alone is, and a cycle by induction over its accesses. -/
theorem engineOperations : Obligations.EngineOperations := by
  refine ⟨fun a b d => ?alu, ⟨?performed, ?arrived⟩, ?order⟩
  case alu =>
    refine ⟨aluResult_add_toNat a b d, aluFlags_carry .., (aluFlags_overflow ..).trans (aluOverflow_add a b), aluResult_sub_toNat a b d,
      aluFlags_carry .., (aluFlags_overflow ..).trans (aluOverflow_sub a b), fun op => ⟨aluFlags_zero .., aluFlags_negative ..⟩,
      rfl, rfl, rfl, rfl⟩
  case performed =>
    intro s as a ecc hsafe hreach hecc haddr
    refine ⟨_, exec_memoryAccessPerform_single hsafe hreach hecc, ?_⟩
    have ha := Device.mem_accesses_of_reaching hreach
    simp only [Device.performCycle_single, Device.setWord_accesses, Device.setWord_chart]
    refine ⟨Device.word_setWord _ _ haddr, fun b => Device.setWord_scratch _ _, fun b => Device.setWord_common _ _, fun hop hmem => ?_,
      fun hop => ?_, trivial⟩
    · obtain ⟨b, -, hb⟩ := List.mem_filterMap.mp hmem
      exact Access.settled_store_ne _ b hop hb
    · exact List.mem_filterMap.mpr ⟨a, ha, a.settled_self _ hop⟩
  case arrived =>
    intro s k id v a x hk hsafe hfind hdone hctx hpass
    refine ⟨_, exec_loadResult_arrives hk hsafe hfind hdone hctx hpass, mapGet?_mapPut_same .., fun b hb => ?_, rfl⟩
    exact ((Device.mem_dropAccess b).mp hb).2
  case order =>
    intro v as
    have hperm : (sortAccesses as).Perm as := sortOn_perm _ as
    refine ⟨sortOn_sorted _ as, hperm, cycle_snd v v _, fun a ha => cycle_load v v (hperm.mem_iff.mpr ha), fun a w => ?_⟩
    have hlow := leadAccess_lowest a as
    have hbank : leadAccess a as = a ∨ sameBank a.addr (leadAccess a as).addr = true :=
      (List.mem_cons.mp (leadAccess_mem_bank a as)).imp_right fun h =>
        ((List.mem_filter (p := fun b : Access => sameBank a.addr b.addr)).mp h).2
    exact ⟨Access.leaves_store w, Access.leaves_fadd w, Access.leaves_cas w, leadAccess_mem a as, hbank, hlow a List.mem_cons_self,
      fun b hb hsame => hlow b (List.mem_cons_of_mem _ (List.mem_filter.mpr ⟨hb, hsame⟩))⟩

end Sys2Proof.Machine
end

section
/-! PROOFS. Microcode images (O34) and Pilot restarts (O35): what the two commands do, and the states in which that is not what the
statements say. -/

namespace Sys2Proof.Machine

section
variable {s : State}

/-- A queued load does not start while the Pilot carries nothing forward (R219, R415). -/
theorem exec_imageLoadStart_waits (h : s.dev.pilotWorks = false) : exec .imageLoadStart s = .next s := by
  have hwait : (s.dev.img.loading || !s.dev.pilotWorks) = true := by simp [h]
  simp only [exec, execImageLoadStart, Instr.wf, onDev_true]
  split
  · rfl
  · rw [if_pos hwait]

/-- An ordered restart takes a Pilot that runs down (R226, R374). -/
theorem exec_pilotRestart_ordered (hrun : s.dev.pwr.pilot = .running) (hord : s.dev.img.switch.isSome = true ∨ s.dev.pwr.requested = some 1) :
    exec .pilotRestart s = .next { s with dev := s.dev.pilotRestart } := by
  simp only [exec, execPilotRestart, Instr.wf, onDev_true, hrun, hord, and_self, if_true]

end

/-- Refutes O34: the clause on the start of a load does not ask that the Pilot works, and the load of cluster 63 stays queued where the
Sextant holds the Pilot halted (R415). -/
theorem not_images : ¬Obligations.Images := by
  rintro ⟨-, hstart, -⟩
  let d := Tests.dev 6
  let halted : State := Tests.st { d with img := { d.img with loads := [63] }, sx := { d.sx with pilotHalted := true } }
  obtain ⟨t, ht, hloading, -⟩ := hstart halted 63 [] rfl (by decide) rfl
  rw [exec_imageLoadStart_waits (s := halted) rfl] at ht
  cases ht
  exact Bool.false_ne_true hloading

/-- Refutes O35: the statement does not ask that the queued loads name clusters of the device. A load of cluster 0x40000, which no write of
UCODE.Load can ask for, is queued behind one of cluster 0 and aborted after it. The Chart keeps UCODE.Version of the one and
UCODE.LoadStatus of the other at the same key, so that clearing the first clears the second, which no longer says ABORTED. -/
theorem not_pilotRestarts : ¬Obligations.PilotRestarts := by
  rintro ⟨hrestart, -⟩
  let d := Tests.dev 6
  let s : State := Tests.st { d with img := { d.img with loads := [0, 0x40000] }, pwr := { d.pwr with requested := some 1 } }
  have hord : s.dev.img.switch.isSome = true ∨ s.dev.pwr.requested = some 1 := .inr rfl
  obtain ⟨t, ht, -, -, -, -, -, -, -, haborted, -⟩ := hrestart s rfl hord
  rw [exec_pilotRestart_ordered (s := s) rfl hord] at ht
  cases ht
  have hcleared : s.dev.pilotRestart.loadState 0 = 0 := by decide +kernel
  have hfive : s.dev.pilotRestart.loadState 0 = 5 := haborted 0 List.mem_cons_self (by decide)
  omega

end Sys2Proof.Machine
end

section
/-! PROOFS. The Separator (R242, R243): the order of residences, the steered queues that are released, and what an evaluation leaves. -/

namespace Sys2Proof.Machine

/-! ### Maps by their keys -/

section
variable {α : Type}

theorem mapGet?_isSome_iff (m : NMap α) (k : Nat) : (mapGet? m k).isSome = true ↔ k ∈ m.map Prod.fst := by
  induction m with
  | nil => simp [mapGet?]
  | cons p m ih =>
    obtain ⟨k', a⟩ := p
    by_cases h : k' = k
    · simp [mapGet?, h]
    · simp [mapGet?, h, ih, Ne.symm h]

theorem mapDel_eq_filter (m : NMap α) (k : Nat) : mapDel m k = m.filter fun kv => kv.1 != k := by
  induction m with
  | nil => rfl
  | cons p m ih =>
    obtain ⟨k', a⟩ := p
    by_cases h : k = k'
    · subst h
      simp [mapDel, ih]
    · simp [mapDel, h, Ne.symm h, ih]

/-- A key that a map does not list joins the listed ones. -/
theorem mapPut_perm {m : NMap α} {k : Nat} (h : mapGet? m k = none) (a : α) : (mapPut m k a).Perm ((k, a) :: m) := by
  induction m with
  | nil => exact .refl _
  | cons p m ih =>
    obtain ⟨k', a'⟩ := p
    by_cases hk : k' = k
    · simp [mapGet?, hk] at h
    · have hm : mapGet? m k = none := by simpa [mapGet?, hk] using h
      rw [mapPut]
      split
      · exact .refl _
      · rw [if_neg (Ne.symm hk)]
        exact ((ih hm).cons (k', a')).trans (.swap (k, a) (k', a') m)

end

/-! ### Residences in order -/

/-- A residence is not smaller than another one: where it is bounded, the other is bounded too and no larger. -/
theorem lessResidence_eq_false {x y : Option Nat} : lessResidence x y = false ↔ ∀ a, x = some a → ∃ b, y = some b ∧ b ≤ a := by
  cases x with
  | none => exact ⟨fun _ => nofun, fun _ => rfl⟩
  | some a =>
    cases y with
    | none => exact ⟨fun h => (Bool.false_ne_true h.symm).elim, fun h => nomatch h a rfl⟩
    | some b => simp only [lessResidence, decide_eq_false_iff_not, Nat.not_lt, Option.some.injEq, forall_eq', exists_eq_left']

theorem lessResidence_self (x : Option Nat) : lessResidence x x = false := lessResidence_eq_false.2 fun a ha => ⟨a, ha, Nat.le_refl a⟩

theorem lessResidence_false_trans {x y z : Option Nat} (hxy : lessResidence x y = false) (hyz : lessResidence y z = false) :
    lessResidence x z = false := by
  refine lessResidence_eq_false.2 fun a ha => ?_
  obtain ⟨b, hb, hba⟩ := lessResidence_eq_false.1 hxy a ha
  obtain ⟨c, hc, hcb⟩ := lessResidence_eq_false.1 hyz b hb
  exact ⟨c, hc, Nat.le_trans hcb hba⟩

theorem lessResidence_asymm {x y : Option Nat} (h : lessResidence x y = true) : lessResidence y x = false := by
  refine lessResidence_eq_false.2 fun b hb => ?_
  subst hb
  cases x with
  | none => exact (Bool.false_ne_true h).elim
  | some a => exact ⟨a, rfl, Nat.le_of_lt (of_decide_eq_true h)⟩

/-- The better of the best queue so far and another one: the other where its residence is smaller. -/
def smallerResidence (r : Nat → Option Nat) (best : Option Nat) (q : Nat) : Option Nat :=
  match best with
  | none => some q
  | some b => if lessResidence (r q) (r b) then some q else some b

/-- Of a queue and those of a list, the one found is among them and none has a smaller residence. -/
theorem foldl_smallerResidence (r : Nat → Option Nat) (l : List Nat) (b : Nat) :
    ∃ q ∈ b :: l, l.foldl (smallerResidence r) (some b) = some q ∧ ∀ p ∈ b :: l, lessResidence (r p) (r q) = false := by
  induction l generalizing b with
  | nil => exact ⟨b, List.mem_singleton_self b, rfl, fun p hp => List.mem_singleton.1 hp ▸ lessResidence_self _⟩
  | cons a l ih =>
    cases hab : lessResidence (r a) (r b) with
    | true =>
      obtain ⟨q, hq, hfold, hleast⟩ := ih a
      have hbq : lessResidence (r b) (r q) = false := lessResidence_false_trans (lessResidence_asymm hab) (hleast a List.mem_cons_self)
      refine ⟨q, List.mem_cons_of_mem b hq, ?_, List.forall_mem_cons.2 ⟨hbq, hleast⟩⟩
      rw [List.foldl_cons, smallerResidence, if_pos hab, hfold]
    | false =>
      obtain ⟨q, hq, hfold, hleast⟩ := ih b
      obtain ⟨hbq, hrest⟩ := List.forall_mem_cons.1 hleast
      have haq : lessResidence (r a) (r q) = false := lessResidence_false_trans hab hbq
      refine ⟨q, ?_, ?_, List.forall_mem_cons.2 ⟨hbq, List.forall_mem_cons.2 ⟨haq, hrest⟩⟩⟩
      · exact (List.mem_cons.1 hq).elim (· ▸ List.mem_cons_self) fun h => List.mem_cons_of_mem b (List.mem_cons_of_mem a h)
      · rw [List.foldl_cons, smallerResidence, if_neg (Bool.eq_false_iff.1 hab), hfold]

section
variable {d e : Device} {c : Clk} {p q n : Nat}

/-- A queue is steered (R242). -/
def Device.steers (d : Device) (q : Nat) : Bool := (mapGet? d.buf.steered q).isSome

theorem Device.steers_iff : d.steers q = true ↔ q ∈ d.buf.steered.map Prod.fst := mapGet?_isSome_iff ..

theorem Device.steers_eq_false : d.steers q = false ↔ mapGet? d.buf.steered q = none :=
  Option.isSome_eq_false_iff.trans Option.isNone_iff_eq_none

theorem Device.smallestSteered_eq_foldl (d : Device) (c : Clk) :
    d.smallestSteered c = (d.buf.steered.map Prod.fst).foldl (smallerResidence (d.residenceOf c)) none := by
  rw [List.foldl_map, Device.smallestSteered]
  refine congrArg (fun f => d.buf.steered.foldl f none) (funext fun best => funext fun kv => ?_)
  cases best with
  | none => rfl
  | some b => rfl

/-- The queue that R243 releases first is steered and no steered one has a smaller residence; there is none only where none is steered. -/
theorem Device.smallestSteered_cases (d : Device) (c : Clk) :
    (d.smallestSteered c = none ∧ d.buf.steered = [])
      ∨ ∃ q, d.smallestSteered c = some q ∧ d.steers q = true
        ∧ ∀ p, d.steers p = true → lessResidence (d.residenceOf c p) (d.residenceOf c q) = false := by
  rw [Device.smallestSteered_eq_foldl]
  simp only [Device.steers_iff]
  cases hkeys : d.buf.steered.map Prod.fst with
  | nil => exact .inl ⟨rfl, List.map_eq_nil_iff.1 hkeys⟩
  | cons b l =>
    obtain ⟨q, hq, hfold, hleast⟩ := foldl_smallerResidence (d.residenceOf c) l b
    exact .inr ⟨q, hfold, hq, hleast⟩

theorem Device.smallestSteered_none (h : d.smallestSteered c = none) : d.buf.steered = [] := by
  obtain ⟨-, hnil⟩ | ⟨q, hq, -⟩ := d.smallestSteered_cases c
  · exact hnil
  · exact absurd (h.symm.trans hq) nofun

theorem Device.smallestSteered_some (h : d.smallestSteered c = some q) :
    d.steers q = true ∧ ∀ p, d.steers p = true → lessResidence (d.residenceOf c p) (d.residenceOf c q) = false := by
  obtain ⟨hnone, -⟩ | ⟨r, hr, hfound⟩ := d.smallestSteered_cases c
  · exact absurd (h.symm.trans hnone) nofun
  · cases h.symm.trans hr
    exact hfound

theorem Device.smallestSteered_steers (h : d.smallestSteered c = some q) : d.steers q = true := (Device.smallestSteered_some h).1

/-! ### Release (R243) -/

/-- The device with other queues steered. -/
def Device.withSteered (d : Device) (m : NMap Nat) : Device := { d with buf := { d.buf with steered := m } }

/-- The device with only those of its steered queues steered that `keep` keeps. -/
def Device.keepSteered (d : Device) (keep : Nat → Bool) : Device := d.withSteered (d.buf.steered.filter fun kv => keep kv.1)

theorem Device.keepSteered_all : d.keepSteered (fun _ => true) = d := congrArg d.withSteered (List.filter_eq_self.2 fun _ _ => rfl)

theorem Device.steeredRate10_eq (d : Device) (c : Clk) :
    d.steeredRate10 c = 10 * ((d.buf.steered.map Prod.fst).map fun q => d.arrivalRate c q).sum := by
  rw [List.map_map]
  rfl

theorem Device.keepSteered_steeredRate10 (keep : Nat → Bool) :
    (d.keepSteered keep).steeredRate10 c = 10 * (((d.buf.steered.map Prod.fst).filter keep).map fun q => d.arrivalRate c q).sum := by
  rw [List.filter_map, List.map_map]
  rfl

@[simp] theorem Device.steers_keepSteered (keep : Nat → Bool) : (d.keepSteered keep).steers q = (d.steers q && keep q) := by
  rw [Bool.eq_iff_iff, Bool.and_eq_true, Device.steers_iff, Device.steers_iff]
  simp [Device.keepSteered, Device.withSteered, List.mem_filter]

theorem Device.unsteer_keepSteered (keep : Nat → Bool) :
    (d.keepSteered keep).unsteer q = d.keepSteered fun p => keep p && p != q := by
  simp only [Device.unsteer, Device.keepSteered, Device.withSteered, mapDel_eq_filter, List.filter_filter]
  simp [Bool.and_comm]

theorem Device.unsteer_eq_keepSteered : d.unsteer q = d.keepSteered (· != q) := by
  rw [Device.unsteer, mapDel_eq_filter]
  rfl

/-- Releases of R243, one after another: while the steered queues' arrivals exceed 90 % of the budget, one of least residence is returned
on chip. -/
inductive Device.Releases (c : Clk) (d : Device) : Device → Prop where
  | refl : Device.Releases c d d
  | tail {e : Device} {q : Nat} : Device.Releases c d e → e.budgetLimit10 < e.steeredRate10 c → e.smallestSteered c = some q →
      Device.Releases c d (e.unsteer q)

theorem Device.Releases.head (hover : d.budgetLimit10 < d.steeredRate10 c) (hq : d.smallestSteered c = some q)
    (h : Device.Releases c (d.unsteer q) e) : Device.Releases c d e := by
  induction h with
  | refl => exact .tail .refl hover hq
  | tail _ hover' hq' ih => exact .tail ih hover' hq'

theorem Device.relieve_releases (d : Device) (c : Clk) (n : Nat) : Device.Releases c d (d.relieve c n) := by
  induction n generalizing d with
  | zero => exact .refl
  | succ n ih =>
    rw [Device.relieve]
    split
    · exact .refl
    · rename_i hover
      split
      · rename_i q hq
        exact .head (Nat.lt_of_not_le hover) hq (ih _)
      · exact .refl

theorem Device.relieve_within (h : d.steeredRate10 c ≤ d.budgetLimit10) : d.relieve c n = d := by
  cases n with
  | zero => rfl
  | succ n => rw [Device.relieve, if_pos h]

theorem Device.length_steered_unsteer (h : d.steers q = true) : (d.unsteer q).buf.steered.length < d.buf.steered.length := by
  obtain ⟨kv, hkv, rfl⟩ := List.mem_map.1 (Device.steers_iff.1 h)
  rw [Device.unsteer, mapDel_eq_filter]
  exact List.length_filter_lt_length_iff_exists.2 ⟨kv, hkv, by simp⟩

/-- The arrivals of no queue are within every budget. -/
theorem Device.steeredRate10_le_of_nil (h : d.buf.steered = []) : d.steeredRate10 c ≤ d.budgetLimit10 := by
  simp [Device.steeredRate10, h]

/-- With a try for each steered queue, the releases end where the arrivals are within the budget. -/
theorem Device.relieve_suffices (d : Device) (h : d.buf.steered.length ≤ n) :
    (d.relieve c n).steeredRate10 c ≤ (d.relieve c n).budgetLimit10 := by
  induction n generalizing d with
  | zero => exact Device.steeredRate10_le_of_nil (List.length_eq_zero_iff.1 (Nat.le_zero.1 h))
  | succ n ih =>
    rw [Device.relieve]
    split
    · assumption
    · split
      · rename_i q hq
        have := Device.length_steered_unsteer (Device.smallestSteered_steers hq)
        exact ih _ (by omega)
      · rename_i hnone
        exact Device.steeredRate10_le_of_nil (Device.smallestSteered_none hnone)

/-- Releases keep some of the steered queues steered and change nothing else. -/
theorem Device.releases_keep (h : Device.Releases c d e) : ∃ keep, e = d.keepSteered keep := by
  induction h with
  | refl => exact ⟨_, Device.keepSteered_all.symm⟩
  | tail _ _ _ ih =>
    obtain ⟨keep, rfl⟩ := ih
    exact ⟨_, Device.unsteer_keepSteered keep⟩

/-- What is kept is what is still steered. -/
theorem Device.releases_eq (h : Device.Releases c d e) : e = d.keepSteered e.steers := by
  obtain ⟨keep, rfl⟩ := Device.releases_keep h
  have hkeep : ∀ kv ∈ d.buf.steered, keep kv.1 = (d.keepSteered keep).steers kv.1 := fun kv hkv => by
    have hs : d.steers kv.1 = true := Device.steers_iff.2 (List.mem_map_of_mem hkv)
    rw [Device.steers_keepSteered, hs, Bool.true_and]
  exact congrArg d.withSteered (List.filter_congr hkeep)

theorem Device.steers_of_releases (h : Device.Releases c d e) (hq : e.steers q = true) : d.steers q = true := by
  obtain ⟨keep, rfl⟩ := Device.releases_keep h
  rw [Device.steers_keepSteered, Bool.and_eq_true] at hq
  exact hq.1

/-- No queue that stays steered has a smaller residence than a released one. -/
theorem Device.releases_smallest (h : Device.Releases c d e) (hp : d.steers p = true) (hgone : e.steers p = false)
    (hq : e.steers q = true) : lessResidence (d.residenceOf c q) (d.residenceOf c p) = false := by
  induction h with
  | refl => exact absurd hp (Bool.eq_false_iff.1 hgone)
  | @tail b r hb hover hr ih =>
    have hqb : b.steers q = true := Device.steers_of_releases (.tail .refl hover hr) hq
    cases hpb : b.steers p with
    | false => exact ih hpb hqb
    | true =>
      have hpr : p = r := by
        rw [Device.unsteer_eq_keepSteered, Device.steers_keepSteered, hpb, Bool.true_and] at hgone
        exact bne_eq_false_iff_eq.1 hgone
      have hleast := (Device.smallestSteered_some hr).2 q hqb
      obtain ⟨keep, rfl⟩ := Device.releases_keep hb
      exact hpr ▸ hleast

/-- What is steered before the release of a steered queue is what is steered after it, and that queue. -/
theorem Device.steers_unsteer_or (hq : d.steers q = true) : ((d.unsteer q).steers p || p == q) = d.steers p := by
  rw [Device.unsteer_eq_keepSteered, Device.steers_keepSteered]
  by_cases hp : p = q
  · rw [hp, hq, beq_self_eq_true, Bool.or_true]
  · rw [bne, beq_false_of_ne hp, Bool.not_false, Bool.and_true, Bool.or_false]

/-- Unless nothing is released, the arrivals with the queue released last exceed 90 % of the budget. -/
theorem Device.releases_last (h : Device.Releases c d e) (hne : e ≠ d) :
    ∃ q, d.steers q = true ∧ e.steers q = false ∧ d.budgetLimit10 < (d.keepSteered fun p => e.steers p || p == q).steeredRate10 c := by
  cases h with
  | refl => exact absurd rfl hne
  | @tail b q hb hover hq =>
    have hqb : b.steers q = true := Device.smallestSteered_steers hq
    have hsame : (fun p => (b.unsteer q).steers p || p == q) = b.steers := funext fun p => Device.steers_unsteer_or hqb
    refine ⟨q, Device.steers_of_releases hb hqb, Device.steers_eq_false.2 (mapGet?_mapDel_same ..), ?_⟩
    rw [Device.releases_eq hb] at hover
    rw [hsame]
    exact hover

end

/-! ### The evaluation of a queue (R242) -/

section
variable {d : Device} {c : Clk} {q n st : Nat}

/-- The device with a queue's residence recorded. -/
def Device.recordResidence (d : Device) (c : Clk) (q : Nat) : Device :=
  { d with buf := { d.buf with residence := mapSet d.buf.residence q (residenceShown (d.residenceOf c q)) 0 } }

/-- The steered queues once a queue has been evaluated, before any are released for the budget (R242). -/
def Device.steeredAfter (d : Device) (c : Clk) (q : Nat) : NMap Nat :=
  let cfg := d.get Obj.sepConfig 0
  let p := d.heldPool q
  let shown := residenceShown (d.residenceOf c q)
  if d.steers q then (if shown < fld cfg 63 32 then mapDel d.buf.steered q else d.buf.steered)
  else if q ≠ puntPath ∧ bit cfg 127 ∧ fld cfg 95 64 < shown ∧ p < 12 ∧ 0 < d.poolVatSize p
      ∧ d.steeredRate10 c + 10 * d.arrivalRate c q ≤ d.budgetLimit10 then
    (d.poolStack c p 1).elim d.buf.steered fun s => mapPut d.buf.steered q s
  else d.buf.steered

theorem Device.withSteered_elim (d : Device) (o : Option Nat) (m : NMap Nat) (f : Nat → NMap Nat) :
    d.withSteered (o.elim m f) = o.elim (d.withSteered m) fun s => d.withSteered (f s) := by
  cases o <;> rfl

/-- An evaluation records the residence, steers or returns the queue, and releases steered queues while the budget is exceeded. -/
theorem Device.separate_eq (d : Device) (c : Clk) (q : Nat) :
    d.separate c q = ((d.recordResidence c q).withSteered (d.steeredAfter c q)).relieve c (d.steeredAfter c q).length := by
  refine congrArg (fun e : Device => e.relieve c e.buf.steered.length) (?_ : _ = (d.recordResidence c q).withSteered (d.steeredAfter c q))
  simp only [Device.steeredAfter, apply_ite (Device.withSteered _), Device.withSteered_elim]
  refine ite_congr rfl (fun _ => rfl) fun _ => ite_congr rfl (fun _ => ?_) fun _ => rfl
  split
  · rename_i s hs
    have hs' : d.poolStack c (d.heldPool q) 1 = some s := hs
    rw [hs']
    rfl
  · rename_i hs
    have hs' : d.poolStack c (d.heldPool q) 1 = none := hs
    rw [hs']
    rfl

/-- Beyond the record of the residence, an evaluation moves the steered queues only. -/
theorem Device.separate_frame (d : Device) (c : Clk) (q : Nat) : ∃ m, d.separate c q = (d.recordResidence c q).withSteered m := by
  obtain ⟨keep, hkeep⟩ := Device.releases_keep (Device.relieve_releases ((d.recordResidence c q).withSteered (d.steeredAfter c q)) c _)
  exact ⟨_, (d.separate_eq c q).trans hkeep⟩

/-- A queue that is not steered is not steered by a release of others. -/
theorem Device.relieve_unsteered (h : mapGet? d.buf.steered q = none) : mapGet? (d.relieve c n).buf.steered q = none := by
  rw [← Device.steers_eq_false] at h ⊢
  exact Bool.eq_false_iff.2 fun hq => Bool.eq_false_iff.1 h (Device.steers_of_releases (d.relieve_releases c n) hq)

/-- A queue that the evaluation leaves out of the steered ones is not steered after it. -/
theorem Device.separate_unsteered (h : mapGet? (d.steeredAfter c q) q = none) : mapGet? (d.separate c q).buf.steered q = none := by
  rw [Device.separate_eq]
  exact Device.relieve_unsteered h

/-- A steered queue whose residence fell below ReturnBelow is released. -/
theorem Device.separate_release (hs : d.steers q = true) (hbelow : residenceShown (d.residenceOf c q) < fld (d.get Obj.sepConfig 0) 63 32) :
    mapGet? (d.separate c q).buf.steered q = none := by
  refine Device.separate_unsteered ?_
  simp only [Device.steeredAfter, hs, hbelow, if_true, mapGet?_mapDel_same]

/-- While the Separator is off, no queue becomes steered. -/
theorem Device.separate_off (hs : mapGet? d.buf.steered q = none) (hoff : bit (d.get Obj.sepConfig 0) 127 = false) :
    mapGet? (d.separate c q).buf.steered q = none := by
  refine Device.separate_unsteered ?_
  simp only [Device.steeredAfter, Device.steers_eq_false.2 hs, hoff, Bool.false_eq_true, false_and, and_false, if_false, hs]

/-- A queue that joins the steered ones adds its arrivals to theirs. -/
theorem Device.steeredRate10_mapPut (hs : mapGet? d.buf.steered q = none) :
    (d.withSteered (mapPut d.buf.steered q st)).steeredRate10 c = d.steeredRate10 c + 10 * d.arrivalRate c q := by
  have hsum : ((mapPut d.buf.steered q st).map fun kv => d.arrivalRate c kv.1).sum
      = d.arrivalRate c q + (d.buf.steered.map fun kv => d.arrivalRate c kv.1).sum :=
    ((mapPut_perm hs st).map _).sum_nat
  calc (d.withSteered (mapPut d.buf.steered q st)).steeredRate10 c
      = 10 * (d.arrivalRate c q + (d.buf.steered.map fun kv => d.arrivalRate c kv.1).sum) := congrArg (10 * ·) hsum
    _ = d.steeredRate10 c + 10 * d.arrivalRate c q := by rw [Nat.mul_add, Nat.add_comm, Device.steeredRate10]

/-- A queue that qualifies is steered to the stack that R234 chooses for its pool (R242). -/
theorem Device.separate_steer (hq : q ≠ puntPath) (hs : mapGet? d.buf.steered q = none) (hon : bit (d.get Obj.sepConfig 0) 127 = true)
    (hafter : fld (d.get Obj.sepConfig 0) 95 64 < residenceShown (d.residenceOf c q)) (hpail : d.heldPool q < 12)
    (hvat : 0 < d.poolVatSize (d.heldPool q)) (hrate : d.steeredRate10 c + 10 * d.arrivalRate c q ≤ d.budgetLimit10)
    (hst : d.poolStack c (d.heldPool q) 1 = some st) : mapGet? (d.separate c q).buf.steered q = some st := by
  have hsteered : d.steeredAfter c q = mapPut d.buf.steered q st := by
    rw [Device.steeredAfter, if_neg (Bool.eq_false_iff.1 (Device.steers_eq_false.2 hs)),
      if_pos ⟨hq, hon, hafter, hpail, hvat, hrate⟩, hst]
    rfl
  have hwithin : ((d.recordResidence c q).withSteered (mapPut d.buf.steered q st)).steeredRate10 c ≤ d.budgetLimit10 :=
    Nat.le_trans (Nat.le_of_eq (Device.steeredRate10_mapPut (d := d.recordResidence c q) hs)) hrate
  rw [Device.separate_eq, hsteered, Device.relieve_within hwithin]
  exact mapGet?_mapPut_same ..

end

end Sys2Proof.Machine
end

section
/-! PROOFS. The Separator and the retirement of buffer cells (O37): a queue's evaluation, the releases for the budget, and the commands that
end a stack's closure and a segment's retirement. -/

namespace Sys2Proof.Machine

section
variable {s : State} {q k g : Nat}

/-- A residence as it is shown: the queue's bytes over what left it in the last 4 µs (R242). -/
theorem Device.residenceShown_residenceOf (d : Device) (c : Clk) (q : Nat) :
    residenceShown (d.residenceOf c q) =
      if d.depth q = 0 then 0
      else if recentBytes c.ticks (mapGet d.buf.departs q []) = 0 then 0xFFFFFFFF
      else min (d.depth q * 256 * 4000 / recentBytes c.ticks (mapGet d.buf.departs q [])) 0xFFFFFFFE := by
  unfold Device.residenceOf
  simp only
  split
  · rfl
  · split <;> rfl

theorem exec_separatorEvaluate (hq : q < 262144) (hf : s.dev.forwarding = true) :
    exec (.separatorEvaluate q) s = .next { s with dev := s.dev.separate s.clk q } := by
  simp only [exec, execSeparatorEvaluate, Instr.wf, hq, hf, decide_true, onDev_true, if_true]

theorem exec_stackClosed (hk : k < 4) (hclosing : s.dev.sepState k = 1) (hempty : s.dev.vatInUse k = 0) :
    exec (.stackClosed k) s = .next { s with dev := s.dev.setFld Obj.sepStack k 127 120 2 } := by
  simp only [exec, execStackClosed, Instr.wf, hk, hclosing, hempty, decide_true, onDev_true, and_self, if_true]

/-- A cell of a buffer segment is in use. -/
def Device.segmentUsed (d : Device) (g : Nat) : Bool := d.buf.cells.any fun a => decide (a < onChipCells) && a / segmentCells == g

theorem Device.segmentUsed_iff {d : Device} : d.segmentUsed g = true ↔ ∃ a ∈ d.buf.cells, a < onChipCells ∧ a / segmentCells = g := by
  simp [Device.segmentUsed]

theorem exec_bufferSegmentRetired (hg : g < 48) (hretiring : s.dev.get Obj.bufSegmentState g = 1) :
    exec (.bufferSegmentRetired g) s
      = .next { s with dev := if s.dev.segmentUsed g = false then s.dev.set Obj.bufSegmentState g 2 else s.dev } := by
  simp only [exec, execBufferSegmentRetired, Instr.wf, hg, hretiring, decide_true, onDev_true, true_and, Bool.not_eq_true']
  rfl

end

/-- Settles O37: what an evaluation leaves, the releases from first to last, and the two retirements. -/
theorem separatorAndSegments : Obligations.SeparatorAndSegments := by
  refine ⟨fun s q hq hforwarding => ?evaluation, fun d c => ?releases, fun s k hk hclosing hempty => ?closed,
    fun s g hg hretiring => ?retired⟩
  case evaluation =>
    intro cells out shown cfg
    have hshown : residenceShown (s.dev.residenceOf s.clk q) = shown := s.dev.residenceShown_residenceOf s.clk q
    obtain ⟨m, hframe⟩ := s.dev.separate_frame s.clk q
    have hresidence : mapGet (s.dev.separate s.clk q).buf.residence q 0 = shown := by
      rw [hframe, ← hshown]
      exact mapGet_mapSet_same ..
    have hrest : (s.dev.separate s.clk q).chart = s.dev.chart ∧ (s.dev.separate s.clk q).buf.queues = s.dev.buf.queues
        ∧ (s.dev.separate s.clk q).buf.cells = s.dev.buf.cells := by
      rw [hframe]
      exact ⟨rfl, rfl, rfl⟩
    obtain ⟨hchart, hqueues, hcells⟩ := hrest
    refine ⟨_, exec_separatorEvaluate hq hforwarding, hresidence, hchart, hqueues, hcells, ?_, ?_, ?_⟩
    · exact fun hs hbelow => Device.separate_release hs (hshown ▸ hbelow)
    · exact Device.separate_off
    · exact fun st hs hon hafter hpail hvat hrate hst =>
        Device.separate_steer (Nat.ne_of_lt hq) hs hon (hshown ▸ hafter) hpail hvat hrate hst
  case releases =>
    intro d' steered rate10 limit10 qs
    have hreleases : Device.Releases c d d' := d.relieve_releases c _
    have hkept : d' = d.keepSteered d'.steers := Device.releases_eq hreleases
    have hrate : d.steeredRate10 c = rate10 qs := d.steeredRate10_eq c
    have hwithin : rate10 qs ≤ limit10 → d' = d := fun h => Device.relieve_within (Nat.le_trans (Nat.le_of_eq hrate) h)
    have hends : rate10 (qs.filter (steered d')) ≤ limit10 := by
      have hsuffices : d'.steeredRate10 c ≤ d'.budgetLimit10 := d.relieve_suffices (Nat.le_refl _)
      rw [hkept, Device.keepSteered_steeredRate10] at hsuffices
      exact hsuffices
    refine ⟨hkept, hwithin, hends, fun p q x hp hgone hq hx => ?_, fun hover => ?_⟩
    · have hleast : lessResidence (d.residenceOf c q) (d.residenceOf c p) = false := Device.releases_smallest hreleases hp hgone hq
      exact lessResidence_eq_false.1 hleast x hx
    · have hmoved : d' ≠ d := fun h => by
        have hd : d.steeredRate10 c ≤ d.budgetLimit10 := h ▸ d.relieve_suffices (c := c) (Nat.le_refl _)
        exact absurd (hrate ▸ hd) (Nat.not_le.2 hover)
      obtain ⟨q, hq, hgone, hlast⟩ := Device.releases_last hreleases hmoved
      exact ⟨q, hq, hgone, Nat.lt_of_lt_of_eq hlast (Device.keepSteered_steeredRate10 _)⟩
  case closed =>
    exact ⟨_, exec_stackClosed hk hclosing hempty, s.dev.rd_setFld_same .., fun o e hne => s.dev.get_setFld_other _ _ _ _ _ o e hne,
      s.dev.setFld_buf ..⟩
  case retired =>
    rw [exec_bufferSegmentRetired hg hretiring]
    refine ⟨fun hfree => ?_, fun hused => by rw [if_neg (Bool.not_eq_false _ ▸ Device.segmentUsed_iff.2 hused)]⟩
    have hunused : s.dev.segmentUsed g = false := Bool.eq_false_iff.2 fun hused => by
      obtain ⟨a, ha, hchip, hin⟩ := Device.segmentUsed_iff.1 hused
      exact hfree a ha hchip hin
    rw [if_pos hunused]
    exact ⟨_, rfl, s.dev.get_set_same .., fun o e hne => s.dev.get_set_other _ _ _ o e hne, rfl⟩

end Sys2Proof.Machine
end

section
/-! PROOFS. Admission (O36): an offer that the free cells would hold, and that is discarded because of a closer list of no port. -/

namespace Sys2Proof.Machine

/-- A device with one free cell on the chip and one cell in use, in segment 0, which is RETIRING. Its only closer list names port 65,536,
which the device does not have. -/
def strayCloser : Device :=
  let d := ((Tests.dev 6).setFld Obj.bufStatus 0 383 320 1).set Obj.bufSegmentState 0 1
  { d with buf := { d.buf with cells := [0], closers := [(8 * 65536, [])] } }

/-- A packet of one cell, without an ingress port, offered to queue 8 from Ladle pool 12. -/
def oneCellOffer : Offer :=
  { queue := 8, pool := 12, port := none, copy := false, punt := false, inject := false, record := 0, packet := natBe 60 0 }

/-- The Chart keeps BUF.PairState of port 65,536 and BUF.SegmentState of segment 0 at one key. The re-evaluation that admission begins with
reopens the pair, and with it makes the segment ACTIVE: its cell in use then counts against the one available cell, and none is free. -/
theorem takeOffer_strayCloser : (strayCloser.takeOffer Clk.reset oneCellOffer).2 = false := by decide +kernel

/-- Refutes O36: the statement counts the free cells before the re-evaluation of the pool and does not ask that the closer lists name ports
of the device. Where one names port 65,536 the re-evaluation takes the only free cell away, and the packet that the statement says is
admitted is discarded. -/
theorem not_admission : ¬Obligations.Admission := by
  rintro ⟨-, hadmission⟩
  let d := strayCloser
  let o := oneCellOffer
  have hsteps := hadmission d Clk.reset o rfl (by decide) (by decide) nofun
  extract_lets d0 r len cls counts loss closed room need fits d1 steered spilt admitted refused discarded headroomed at hsteps
  have hlossy : ¬(loss = true ∧ closed = true) := nofun
  have hopen : ¬(loss = false ∧ (closed = true ∨ d0.colourThreshold o.pool o.queue (fld o.record 299 298) ≤ d.depth o.queue)) := by
    decide +kernel
  have hunsteered : ¬((mapGet? d.buf.steered o.queue).isSome = true ∧ o.pool < 12 ∧ steered.isOk = true) := nofun
  have hroom : need ≤ room := by decide +kernel
  rw [if_neg hlossy, if_neg hopen, if_neg hunsteered, if_pos hroom] at hsteps
  obtain ⟨hadmitted, -⟩ := hsteps
  exact Bool.false_ne_true (takeOffer_strayCloser.symm.trans hadmitted)

end Sys2Proof.Machine
end
